-- ==== Sys2Proof/Word.lean ====
section
/-! DEFINITION. The word types of the model: bytes, byte strings, object keys and addresses. -/

namespace Sys2Proof

/-- One byte of memory or of a frame. -/
abbrev Byte := BitVec 8

/-- A string of bytes, first byte first. -/
abbrev Bytes := List Byte

/-- The home of an object: index times 256 plus sub-index, so 0x2200:01 is 0x220001. -/
abbrev Key := Nat

end Sys2Proof
end

