-- ==== Sys2Proof/Syntax.lean ====
section
/-! DEFINITION. The commands of the block: one constructor per row of spec/opcode_table.json, with the operands its rules need. -/

namespace Sys2Proof

/-- How a write reaches the block: an SDO write, a bus or register-window write, or a mapped RxPDO object (R11, R564, R568). -/
inductive Via where
  | sdo | reg | pdo
  deriving DecidableEq, Repr

/-- One sample of an encoder pair: the comparators of its P and N pins and its differential receiver (R42). -/
structure PairSample where
  p : Bool
  n : Bool
  d : Bool
  deriving DecidableEq, Repr

/-- One attempt to read a head's ID memory: the 64-bit ROM identifier, and the 4-byte head type with the CRC-8 of its transfer above it, both as numbers whose bit 0 came first (R142). -/
structure IdAttempt where
  rom : Nat
  mem : Nat
  deriving DecidableEq, Repr

/-- The masters of an SRAM or stack access by firmware or on the bus (R533, R535). -/
inductive Master where
  | firmware | window | maint
  deriving DecidableEq, Repr

/-- What the error correction finds in the word read by an access (R536, R537). -/
inductive EccFind where
  | clean | single | double
  deriving DecidableEq, Repr

/-- The AL states of R561. -/
inductive AlState where
  | init | preop | safeop | op | boot
  deriving DecidableEq, Repr

/-- The mailbox protocols that the slave does not support, and CoE as used in BOOT (R560). -/
inductive Protocol where
  | eoe | soe | aoe | voe | coe
  deriving DecidableEq, Repr

/-- The requester classes of the stack, in their order in the spec (01_architecture.md, Requesters). -/
inductive ReqClass where
  | render | ingest | capture | kaleido | predict | dma | firmware | maint
  deriving DecidableEq, Repr

/-- The events of a raster link's PCS (R212). -/
inductive PcsEvent where
  | clockRecovered | lockLost | hiBer | signalLost
  deriving DecidableEq, Repr

/-- The objects whose write resets the contone store (R235). -/
inductive StoreObj where
  | inputMode | planeMask | apronEnable | contoneBase | contoneSize
  deriving DecidableEq, Repr

/-- The objects whose write clears the repeat store's presence bits alone (R245). -/
inductive RepeatObj where
  | enable | length | base | size
  deriving DecidableEq, Repr

/-- How a CCI transfer ended (R354): acknowledged, with the data read, or not acknowledged or timed out. -/
inductive CciEnd where
  | done (data : Nat)
  | failed
  deriving DecidableEq, Repr

/-- The kinds of stack ALERT (R498): read parity, write parity, command or address parity. -/
inductive AlertKind where
  | readParity | writeAlert | commandAlert
  deriving DecidableEq, Repr

/-- What declares reference loss (R609): the counts of the monitor's windows, latest last; the nanoseconds that XO_IN has shown no edge; the PLLs that have lost lock, PLL_C, PLL_T, PLL_M and PLL_P in bits 0 to 3. -/
inductive RefLossCause where
  | windows (counts : List Nat)
  | noEdge (ns : Nat)
  | unlock (plls : Nat)
  deriving DecidableEq, Repr

/-- What a segment of a segmented SDO write is: its first, one between, its last, or the abort that discards the write (R565). -/
inductive SegPart where
  | first | next | last | abort
  deriving DecidableEq, Repr

/-- An accepted edge of a pin: its direction, and the timing clocks for which its new level was held (R57, R59). -/
structure PinEdge where
  falling : Bool
  held : Nat
  deriving DecidableEq, Repr

/-- The timing clock of an operation, and the SRAM words that its reads find in error, true for one that cannot be corrected (R536, R537). -/
structure ReadAt where
  finds : List (Nat × Bool)
  t : Nat
  deriving DecidableEq, Repr

/-- The end of a render line: whether a write of its queue ends with an error response, and its timing clock (R273, R503). -/
structure LineEnd where
  wrErr : Bool
  t : Nat
  deriving DecidableEq, Repr

/-- The stack clocks of an ALERT: that of the command it is for, and its own (R496). -/
structure AlertSpan where
  start : Nat
  k : Nat
  deriving DecidableEq, Repr

/-- How a replay round ended: whether with an ALERT, and the words that failed their parity (R500 to R502). -/
structure RoundEnd where
  alert : Bool
  bad : List Nat
  deriving DecidableEq, Repr

/-- The end of a rebuild: the words that its copy could not read, by their new addresses, the SRAM words found in error, and its timing clock (R515, R532, R536, R537). -/
structure RebuildEnd where
  poison : List Nat
  finds : List (Nat × Bool)
  t : Nat
  deriving DecidableEq, Repr

/-- What a channel had moved when it was aborted: the bytes whose reads had been made, the words corrected, and the addresses of writes that collided (R535, R536, R551). -/
structure DmaMoved where
  written : Nat
  corrected : Nat
  collided : List Nat
  deriving DecidableEq, Repr

/-- What the bursts returned at a bus error complete: the bytes of each channel, the words corrected, and the writes that collided (R535, R536, R553). -/
structure DmaReturned where
  written : List Nat
  corrected : Nat
  collided : List (Fin 32 × Nat)
  deriving DecidableEq, Repr

/-- The data of a block access, and what each of its accesses meets: collisions and the find of the error correction (R535 to R537, R595). -/
structure BlockData where
  data : Bytes
  met : List (Nat × EccFind)
  deriving DecidableEq, Repr

/-- What the read of an MRAM record meets: the errors of its words, and a CRC that fails for another reason (R651). -/
structure MramRead where
  finds : List EccFind
  crcBad : Bool
  deriving DecidableEq, Repr

/-- What power-on finds: the level of VR_READY, and the reads of the latest and of the older copy of the lifetime totals (R638, R651). -/
structure PowerUp where
  vrHigh : Bool
  latest : MramRead
  older : MramRead
  deriving DecidableEq, Repr

/-- The images the boot ROM can read: both MRAM slots, and whether the header of the recovery flash checks (R628, R651). -/
structure BootImages where
  slotA : MramRead
  slotB : MramRead
  flashOk : Bool
  deriving DecidableEq, Repr

/-- The end of an ID read: the read of the port's health map entry that an enable makes, and its timing clock (R329, R651). -/
structure IdEnd where
  health : MramRead
  t : Nat
  deriving DecidableEq, Repr

/-- The commands of the block. -/
inductive Instr where
  /-- A bus or register-window write to a register field that has no row of its own takes effect according to its access code. (R11) -/
  | registerWrite (addr value hw : Nat)
  /-- A read of an RC register returns its value and then clears it, keeping any increment made in the same core clock. (R11) -/
  | rcRegisterRead (addr : Nat) (inc : Bool)
  /-- A read of the LO register of a read-only pair or latch captures its HI and companion registers. (R93) -/
  | pairLoRead (addr : Nat)
  /-- A write to the HI register of a read-write pair brings the held LO value and the HI value into force in one timing clock. (R93) -/
  | pairHiWrite (addr value : Nat)
  /-- A firmware or bus access to SRAM or the stack is decoded, checked for width and alignment, and made or refused with a decode error. (R38) -/
  | memoryAccess (master : Master) (write : Bool) (addr width value collide : Nat) (ecc : EccFind)
  /-- An SDO write to an object that has no row of its own is checked in the order of aborts and takes effect or ends with the first applicable abort. (R564) -/
  | sdoWrite (index sub : Nat) (data : Bytes) (complete : Bool)
  /-- A segment of a segmented DOMAIN write arrives, and the write takes effect in one core clock when the last segment arrives and every check passes. (R565) -/
  | sdoSegment (index sub : Nat) (data : Bytes) (part : SegPart)
  /-- A mailbox request of an unsupported protocol is answered with the mailbox error for an unsupported protocol. (R560) -/
  | mailboxUnsupported (protocol : Protocol)
  /-- A write through the standard EEPROM interface updates the SII emulated in MRAM while the AL state is INIT or PREOP. (R559) -/
  | siiWrite (offset word : Nat)
  /-- A write of 1 to ENC_EN starts counting from the present A and B levels, or is refused when the ratio is 0 or a checked pair is in disagreement. (R62) -/
  | encoderEnable (via : Via) (a b : Bool) (pairA pairB pairZ : PairSample) (t : Nat)
  /-- A write of 0 to ENC_EN stops the encoder and prepares the clearing of declared wire faults. (R47) -/
  | encoderDisable (via : Via) (t : Nat)
  /-- A pair of ENC_A or ENC_B in disagreement for 200 timing clocks is declared faulty, and counting stops. (R45) -/
  | wireFault (pairB : Bool) (samples : List PairSample) (t : Nat)
  /-- A pair of ENC_Z in disagreement for 200 timing clocks is declared faulty, and Z latching and the counts-per-Z check stop. (R46) -/
  | wireZ (samples : List PairSample) (t : Nat)
  /-- An accepted legal quadrature transition moves the count and the accumulator, and updates the tracking loop, the extrapolation and the prediction error. (R55) -/
  | countingEdge (onA : Bool) (held t : Nat)
  /-- A and B accepted at new levels in the same timing clock leave the count unchanged and adopt the new reference state. (R52) -/
  | illegalTransition (held t : Nat)
  /-- A rising edge of the accepted Z level is latched and checked against counts per Z. (R54) -/
  | zEvent (held t : Nat)
  /-- No counting edge within the stall time sets STALLED and resets the velocity. (R66) -/
  | stall (t : Nat)
  /-- The origin is latched from the LATCH_IN or Z edge awaited after START, setting ORIGIN_VALID and the high-water mark. (R59) -/
  | originLatch (edge : PinEdge) (t : Nat)
  /-- The selected edge of LATCH_IN records a web position and system time in the LATCH_IN latch. (R71) -/
  | latchInEdge (falling : Bool) (held t : Nat)
  /-- A SYNC0 event latches position, time and bar position, and samples and applies process data under sync type 2. (R71) -/
  | sync0Event (t : Nat)
  /-- A write of the bar mode starts BiSS-C or SSI operation, or is refused when the frame period is too short. (R83) -/
  | barModeWrite (via : Via) (mode : Nat)
  /-- A bar frame starts at the frame period or at SYNC0, taking the bar sample time at the first BAR_MA edge. (R82) -/
  | barFrameStart (slLow : Bool) (t : Nat)
  /-- A received bar frame is checked and either updates the bar position or is rejected. (R84) -/
  | barSample (word : Nat) (nE nW : Bool) (check t : Nat)
  /-- A missing Start bit or a BAR_SL line not returning high within the frame timeout rejects the sample and sets BAR_TIMEOUT. (R79) -/
  | barFrameTimeout (crcEnd : Option Nat) (t : Nat)
  /-- The web reaches a column's target in a port cycle, the column fires its job line, and the history status word is written. (R94) -/
  | lineEvent (n : Fin 16) (k : Fin 8) (t : Nat)
  /-- At an event's pending clock, a guarded position short of the target withdraws the event to gated mode. (R104) -/
  | eventWithdrawal (n : Fin 16) (k : Fin 8) (t : Nat)
  /-- At the load deadline the port samples and releases each column's slot and starts shifting the line load. (R106) -/
  | loadStart (n : Fin 16) (reads : ReadAt)
  /-- The load frame ends, and the port checks the group counts against the cap. (R146) -/
  | loadEnd (n : Fin 16) (t : Nat)
  /-- An LD pulse copies the shift chain and header into the head latches before the cycle's first strobe. (R153) -/
  | latchTransfer (n : Fin 16) (t : Nat)
  /-- A queued group slot issues its FE pulse, or a warming pulse, for the strobe width followed by the gap. (R154) -/
  | strobe (n : Fin 16) (t : Nat)
  /-- A cycle ends after the gap of its last strobe, starting the die temperature conversion and the thermal model update. (R97) -/
  | cycleEnd (n : Fin 16) (t : Nat)
  /-- The hold time after the last slow-request cause expires, and SLOW_REQ_L is released. (R113) -/
  | slowReqRelease (t : Nat)
  /-- A change of the SLOW_REQ_L pin level by any device is reported in the slow-request status. (R114) -/
  | slowReqPinChange (low : Bool) (t : Nat)
  /-- A write of 1 to 0x2300:10 locks the shadow set and computes each port's commit boundary, or refuses the commit. (R118) -/
  | armCommit (via : Via) (ckptErr t : Nat)
  /-- A port's part of the shadow set transfers once every enabled column has fired or blanked the commit boundary. (R121) -/
  | portTransfer (n : Fin 16)
  /-- Under CANNOT_MASK action 1 the engine enters HOLD when the port fire line reaches the boundary plus 256. (R324) -/
  | cannotMaskStop (n : Fin 16) (t : Nat)
  /-- The two copies of a scheduler pair differ, so every FE pair is held inert and the engine enters FAULT. (R129) -/
  | lockstepMismatch (pair : Fin 5) (t : Nat)
  /-- A head description record written to 0x3000+n:20 is checked and accepted, resetting the width, gap, cap and the port's maps and gains. (R139) -/
  | hdrWrite (via : Via) (n : Fin 16) (record : Bytes)
  /-- A write of 1 to the port enable starts the enable and the ID read, or is refused for the state. (R143) -/
  | portEnable (via : Via) (n : Fin 16) (t : Nat)
  /-- The head ID read completes, and the enable checks decide whether the port enters IDLE. (R143) -/
  | idReadDone (n : Fin 16) (absent : Bool) (first second : IdAttempt) (t : IdEnd)
  /-- A write of 0 to the port enable returns the outputs to idle after any strobe or flush in progress. (R144) -/
  | portDisable (via : Via) (n : Fin 16) (t : Nat)
  /-- A header-only frame is sent 100 µs after the latest frame of an enabled port when no load has started. (R152) -/
  | headerOnlyFrame (n : Fin 16) (t : Nat)
  /-- The latch echo verdict for the previous frame becomes available, and a mismatch rewrites the history and raises HEAD_ECHO. (R164) -/
  | echoVerdict (n : Fin 16) (bits t : Nat)
  /-- A zero flush frame and a latch transfer without FE are sent at job end, after a Wind-up, or at disable. (R165) -/
  | flushFrame (n : Fin 16) (t : Nat)
  /-- A write of 1 to the Wind-up command reads the source pattern and starts shots, or refuses the start. (R168) -/
  | windupStart (via : Via) (n : Fin 16) (reads : ReadAt)
  /-- At the Wind-up interval the port loads serially, transfers, and fires one FE pulse, ending after the last shot. (R169) -/
  | windupShot (n : Fin 16) (t : Nat)
  /-- A write of 2 to the Wind-up command ends the Wind-up after the shot in progress and flushes. (R170) -/
  | windupStop (via : Via) (n : Fin 16) (t : Nat)
  /-- A write of the descriptor word with DESC_CAP and READY readies a port line buffer slot. (R180) -/
  | slotDescWrite (n : Fin 16) (k : Fin 8) (dep : Fin 16) (cap : Nat) (ready : Bool) (t : Nat)
  /-- A die temperature conversion completes, and a valid sample updates the model and the die temperature. (R183) -/
  | tsConversionDone (n : Fin 16) (code t : Nat)
  /-- Every 100 µs while no cycle runs, the port samples its sense input and updates the die models. (R186) -/
  | thermalIdleTick (n : Fin 16) (t : Nat)
  /-- With no valid measurement within 1 ms of the enable, the model is set to the reference temperature. (R189) -/
  | modelInitTimeout (n : Fin 16) (t : Nat)
  /-- Every 1 ms the device computes each die's time to limit. (R190) -/
  | ttlUpdate (t : Nat)
  /-- A write of 1 to the limit clear clears the limit latch when every die is below T_WARN. (R195) -/
  | limitClear (via : Via) (n : Fin 16)
  /-- Every 1 ms the heater NTC is converted, averaged, and turned into a temperature. (R196) -/
  | ntcConversion (h : Fin 4) (code t : Nat)
  /-- At the end of each PID period the heater duty is computed. (R199) -/
  | pidUpdate (h : Fin 4) (t : Nat)
  /-- The NTC voltage below the cut threshold drives HTh_PWM low without a clock and puts the channel into CUT. (R200) -/
  | heaterCut (h : Fin 4) (t : Nat)
  /-- A write of 1 to the cut clear clears CUT when the comparator is not tripped. (R201) -/
  | cutClear (via : Via) (h : Fin 4)
  /-- A write of the heater mode starts PID or manual control, or leaves SENSOR_FAULT, or is refused. (R202) -/
  | heaterModeWrite (via : Via) (h : Fin 4) (mode : Nat)
  /-- A write of a raster link enable takes the link out of OFF, or is refused when its addresses are 0. (R213) -/
  | linkEnable (via : Via) (l : Fin 2) (value t : Nat)
  /-- A PCS event, such as clock recovery, a loss of block lock or hi_ber, moves the link between NO_SIGNAL and LOCKING. (R212) -/
  | linkSignalEvent (l : Fin 2) (event : PcsEvent) (t : Nat)
  /-- Block lock is held for 1 ms without interruption, and the link enters UP. (R212) -/
  | linkUp (l : Fin 2) (t : Nat)
  /-- A received Ethernet frame is checked as a KRT packet, or is dropped and counted. (R214) -/
  | frameReceived (l : Fin 2) (frame : Bytes) (fcsOk wrErr : Bool) (t : Nat)
  /-- An ARP request for the link's address is answered with an ARP reply. (R215) -/
  | arpRequest (l : Fin 2) (dst target mac ip t : Nat)
  /-- A status request sets the link's addressing and is answered at once with a STATUS packet. (R215) -/
  | statusRequest (l : Fin 2) (mac ip port t : Nat)
  /-- A KRT tile fragment is judged in order and dropped, answered by NAK, or entered into its reassembly context. (R693) -/
  | tilePacket (l : Fin 2) (mac ip port : Nat) (payload : Bytes) (wrErr : Bool) (t : Nat)
  /-- A context that holds every byte is decoded and CRC-checked, and the tile becomes present or is answered by NAK. (R223) -/
  | tileComplete (rep : Bool) (seq t : Nat)
  /-- A context that is incomplete at the fragment timeout is discarded and answered with NAK reason INCOMPLETE. (R222) -/
  | fragmentTimeout (rep : Bool) (seq t : Nat)
  /-- The NAK timeout passes after a higher tile became present, and the missing sequence number is answered with NAK MISSING. (R225) -/
  | nakTimeout (t : Nat)
  /-- One NAK interval after a NAK for a tile that is still absent, the NAK is repeated or the tile is declared lost. (R226) -/
  | nakIntervalExpiry (rep : Bool) (seq t : Nat)
  /-- An open NAK packet is sent after 10 µs or when it holds 64 entries. (R227) -/
  | nakSend (l : Fin 2) (t : Nat)
  /-- Each qualifying link sends a STATUS packet every status interval. (R229) -/
  | statusInterval (t : Nat)
  /-- A write of the job identifier resets the contone store and sends STATUS at once. (R235) -/
  | jobIdWrite (via : Via) (value t : Nat)
  /-- A write of the input mode, plane mask, apron enable or contone region resets the store and recomputes its slots. (R235) -/
  | storeConfigWrite (via : Via) (obj : StoreObj) (value : Nat)
  /-- A write of the repeat enable, the repeat length or the repeat region clears every presence bit of the repeat store. (R245) -/
  | repeatConfigWrite (via : Via) (obj : RepeatObj) (value : Nat)
  /-- A tile row is released once every column has fired or blanked its last line and the render under filter 1 has passed it. (R238) -/
  | rowRelease
  /-- Render starts a port line once it is within the run-ahead depth and its rows are complete. (R270) -/
  | renderLineStart (n : Fin 16) (fetchErr : Bool) (t : Nat)
  /-- A screened port line is written to its queue entry, and the descriptor is written with VALID last. (R273) -/
  | renderLineDone (n : Fin 16) (ends : LineEnd)
  /-- The 100 ms window of the lane under test ends, the test is judged, and the rotation moves on. (R287) -/
  | laneTestWindow (pass : Bool) (t : Nat)
  /-- The next lane enters test once it has handed every port it serves to the lane leaving test. (R287) -/
  | laneEntersTest (t : Nat)
  /-- A lane's retest completes, and the lane returns to service or is retired. (R644) -/
  | laneRetestDone (lane : Fin 17) (pass : Bool) (t : Nat)
  /-- Jigsaw takes a queued line, assigns twins, balances and clips groups, packs it, checks it and writes the history. (R309) -/
  | jigsawLineTake (n : Fin 16) (readErr histErr fault : Bool) (t : Nat)
  /-- Jigsaw copies a column line into its released slot and readies the descriptor. (R316) -/
  | slotCopy (n : Fin 16) (k : Fin 8) (readErr : Bool) (t : Nat)
  /-- A Jigsaw map written to 0x3800+n:01 is checked against the record and span and stored in the shadow set. (R304) -/
  | mapWrite (n : Fin 16) (map : Bytes)
  /-- A nozzle state edit through 0x3800+n:03 or JG_EDIT writes one nozzle's state into the shadow map. (R305) -/
  | nozzleStateEdit (via : Via) (n : Fin 16) (value : Nat)
  /-- A write of 1 to the firing counter reset sets every firing counter of the port to 0. (R329) -/
  | firingCounterReset (via : Via) (n : Fin 16) (value : Nat)
  /-- A write of the capture enable starts the camera port, or is refused for too few slots or a bad width. (R351) -/
  | captureEnable (via : Via) (c : Fin 2) (value t : Nat)
  /-- A frame start packet opens a frame, numbers it, latches its start tag and takes a slot or counts an overrun. (R342) -/
  | frameStart (c : Fin 2) (vc fn : Nat) (ecc : EccFind) (t : Nat)
  /-- An image, embedded or other packet is ECC-checked and stored, dropped or counted. (R343) -/
  | cameraPacket (c : Fin 2) (vc dt : Nat) (payload : Bytes) (ecc : EccFind) (crcOk wrErr : Bool) (t : Nat)
  /-- A frame end packet closes the frame, which is delivered or discarded. (R344) -/
  | frameEnd (c : Fin 2) (vc : Nat) (ecc : EccFind) (t : Nat)
  /-- A frame not ended within the frame watchdog is aborted with outcome TIMED_OUT. (R344) -/
  | frameWatchdog (c : Fin 2) (t : Nat)
  /-- In trigger mode 1 the extrapolated web position reaches the next trigger target, and CAMc_TRIG is raised. (R346) -/
  | webTrigger (c : Fin 2) (t : Nat)
  /-- A write of 1 to the trigger command raises one trigger pulse in mode 2. (R346) -/
  | triggerCommand (via : Via) (c : Fin 2) (value t : Nat)
  /-- The trigger width expires, and CAMc_TRIG returns low. (R346) -/
  | triggerPulseEnd (c : Fin 2) (t : Nat)
  /-- A settings set posted to 0x4000+c:14 becomes pending, replacing any pending set. (R356) -/
  | settingsSetWrite (c : Fin 2) (data : Bytes)
  /-- A CCI transfer completes, is repeated once, or fails as a CCI error. (R354) -/
  | cciTransferDone (c : Fin 2) (outcome : CciEnd) (t : Nat)
  /-- A direct CCI transfer written to 0x4000+c:15 runs at once or after the set being written. (R359) -/
  | directTransfer (via : Via) (c : Fin 2) (value : Nat)
  /-- A write of the hold mask holds or releases frame slots, or is refused as a whole. (R360) -/
  | holdMaskWrite (via : Via) (c : Fin 2) (value : Nat)
  /-- A write of a slot number queues a held frame for reprocessing. (R362) -/
  | reprocess (via : Via) (c : Fin 2) (slot : Nat)
  /-- No frame start for the stall time while printing sets STALLED and raises CAMERA_STALL. (R363) -/
  | cameraStall (c : Fin 2) (t : Nat)
  /-- Kaleidoscope takes the earliest waiting frame, snapshots its parameters and starts processing it. (R353) -/
  | frameTake (readErr : Bool) (t : Nat)
  /-- Kaleidoscope writes a complete output record with its CRC, and the slot becomes REFERENCE. (R382) -/
  | recordComplete (t : Nat)
  /-- A write to a process parameter increments the parameter sequence and applies from the next take. (R368) -/
  | processParamWrite (via : Via) (key : Nat) (data : Bytes)
  /-- A write of 1 to the parameter freeze takes a snapshot at once, and a write of 0 releases it. (R369) -/
  | parameterFreeze (via : Via) (value : Nat)
  /-- A write of the Kaleidoscope enable empties the ring and starts taking frames, or stops after the frame in progress. (R384) -/
  | kaleidoEnable (via : Via) (value : Nat)
  /-- A read of 0x4100:40 returns the record header at the cursor without moving it. (R383) -/
  | statsRead
  /-- A read of 0x4100:41 returns the record header at the cursor and advances the cursor when VALID. (R383) -/
  | statsReadAdvance
  /-- The analyser takes the next completed record, predicts, scores blocks, and declares streaks, band reads and gain batches. (R422) -/
  | analyseRecord (t : Nat)
  /-- A waiting band request is placed in the first gap occurrence that meets the placement conditions. (R409) -/
  | bandPlacement (t : Nat)
  /-- In autonomous mode, a batch is written into the shadow set and COMMIT is armed once the set is open and unedited. (R417) -/
  | batchApply (ckptErr t : Nat)
  /-- A mute whose commit has not completed within the mute timeout ends. (R405) -/
  | muteTimeout (t : Nat)
  /-- A mean die temperature off the calibration temperature for 1 s makes the next gain batch a full recalibration. (R415) -/
  | recalibration (n : Fin 16) (t : Nat)
  /-- A write of 1 to the analyser command requests a GEOMETRY band. (R413) -/
  | geometry (via : Via)
  /-- A write of 2 to the analyser command ends every mute. (R405) -/
  | clearMutes (via : Via)
  /-- A write of 3 to the analyser command restores the dead-mark budget of every port. (R418) -/
  | restoreBudgets (via : Via)
  /-- In supervised mode, a write of a RESULT_SEQ to 0x4200:42 copies that result's action into the shadow set. (R419) -/
  | apply (via : Via) (seq : Nat)
  /-- A read of 0x4200:40 returns the result at the cursor without moving it. (R421) -/
  | resultRead
  /-- A read of 0x4200:41 returns the result at the cursor and advances the cursor when VALID. (R421) -/
  | resultReadAdvance
  /-- A write of the axis enable moves the axis between OFF and IDLE. (R436) -/
  | axisEnable (via : Via) (a : Fin 4) (value t : Nat)
  /-- Command 1 moves the axis to the target. (R438) -/
  | moveAbsolute (via : Via) (a : Fin 4) (t : Nat)
  /-- Command 2 moves the axis by the target. (R438) -/
  | moveRelative (via : Via) (a : Fin 4) (t : Nat)
  /-- Command 3 runs the axis at the target velocity. (R438) -/
  | velocity (via : Via) (a : Fin 4) (t : Nat)
  /-- Command 4 decelerates the axis to rest and enters IDLE. (R438) -/
  | axisStop (via : Via) (a : Fin 4) (t : Nat)
  /-- Command 5 decelerates the axis at the quick-stop deceleration. (R440) -/
  | quickStop (via : Via) (a : Fin 4) (t : Nat)
  /-- Command 6 starts the reference search against a hard stop. (R443) -/
  | home (via : Via) (a : Fin 4) (t : Nat)
  /-- Command 7 anchors the axis to the web and ramps the gear ratio up. (R448) -/
  | engageGear (via : Via) (a : Fin 4) (t : Nat)
  /-- Command 8 ramps the gear ratio to 0 and enters IDLE. (R438) -/
  | disengageGear (via : Via) (a : Fin 4) (t : Nat)
  /-- Command 9 sets the commanded position and output count without stepping. (R438) -/
  | setPosition (via : Via) (a : Fin 4) (t : Nat)
  /-- Command 10 returns a faulted axis to IDLE. (R438) -/
  | axisClearFault (via : Via) (a : Fin 4) (t : Nat)
  /-- A move ends exactly on its target, MOVE_DONE sets, and the axis enters IDLE. (R441) -/
  | moveDone (a : Fin 4) (t : Nat)
  /-- A velocity move comes to rest at a soft limit and holds. (R442) -/
  | limitReached (a : Fin 4) (t : Nat)
  /-- A DIAG level held for the filter time is taken as a stall, homing the axis or handled by the DIAG action. (R446) -/
  | diagStall (a : Fin 4) (level : Bool) (held t : Nat)
  /-- The search distance passes without a stall, and the axis stops and enters FAULT. (R445) -/
  | homeFail (a : Fin 4) (t : Nat)
  /-- The back-off move after a stall ends, and HOME_DONE sets. (R444) -/
  | homeDone (a : Fin 4) (t : Nat)
  /-- The web reaches the master position of the head segment, which becomes current and ramps the ratio. (R449) -/
  | segment (a : Fin 4) (t : Nat)
  /-- A write to the segment queue appends segments or empties the queue. (R450) -/
  | segmentQueueWrite (a : Fin 4) (data : Bytes)
  /-- A geared or walk axis over its maximum velocity or at a soft limit stops and enters FAULT. (R451) -/
  | gearedAxisFault (a : Fin 4) (t : Nat)
  /-- A write of the walk enable starts or ends the bar walk of an axis. (R453) -/
  | walkEnable (via : Via) (a : Fin 4) (value t : Nat)
  /-- A 64-byte stack access is decoded and accepted into its channel's read or write queue. (R468) -/
  | stackRequest (cls : ReqClass) (port addr : Nat) (write : Bool) (data : Bytes) (mask k : Nat)
  /-- A channel issues the next command chosen by the service order and timings. (R471) -/
  | stackCommandIssue (c : Fin 8) (k : Nat)
  /-- A request reaches its latency target, and its class's target-miss counter increments. (R470) -/
  | targetMiss (c : Fin 8) (k : Nat)
  /-- The page idle timer of a bank expires, and its row is precharged. (R476) -/
  | pageIdleExpiry (c : Fin 8) (bank : Fin 32) (k : Nat)
  /-- The refresh interval elapses, and a bank's owed count increments. (R477) -/
  | refreshDue (c : Fin 8) (bank : Fin 32) (k : Nat)
  /-- A new refresh window empties every row-disturb table and ends the throttles. (R480) -/
  | refreshWindowStart (k : Nat)
  /-- Every 1 ms the stack temperature is read and the double-refresh, throttle or trip stage is entered or left. (R484) -/
  | stackTempReading (temps : List Int) (t : Nat)
  /-- A 64 µs throttle window ends, and INGEST and CAPTURE access allowances are renewed. (R485) -/
  | thermalThrottleWindow (k : Nat)
  /-- After 1 s below 93 °C, the stack leaves self-refresh following a trip. (R486) -/
  | overtempRecovery (t : Nat)
  /-- A write of 1 to the self-refresh command in DISABLED puts the stack into self-refresh. (R487) -/
  | selfRefreshEnter (via : Via) (t : Nat)
  /-- A write of 2 to the self-refresh command in DISABLED takes the stack out of self-refresh. (R490) -/
  | selfRefreshExit (via : Via) (t : Nat)
  /-- Self-refresh entry completes after the queues are drained with errors and every bank is precharged. (R488) -/
  | selfRefreshEntryDone (t : Nat)
  /-- Self-refresh exit with quick training completes, and channels accept requests again. (R490) -/
  | selfRefreshExitDone (eyes : List (Fin 8 × Nat × Nat)) (k : Nat)
  /-- A write of the address-map order in DISABLED is stored in MRAM for the next reset. (R465) -/
  | addressMapWrite (via : Via) (value : Nat)
  /-- Power-up training of a channel completes, and the channel enters ACTIVE or is retired. (R507) -/
  | trainingDone (c : Fin 8) (eyes : List (Nat × Nat)) (k : Nat)
  /-- An ALERT from a DRAM die, or read data failing parity, starts a replay round. (R498) -/
  | alert (c : Fin 8) (kind : AlertKind) (words : List Nat) (addr : Nat) (span : AlertSpan)
  /-- A replay round ends, masking the error or starting another round, a retrain or a persistent read error. (R500) -/
  | replayRoundDone (c : Fin 8) (ends : RoundEnd) (k : Nat)
  /-- Quick training of a channel completes, re-centring every eye and checking every lane. (R508) -/
  | quickTrainingDone (c : Fin 8) (eyes : List (Nat × Nat)) (k : Nat)
  /-- Ten microseconds after a persistent read error, MAINT retests the 64 bytes. (R502) -/
  | retestRead (c : Fin 8) (ok : Bool) (poison : List Nat) (k : Nat)
  /-- Every 100 ms the eye of each lane is swept, setting EYE_WARN or starting quick training. (R509) -/
  | eyeSweep (c : Fin 8) (eyes : List (Nat × Nat)) (k : Nat)
  /-- MAINT reads the next 64 bytes of the populated stack within the patrol period. (R510) -/
  | patrolRead (ok : Bool) (k : Nat)
  /-- A stack rebuild or page copy completes, and the fixed regions are placed at their new bases. (R520) -/
  | rebuildDone (ends : RebuildEnd)
  /-- A write of 1 to the MBIST command in DISABLED starts MBIST on the selected channels. (R522) -/
  | mbistRun (via : Via) (t : Nat)
  /-- A write of 2 to the MBIST command aborts the run after the row in progress. (R522) -/
  | mbistAbort (via : Via) (t : Nat)
  /-- MBIST ends, spares failing rows, retrains, rebuilds and reports its result. (R523) -/
  | mbistDone (rows : List (Fin 8 × Fin 32 × Nat)) (eyes : List (Fin 8 × Nat × Nat)) (t : Nat)
  /-- The JTAG instruction STK_WIR connects the IEEE 1500 wrapper instruction register of the selected die. (R524) -/
  | stkWir
  /-- The JTAG instruction STK_WDR connects the selected wrapper data register of the selected die. (R524) -/
  | stkWdr
  /-- A write of 1 to the clear lists object erases the stack repair lists at the next reset. (R525) -/
  | clearLists (via : Via)
  /-- A write of 1 to the stack-loss clear resets every port's stack-loss range. (R504) -/
  | stackLossClear (via : Via) (value : Nat)
  /-- Each scrub interval reads and corrects one word of every SRAM bank. (R539) -/
  | scrubStep (found : List (Nat × Bool))
  /-- The clearing of the SRAM after reset completes, and INIT_DONE sets. (R540) -/
  | sramClearDone
  /-- A write of 1 to the DMA command starts the channel at its first descriptor. (R549) -/
  | dmaStart (via : Via) (ch : Fin 32) (t : Nat)
  /-- A write of 2 to the DMA command stops further reads and ends the channel ABORTED. (R551) -/
  | dmaAbort (via : Via) (ch : Fin 32) (moved : DmaMoved) (t : Nat)
  /-- The channel fetches and checks the next descriptor, refusing it with DESC_ERROR when it is invalid. (R545) -/
  | descriptorFetch (ch : Fin 32) (reads : ReadAt)
  /-- A descriptor's writes complete, status is written, and an event is raised when asked. (R550) -/
  | descriptorComplete (ch : Fin 32) (corrected : Nat) (collided : List Nat) (t : Nat)
  /-- A DMA access ends with an error response, and every running channel stops with BUS_STOPPED. (R553) -/
  | dmaBusError (ch : Fin 32) (write : Bool) (addr cause : Nat) (moved : DmaReturned) (t : Nat)
  /-- A write of 1 to the bus error clear clears BUS_STOPPED. (R554) -/
  | busErrorClear (via : Via)
  /-- A requested AL state transition is made or refused with an AL status code. (R561) -/
  | alStateRequest (target : AlState) (sm0 sm1 sm2 sm3 sync0 firstOut : Nat) (bootMbx : Bool) (t : Nat)
  /-- The SM2 watchdog expires in OP, and the slave enters SAFEOP. (R563) -/
  | watchdog (t : Nat)
  /-- An SM2 write delivers RxPDO data, which is applied under the sync type along with any mapped command. (R568) -/
  | processDataOutput (data : Bytes) (t : Nat)
  /-- Under sync type 0, inputs are sampled every 125 µs. (R568) -/
  | inputSample (t : Nat)
  /-- The system-time difference stays within the DC sync window for 100 ms, and the DC state becomes 2. (R569) -/
  | dcSynchronised (diffs : List (Nat × Int)) (t : Nat)
  /-- A system-time difference above the window returns the DC state to 1. (R569) -/
  | dcUnsync (diff : Int) (t : Nat)
  /-- A write of save to 0x1010:01 stores the configuration in MRAM. (R573) -/
  | storeParameters (value : Nat)
  /-- A write of load to 0x1011:01 erases the stored configuration at the next reset. (R573) -/
  | restoreDefaultParameters (value : Nat)
  /-- After the start-up self-test, the stored configuration is checked and written back before the AL state leaves INIT. (R575) -/
  | configRestore (eccBad : MramRead)
  /-- Command 1 moves the engine from DISABLED to STANDBY. (R578) -/
  | enable (via : Via) (t : Nat)
  /-- Command 2 moves the engine from STANDBY to DISABLED. (R578) -/
  | disable (via : Via) (t : Nat)
  /-- Command 3 makes the ARM checks and moves the engine to ARMED. (R579) -/
  | arm (via : Via) (pairFails : List (Fin 5)) (t : Nat)
  /-- Command 4 sets the last line, latches the origin where its source allows, and enters PRINTING. (R580) -/
  | start (via : Via) (t : Nat)
  /-- Command 5 sets a new last line for the job. (R581) -/
  | drain (via : Via) (t : Nat)
  /-- Command 6 moves the engine to HOLD. (R578) -/
  | hold (via : Via) (t : Nat)
  /-- Command 7 returns the engine to the state that HOLD was entered from. (R578) -/
  | resume (via : Via) (t : Nat)
  /-- Command 8 ends the job at once and moves the engine to STANDBY. (R578) -/
  | stop (via : Via) (t : Nat)
  /-- Command 9 moves the engine from FAULT to DISABLED when no lasting cause remains. (R578) -/
  | clearFault (via : Via) (t : Nat)
  /-- Command 10 arms COMMIT of the shadow set. (R578) -/
  | commit (via : Via) (ckptErr t : Nat)
  /-- A queued emergency message is placed in the free SM1 mailbox buffer. (R592) -/
  | emergencySend
  /-- An SDO read or write of 0x5F00:03 makes one register window access at the address and width in force. (R594) -/
  | windowAccess (write : Bool) (value collide : Nat) (ecc : EccFind)
  /-- An SDO access of 0x5F00:05 makes a block of register window accesses in ascending address order. (R595) -/
  | windowBlockAccess (write : Bool) (block : BlockData)
  /-- An FoE write of fw in BOOT writes the firmware image to the unused MRAM slot. (R599) -/
  | foeFwWrite (image : Bytes)
  /-- An FoE write of hdr00 to hdr15 writes a head description record as under R139. (R598) -/
  | foeHdrWrite (n : Fin 16) (record : Bytes)
  /-- An FoE read of hdr00 to hdr15 returns the record in force of that port. (R598) -/
  | foeHdrRead (n : Fin 16)
  /-- An FoE read of log returns the MRAM event log oldest first. (R654) -/
  | foeLogRead
  /-- Power-on resets the device and starts the clock state machine. (R626) -/
  | powerOn (straps : Nat) (safeHigh : Bool) (vrHigh : PowerUp)
  /-- RESET_L held low resets every block except VBAT and MRAM. (R626) -/
  | resetPin (straps : Nat) (safeHigh vrHigh : Bool)
  /-- A write of 0x7465_7372 to 0x2100:0E resets the device 1 ms after the response. (R626) -/
  | softwareReset (via : Via) (value : Nat) (straps : Nat)
  /-- A monitored rail below its brown-out threshold forces the outputs inert and holds reset. (R625) -/
  | brownOut
  /-- The RC oscillator starts running, and the controller enters REF_WAIT. (R607) -/
  | rcReady
  /-- The reference stays active for the settle delay, and the PLLs start locking. (R608) -/
  | refReady (activeUs : Nat)
  /-- All four PLLs lock, and the device enters RUN and selects its boot image. (R607) -/
  | pllLocked (romOk : BootImages)
  /-- A PLL not locked within 200 µs sets PLL_FAIL and returns the controller to REF_WAIT. (R608) -/
  | pllFail
  /-- Reference loss or PLL unlock forces outputs inert, puts the stack into self-refresh, enters FAULT and CLOCK_HOLD. (R610) -/
  | refLoss (cause : RefLossCause) (t : Nat)
  /-- The reference returns and the PLLs lock, so the device leaves CLOCK_HOLD with the engine in FAULT. (R612) -/
  | holdExit (t : Nat)
  /-- The RC counts outside its range over 100 µs, and RC_FAULT sets. (R614) -/
  | rcFault (cycles t : Nat)
  /-- A write of the core source switches the core domain glitch-free, or is refused. (R615) -/
  | coreSourceSwitch (via : Via) (source : Nat)
  /-- A write of the requested P-state starts the voltage and divider sequence. (R619) -/
  | pstateRequest (via : Via) (point : Nat)
  /-- The VR settles or times out, and the new point comes into force or the change is abandoned. (R619) -/
  | pstateDone (vrReady : Bool) (waitedUs : Nat)
  /-- VR_READY low after its filter outside a change forces P3 and puts the engine into FAULT. (R620) -/
  | vrFault (t : Nat)
  /-- A write of the clock gates opens or closes block gates, or refuses a close. (R621) -/
  | clockGateWrite (via : Via) (gates busy : Nat)
  /-- A bus access still in progress 64 core clocks after a close is cut, and GATE_ABORT sets. (R623) -/
  | gateAbort (gate : Nat)
  /-- SAFE_L low forces outputs inert, enters FAULT and turns off ports, axes and heaters. (R630) -/
  | safeLLow (t : Nat)
  /-- Every 1 ms the logic junction temperature is read, and warning or trip is applied. (R631) -/
  | junctionReading (temp : Int) (t : Nat)
  /-- A write of 0x2100:10 sets the RTC and sets RTC_VALID. (R633) -/
  | rtcWrite (via : Via) (value : Nat)
  /-- A loss of VBAT domain power, or an RTC crystal stopped for 1 s, clears RTC_VALID and the retention memory. (R633) -/
  | rtcStop
  /-- Each whole second in RUN or CLOCK_HOLD increments the operating-hours counter. (R633) -/
  | operatingHoursTick
  /-- The start-up self-test ends with PASS, PASS_DEGRADED or FAIL. (R649) -/
  | startupSelftestDone (lanes lanesRetest pairs pairsRetest : Nat) (checker crc : Bool) (mram : MramRead) (t : Nat)
  /-- The checkpoint interval expires, or the engine enters DISABLED, and a counter checkpoint starts. (R638) -/
  | counterCheckpoint
  /-- A write of 1 to the health command requests a counter checkpoint. (R638) -/
  | checkpoint (via : Via)
  /-- A counter checkpoint completes writing MRAM, and CHECKPOINT sets. (R638) -/
  | checkpointDone
  /-- A write of 2 to the health command erases retired lanes and pairs at the next reset. (R658) -/
  | clearRetirements (via : Via)
  /-- A write of 3 to the health command empties the event log. (R653) -/
  | clearLog (via : Via)
  /-- SAFE_L returns high, clearing SAFE_LOW and ending SAFE_L as a lasting cause that refuses CLEAR_FAULT. (R630) -/
  | safeLHigh
  /-- VR_READY has been high for 1 ms after a VR fault, so requests to a higher operating point and CLEAR_FAULT are accepted again. (R620) -/
  | vrReadyRestored
  /-- The HTh_NTC voltage rises back above the cut threshold, so the comparator is no longer tripped and CMP_TRIP clears. (R201) -/
  | cutComparatorRelease (h : Fin 4)
  /-- After a brown-out, every monitored rail has been back within range for 1 ms, and the controller leaves RESET for RC_START. (R625) -/
  | railsBackInRange (straps : Nat)
  /-- In REF_WAIT or CLOCK_HOLD a reference monitor window counts out of range, and the settle delay restarts. (R608) -/
  | refWindowOutOfRange (count : Nat)
  /-- A stop or quick stop decelerates the axis to rest, or a disengage ramp reaches ratio 0, and the axis enters IDLE. (R438) -/
  | motionAtRest (a : Fin 4) (t : Nat)
  /-- The master activates distributed clocks, and the DC state changes from 0 to 1, unsynchronised. (R569) -/
  | dcActivation
  deriving DecidableEq, Repr

end Sys2Proof
end

