-- ==== Sys2Proof/Config.lean ====
section
/-! DEFINITION. What an implementation fixes and what the spec leaves open: constants with no body, so that no proof can see a value. -/

namespace Sys2Proof

/-- The fused device serial of 0x2000:05 (R600); the spec gives no value. -/
opaque Config.deviceSerial : Nat

/-- The die revision string of 0x1009 (R571); the spec gives no value. -/
opaque Config.dieRevision : Bytes

/-- The version word of the ROM that runs when no firmware image checks (R628); the spec gives no value. -/
opaque Config.romVersion : Nat

/-- The n-th free value drawn where a command's rule gives an effect but does not state a value (the TNR shift, a mean NTC code of 0, fields that a result does not use); `State.draws` counts them. -/
opaque Config.freeNat : Nat → Nat

/-- The n-th correction in ns of the timing domain's copy of system time by the distributed-clock control loop (R29), whose law the spec does not give. -/
opaque Config.dcCorrection : Nat → Int

/-- Whether SYNC0 (0) or SYNC1 (1), while activated, is within its pulse at a timing clock (R570); the standard DC registers that set pulse length and shift have no layout in the spec. -/
opaque Config.syncPulse : Nat → Nat → Bool

/-- A free byte: what a DMA channel reads where its own stream has replaced the source (R543), and what the analyser's work areas (R427) and MAINT's staging area (R532) hold where the spec does not say; by a number that counts such bytes. -/
opaque Config.freeByte : Nat → Byte

/-- Rounding of the reported velocity after the n-th loop correction, in units of its least significant bit; R63 allows the device to differ from exact arithmetic by at most 2 units, and the model clamps it so. -/
opaque Config.velocityRound : Nat → Int

/-- Whether a result that its format cannot hold exactly is taken as the code above it instead of the code below it, where the spec states no rounding. -/
opaque Config.roundsUp : Rat → Bool

/-- The 10-bit DAC code of a heater's cut threshold for its cut temperature, nominal resistance and beta (R200, R210); the spec gives the DAC no scale. -/
opaque Config.cutDac : Nat → Nat → Nat → Nat

/-- A quotient whose divisor is 0, by its dividend, where the spec states no result. -/
opaque Config.overZero : Rat → Rat

/-- Stack clocks from a read command to its first data, which the spec does not give. -/
opaque Config.readLatency : Nat

/-- Stack clocks from a write command to its first data, which the spec does not give. -/
opaque Config.writeLatency : Nat

/-- The image in the QSPI recovery flash (R628), which lies outside the device. -/
opaque Config.recoveryImage : Bytes

/-- The version word of a firmware image, whose header the spec does not lay out (R600). -/
opaque Config.imageVersion : Bytes → Nat

/-- The software version string of 0x100A for a version word (R571); the spec gives no form. -/
opaque Config.softwareVersion : Nat → Bytes

/-- Whether a firmware image's header CRC-32C checks (R599, R628), whose layout the spec does not give. -/
opaque Config.imageOk : Bytes → Bool

/-- Size in bytes of a stored configuration (R600), whose image the spec does not lay out. -/
opaque Config.configSize : List (Nat × Bytes) → Nat

end Sys2Proof
end

