-- ==== Sys2Proof/Machine/Bits.lean ====
section
/-! DEFINITION. Bit fields, two's complement and little-endian byte strings (00_scope.md, Numbers and notation; R5). -/

namespace Sys2Proof.Machine

/-- Field of `w` bits of `v` from bit `lo`. -/
def field (v lo w : Nat) : Nat := (v >>> lo) % 2 ^ w

/-- `v` with the field of `w` bits from bit `lo` replaced by `x`. -/
def putField (v lo w x : Nat) : Nat :=
  (v >>> (lo + w)) <<< (lo + w) + (x % 2 ^ w) <<< lo + v % 2 ^ lo

/-- `v` with bit `i` equal to `b`. -/
def putBit (v i : Nat) (b : Bool) : Nat := putField v i 1 (if b then 1 else 0)

/-- 1 for true and 0 for false. -/
def b2n (b : Bool) : Nat := if b then 1 else 0

/-- `x` put into `l` before the first element that it does not follow. -/
def insertBy {α : Type} (le : α → α → Bool) (x : α) : List α → List α
  | [] => [x]
  | a :: t => if le x a then x :: a :: t else a :: insertBy le x t

/-- The elements of a list in the order of `le`, equal ones as they stood. -/
def sortBy {α : Type} (le : α → α → Bool) (l : List α) : List α := l.foldr (insertBy le) []

/-- Clears in `v` every bit that is 1 in `m`, over `w` bits. -/
def clearBits (w v m : Nat) : Nat := v &&& (m ^^^ (2 ^ w - 1))

/-- The signed value of the `w` low bits of `v` in two's complement. -/
def sx (w v : Nat) : Int :=
  let u := v % 2 ^ w
  if u < 2 ^ (w - 1) then (u : Int) else (u : Int) - (2 ^ w : Nat)

/-- The `w`-bit two's complement code of `i`. -/
def toBits (w : Nat) (i : Int) : Nat := (i % ((2 ^ w : Nat) : Int)).toNat

/-- `i` clamped to `lo` to `hi`. -/
def clampI (lo hi i : Int) : Int := if i < lo then lo else if hi < i then hi else i

/-- `i` clamped to `lo` to `hi`. -/
def clampN (lo hi i : Nat) : Nat := if i < lo then lo else if hi < i then hi else i

/-- The `n` low bytes of `v`, least significant first. -/
def leBytes : Nat → Nat → Bytes
  | 0, _ => []
  | n + 1, v => BitVec.ofNat 8 v :: leBytes n (v / 256)

/-- The number whose little-endian bytes are given. -/
def leNat : Bytes → Nat
  | [] => 0
  | b :: t => b.toNat + 256 * leNat t

/-- Bytes `ofs` to `ofs + n - 1` of a string, absent bytes left out. -/
def sub (l : Bytes) (ofs n : Nat) : Bytes := (l.drop ofs).take n

/-- Little-endian number of `n` bytes at `ofs`. -/
def leAt (l : Bytes) (ofs n : Nat) : Nat := leNat (sub l ofs n)

/-- A string cut or padded with zero bytes to length `n`. -/
def padTo (n : Nat) (l : Bytes) : Bytes := (l ++ List.replicate (n - l.length) 0#8).take n

/-- The string `l` with the bytes `d` written at `ofs`, padded as needed. -/
def patch (l : Bytes) (ofs : Nat) (d : Bytes) : Bytes :=
  padTo ofs l ++ d ++ l.drop (ofs + d.length)

/-- The bits of `v` from `lo`, `n` of them, least significant first. -/
def bitList : Nat → Nat → List Bool
  | 0, _ => []
  | n + 1, v => (v % 2 == 1) :: bitList n (v / 2)

/-- The number of bits set among the low `n` bits of `v`. -/
def popCount : Nat → Nat → Nat
  | 0, _ => 0
  | n + 1, v => v % 2 + popCount n (v / 2)

/-- The number whose bits are given, least significant first. -/
def ofBitList : List Bool → Nat
  | [] => 0
  | b :: t => b2n b + 2 * ofBitList t

/-- Replaces element `i` of a list, nothing where `i` is beyond its end. -/
def setNth {α : Type} : List α → Nat → α → List α
  | [], _, _ => []
  | _ :: t, 0, x => x :: t
  | a :: t, n + 1, x => a :: setNth t n x

/-- Position comparison of R7: `p` at or beyond `q`, both in Q32.16 lines modulo 2^32 lines. -/
def atOrBeyond (p q : Nat) : Bool := (p + 2 ^ 48 - q % 2 ^ 48) % 2 ^ 48 < 2 ^ 47

/-- Line comparison of R7: job line `a` at or beyond `b`, modulo 2^32 lines. -/
def lineAtOrBeyond (a b : Nat) : Bool := (a + 2 ^ 32 - b % 2 ^ 32) % 2 ^ 32 < 2 ^ 31

/-- The line or cycle number that lies further on (R7). -/
def laterLine (a b : Nat) : Nat := if lineAtOrBeyond a b then a else b

/-- Signed distance of job line `a` from line `b`, modulo 2^32 lines (R7). -/
def lineDiff (a b : Nat) : Int := sx 32 (a + 2 ^ 32 - b % 2 ^ 32)

/-- Floor division of an integer by 2^n. -/
def floorShift (i : Int) (n : Nat) : Int := Int.fdiv i ((2 ^ n : Nat) : Int)

end Sys2Proof.Machine
end

