-- ==== Sys2Proof/Machine/Quant.lean ====
section
/-! DEFINITION. Rational arithmetic of the thermal and analyser formulas: natural logarithm, and reporting in a fixed-point format. -/

namespace Sys2Proof.Machine

/-- A rational as a code of a format with `frac` fraction bits: exact where it fits, else one of its two neighbours (Config.roundsUp). -/
def roundQ (frac : Nat) (x : Rat) : Int :=
  let y := x * (2 ^ frac : Nat)
  let f := y.floor
  if y = f then f else if Config.roundsUp y then f + 1 else f

/-- A rational rounded to the nearest integer; the spec does not say which way a tie goes (Config.roundsUp). -/
def roundNear (x : Rat) : Int :=
  let f := x.floor
  if x - f < 1 / 2 then f else if 1 / 2 < x - f then f + 1 else if Config.roundsUp x then f + 1 else f

/-- A quotient, free where the divisor is 0 (Config.overZero). -/
def divQ (a b : Rat) : Rat := if b = 0 then Config.overZero a else a / b

/-- Fraction bits of the logarithm's fixed-point arithmetic. -/
def lnBits : Nat := 80

/-- Sum of z^(2i+1)/(2i+1) for `n` terms, with the power `p` = z^(2i+1) and `z2` = z^2 in units of 2^-80. -/
def atanhTerms : Nat → Nat → Int → Int → Int
  | 0, _, _, _ => 0
  | n + 1, i, p, z2 => p / (2 * i + 1 : Nat) + atanhTerms n (i + 1) (p * z2 / (2 ^ lnBits : Nat)) z2

/-- ln((1 + z) / (1 - z)) for z in units of 2^-80, z at most 1/3. -/
def lnRatio (z : Int) : Int := 2 * atanhTerms 28 0 z (z * z / (2 ^ lnBits : Nat))

/-- ln 2 in units of 2^-80. -/
def ln2 : Int := lnRatio (2 ^ lnBits / 3)

/-- Natural logarithm of a positive rational, within 2^-70 (R190, R196). -/
def lnQ (x : Rat) : Rat :=
  let e : Int := (x.num.toNat.log2 : Int) - (x.den.log2 : Int)
  let m : Rat := if 0 ≤ e then x / (2 ^ e.toNat : Nat) else x * (2 ^ (-e).toNat : Nat)
  let z := ((m - 1) / (m + 1) * (2 ^ lnBits : Nat)).floor
  ((e * ln2 + lnRatio z : Int) : Rat) / (2 ^ lnBits : Nat)

/-- A signed code of `w` bits with `frac` fraction bits as a rational. -/
def sq (w frac v : Nat) : Rat := (sx w v : Rat) / (2 ^ frac : Nat)

/-- An unsigned code with `frac` fraction bits as a rational. -/
def uq (frac v : Nat) : Rat := (v : Rat) / (2 ^ frac : Nat)

/-- A rational clamped to a range. -/
def clampQ (lo hi x : Rat) : Rat := if x < lo ∨ hi < lo then lo else if hi < x then hi else x

end Sys2Proof.Machine
end

