-- ==== Sys2Proof/Machine/State.lean ====
section
/-! DEFINITION. The state of the block as plain data, the reasons a step can stop, and the state after reset.
Objects of the object dictionary that hold a number live in `od`, DOMAIN objects that do not lie in the stack in `dom`, and every byte that the spec places in SRAM or the stack in `mem`; the blocks' own state that no object shows is in one structure for each block. -/

namespace Sys2Proof.Machine

/-- The two ordering codes (R1, R30). -/
inductive Variant where
  | v32A | v16A
  deriving DecidableEq, Repr

/-- States of the clock and reset controller (R607). -/
inductive Ctl where
  | reset | rcStart | refWait | pllLock | run | clockHold | holdReset
  deriving DecidableEq, Repr

/-- What the mailbox or the bus answered to the latest request. -/
inductive Resp where
  | none
  | done
  | data (b : Bytes)
  | abort (code : Nat)
  | mailboxError
  | foeError (code : Nat)
  | busData (v : Nat)
  | busDone
  | decodeError
  | errorResponse
  | alRefused (code : Nat)
  deriving DecidableEq, Repr

/-- The clock and reset controller, the P-state sequencer, the gates and the monitors (R606 to R631). -/
structure Clocks where
  /-- controller state (R607) -/
  ctl : Ctl
  rcReady : Bool
  refReady : Bool
  /-- lock of PLL_C, PLL_T, PLL_M, PLL_P in bits 0 to 3 -/
  pll : Nat
  /-- CFG[3:0] sampled at the release of internal reset (R606) -/
  straps : Nat
  /-- VID[3:0] driven (R617) -/
  vid : Nat
  /-- VR_READY after its filter -/
  vrPin : Bool
  /-- a VR fault whose 1 ms of VR_READY has not passed (R620) -/
  vrBlocked : Bool
  /-- SAFE_L is low (R630) -/
  safeLow : Bool
  /-- a junction trip since which no reading was below 105.0 degrees (R631) -/
  hot : Bool
  /-- operating point whose change is in progress (R619) -/
  psBusy : Option Nat
  /-- latest request made during a change (R619) -/
  psNext : Option Nat
  /-- gates whose close waits for an access in progress (R623) -/
  closing : Nat
  /-- gates closed now -/
  closed : Nat
  /-- the RC has been found out of range since reset (R614) -/
  rcFault : Bool
  /-- distributed clocks are activated (R569) -/
  dcOn : Bool
  /-- a monitored rail is below its threshold (R625) -/
  brownOut : Bool
  /-- the controller came through HOLD_RESET, so start-up runs when CLOCK_HOLD is left (R613) -/
  startPending : Bool
  deriving DecidableEq, Repr

/-- The VBAT domain (R632, R633). -/
structure Vbat where
  /-- RTC value at `rtcClk` -/
  rtcBase : Nat
  /-- the timing clock at which `rtcBase` was in force -/
  rtcClk : Nat
  rtcValid : Bool
  hours : Nat
  retention : Bytes
  deriving DecidableEq, Repr

/-- One port's entry of the health map in MRAM (R328, R650). -/
structure HealthEntry where
  serial : Nat
  states : Bytes
  /-- nozzle bin counters that are not 0 -/
  bins : List (Nat × Nat)
  /-- firing counters that are not 0 -/
  firing : List (Nat × Nat)
  deriving DecidableEq, Repr

/-- Stack repair lists of MRAM (R525). -/
structure RepairLists where
  /-- per channel, lanes served by data spares 0 to 3 and by the command spare; 0xFF: unused -/
  laneSpares : List (Nat × Nat)
  /-- spared rows: channel, bank, row, spare index -/
  rows : List (Nat × Nat × Nat × Nat)
  /-- retired pages: channel, bank, row -/
  pages : List (Nat × Nat × Nat)
  /-- retired channels, one bit each -/
  channels : Nat
  /-- retrains of the last hour: channel and operating time in seconds -/
  retrains : List (Nat × Nat)
  deriving DecidableEq, Repr

/-- The MRAM (R650). -/
structure Mram where
  /-- firmware image in slot A and in slot B (R599) -/
  slotA : Option Bytes
  slotB : Option Bytes
  /-- 0x2000:08 -/
  slotNext : Nat
  health : List (Nat × HealthEntry)
  /-- stored configuration: object keys and their bytes (R574) -/
  cfg : Option (List (Nat × Bytes))
  /-- a write of load asks for the stored configuration to be erased at the next reset (R573) -/
  cfgErase : Bool
  /-- entries of the event log, oldest first (R652) -/
  log : List Bytes
  logSeq : Nat
  /-- lifetime totals that are not 0, by object key (R637) -/
  totals : List (Nat × Nat)
  /-- sequence number of the latest copy of the totals (R638) -/
  totalsSeq : Nat
  /-- the older copy of the totals (R638) -/
  totalsOld : List (Nat × Nat)
  repair : RepairLists
  /-- 0x5200:08 asks for the repair lists to be erased at the next reset (R525) -/
  clearLists : Bool
  sii : List (Nat × Nat)
  /-- address-map order for the next reset (R465) -/
  mapOrder : Nat
  lanesRetired : Nat
  pairsRetired : Nat
  /-- failures of each render lane, lanes with none left out -/
  laneFails : List (Nat × Nat)
  /-- operating hours of the latest failures of each lane, latest first (R642) -/
  laneTimes : List (Nat × List Nat)
  /-- operating hours of the latest mismatches of each pair, latest first (R642) -/
  pairTimes : List (Nat × List Nat)
  /-- a write of 2 to 0x5E00:06 asks for the retirements to be erased at the next reset (R658) -/
  clearRetired : Bool
  deriving DecidableEq, Repr

/-- A segmented write in progress (R565). -/
structure Segment where
  key : Nat
  data : Bytes
  deriving DecidableEq, Repr

/-- The EtherCAT slave, the mailbox and the process data (R559 to R592). -/
structure Slave where
  al : AlState
  alStatus : Nat
  resp : Resp
  /-- emergencies that wait, oldest first (R592) -/
  emcy : List Bytes
  /-- emergencies placed in the SM1 buffer, oldest first -/
  emcyOut : List Bytes
  seg : Option Segment
  /-- RxPDO data that wait for SYNC0 (R568) -/
  rxWait : Option Bytes
  /-- TxPDO images of the latest sample, one for each assigned PDO (R568) -/
  txSample : List Bytes
  /-- sequence of 0x5F10:03 at the previous apply point; none before the first in OP (R585) -/
  cmdRef : Option Nat
  /-- start-up has completed, so the AL state may leave INIT (R561, R575) -/
  ready : Bool
  deriving DecidableEq, Repr

/-- The engine state machine beyond the objects of 0x5F10 (R578 to R586). -/
structure Engine where
  /-- state that HOLD was entered from (R578) -/
  heldFrom : Nat
  /-- armed with expected configuration CRC 0 (R657 bit 0) -/
  crcUnchecked : Bool
  /-- the job in progress has a start (R57) -/
  inJob : Bool
  deriving DecidableEq, Repr

/-- The fault manager and the self-tests beyond the objects of 0x5E00 (R636 to R658). -/
structure Health where
  /-- system time of the latest log entry of each source (R653) -/
  logLast : List (Nat × Nat)
  /-- raises merged since, by source (R653) -/
  merged : List (Nat × Nat)
  /-- lifetime increments that are not 0, by object key (R637) -/
  lifetime : List (Nat × Nat)
  ckBusy : Bool
  ckAgain : Bool
  /-- operating seconds since the latest interval checkpoint (R638) -/
  ckSeconds : Nat
  /-- pairs that mismatched since the previous ARM (R646) -/
  pairsSuspect : Nat
  /-- stack lane warnings that are not 0: key channel * 256 + lane (R636) -/
  laneWarn : List (Nat × Nat)
  /-- nozzle bin counters that are not 0: key port * 256 + bin (R636) -/
  bins : List (Nat × Nat)
  deriving DecidableEq, Repr

/-- One DMA channel beyond its objects (R541 to R551). -/
structure DmaChan where
  /-- address of the descriptor to fetch next -/
  fetch : Option Nat
  /-- descriptor fetched and in progress -/
  desc : Option Bytes
  /-- descriptor read while the one before it is in progress (R546) -/
  ahead : Option Bytes
  deriving DecidableEq, Repr

/-- The SRAM and the DMA engine beyond their objects (R531 to R558). -/
structure Sram where
  /-- bank word that the next scrub step reads (R539) -/
  scrubWord : Nat
  /-- addresses of words with an uncorrectable error, rising (R537) -/
  bad : List Nat
  /-- MAINT has overwritten its staging area, and the bytes of it written since (R532) -/
  staged : Bool
  restaged : List Nat
  deriving DecidableEq, Repr

/-- The extrapolation that was in force before clock `upTo`: what a latch reads that records an earlier clock (R65, R71). -/
structure Track where
  upTo : Nat
  acc : Nat
  te : Nat
  vel : Int
  valid : Bool
  deriving DecidableEq, Repr

/-- The position unit beyond the objects of 0x2200 (R41 to R93). -/
structure Position where
  /-- raw position accumulator, Q32.32 lines (R55) -/
  acc : Nat
  /-- accepted levels of A and B: the reference state (R51) -/
  a : Bool
  b : Bool
  faultA : Bool
  faultB : Bool
  faultZ : Bool
  /-- ENC_EN has been written 0, so the next write of 1 clears declared faults (R47) -/
  clearArmed : Bool
  /-- raw extrapolated position held since counting stopped, Q32.32 (R45) -/
  heldAt : Option Nat
  /-- time stamp of the latest counting edge (R49) -/
  te : Nat
  /-- time stamp of the edge before, where the next edge of the same direction may take an interval (R64) -/
  seed : Option Nat
  /-- the tracking loop is seeded (R64) -/
  seeded : Bool
  /-- direction of the latest counting edge, none before the first since the enable -/
  dir : Option Bool
  /-- position estimate of the loop, Q32.32 (R63) -/
  est : Nat
  /-- loop velocity, signed Q32.32 lines per second (R63) -/
  vel : Int
  /-- loop corrections made since the loop was seeded -/
  loops : Nat
  /-- the extrapolation before the latest counting edge or other change of it (R71, R72) -/
  past : Track
  /-- clock of the latest SYNC0 event (R72, R82) -/
  sync0At : Option Nat
  /-- clock of the latest accepted counting edge or of the enable (R66) -/
  edgeAt : Nat
  /-- illegal transitions since the job origin was latched (R53) -/
  illegal : Nat
  /-- raw count at the latest Z event (R54) -/
  zCount : Option Nat
  /-- origin source whose edge is awaited, 1 or 2 (R57) -/
  await : Option Nat
  /-- REVERSAL has been raised in this guard episode (R69) -/
  reversed : Bool
  /-- raw word of the last good bar sample (R81) -/
  barRaw : Option Nat
  /-- consecutive good and consecutive rejected bar samples (R85) -/
  barGood : Nat
  barBad : Nat
  /-- sample time of the bar frame in progress (R82) -/
  barFrame : Option Nat
  /-- clock of the latest frame start since the mode was written, and the extrapolated web position of the sample's clock (R82, R293) -/
  barStart : Option Nat
  barY : Nat
  /-- BAR_LOST has been raised since the latest good sample (R85) -/
  barLost : Bool
  deriving DecidableEq, Repr

/-- The descriptor of one port line buffer slot (R157, R180). -/
structure Slot where
  line : Nat
  cap : Nat
  ready : Bool
  /-- clock of the latest write of the word with READY (R28, R180) -/
  readyAt : Nat
  /-- the latest job line that the slot has been released for in the job (R158, R316, R317) -/
  freed : Option Nat
  deriving DecidableEq, Repr

/-- One port cycle: the next one, whose events are pending, or the one being strobed (R94 to R112). -/
structure Cycle where
  /-- cycle number: whole web lines modulo 2^32 -/
  m : Nat
  /-- columns that take part, one bit each -/
  part : Nat
  /-- columns whose line event has not occurred, with the pending clock in predicted mode -/
  events : List (Nat × Option Nat)
  /-- slot bits loaded for each participating column -/
  data : List (Nat × Nat)
  /-- cap of each column's line -/
  caps : List (Nat × Nat)
  /-- columns recorded LATE, one bit each -/
  late : Nat
  /-- load start clock -/
  loadAt : Option Nat
  loaded : Bool
  /-- the slots have been read and released -/
  released : Bool
  /-- cycle-scope reason decided so far, 0 for none (R160) -/
  blank : Nat
  /-- judged an overspeed cycle (R109), and a load-slip cycle (R107) -/
  fast : Bool
  slip : Bool
  /-- earliest clock of the first event under STRETCH (R111) -/
  delayed : Option Nat
  /-- clocks by which STRETCH moves the events after the first (R111) -/
  shift : Nat
  /-- columns of a cycle held under STRETCH whose gated event has fallen due, with the clock; the first event comes first (R111) -/
  ripe : List (Nat × Nat)
  /-- clock at which the latch transfer started (R153) -/
  latchAt : Option Nat
  /-- warming pulses in empty slots, and their width in ns (R155, R192) -/
  warm : Bool
  warmWidth : Nat
  /-- strobe width and gap of the cycle, in ns (R156) -/
  width : Nat
  gap : Nat
  /-- clock of the first event -/
  firstAt : Option Nat
  /-- clock of each column's event, where it has occurred (R97, R154) -/
  fired : List (Nat × Nat)
  /-- full FE pulses issued for each column -/
  pulses : List (Nat × Nat)
  /-- columns whose event has been withdrawn to gated mode (R104) -/
  withdrawn : Nat
  deriving DecidableEq, Repr

/-- Cycles that were stopped in one clock, with the reason recorded, so that a cause of the same clock that prevails can rewrite it (R692). -/
structure Stopped where
  clk : Nat
  reason : Nat
  cycles : List Cycle
  deriving DecidableEq, Repr

/-- A Wind-up in progress (R168 to R170). -/
structure Windup where
  data : Nat
  /-- shots to come -/
  shots : Nat
  /-- earliest clock of the next FE pulse -/
  due : Nat
  /-- Wind-up result that the flush after the last shot reports -/
  ending : Nat
  deriving DecidableEq, Repr

/-- The kinds of frame (R146, R148, R152). -/
inductive FrameKind where
  | headerOnly
  | fourLane
  | serial
  deriving DecidableEq, Repr

/-- What the head returns for one part of a frame: the folded bits, with the cycle and the lines that the frame loaded (R162, R163). -/
structure EchoFold where
  /-- port cycle number; 0xFFFFFFFF for a frame of no cycle -/
  cycle : Nat
  /-- column and job line of each line of the cycle -/
  lines : List (Nat × Nat)
  bits : Nat
  len : Nat
  deriving DecidableEq, Repr

/-- A head port beyond the objects of 0x3000+n to 0x3400+n (R94 to R210). -/
structure Port where
  next : Option Cycle
  cur : Option Cycle
  /-- cycles blanked at their first event, while other columns' events are pending (R110, R159) -/
  blanked : List Cycle
  /-- latest cycle of the job that has fired, blanked or been stopped (R100) -/
  placed : Option Nat
  /-- cycles stopped last (R692) -/
  stopped : Option Stopped
  /-- group slots that wait for their strobe: column, group of the column (R97) -/
  queue : List (Nat × Nat)
  /-- clock at which the FE pulse in progress ends, and at which its slot ends -/
  pulseEnd : Nat
  slotEnd : Nat
  /-- column of the latest slot issued (R129) -/
  pulseCol : Nat
  /-- first event of the latest cycle of any kind -/
  firstAt : Option Nat
  /-- first event and end of the previous fired cycle (R109) -/
  prevFirst : Option Nat
  prevEnd : Option Nat
  /-- job lines that each column has fired or blanked in the job -/
  lines : List (Nat × Nat)
  /-- slot descriptors that are not at reset: key 16 k + s (R157) -/
  slots : List (Nat × Slot)
  /-- contents of the shift chain and of the head latches, as chain bits -/
  chain : Nat
  latches : Nat
  /-- header of the latest frame, and the header the head latched last (R147, R153) -/
  header : Nat
  active : Nat
  /-- clock at which the latest latch transfer starts (R153) -/
  ldAt : Option Nat
  /-- the head latches hold data that no flush has cleared (R165) -/
  dirty : Bool
  /-- clock of the latest frame of any kind, and of the end of its last trailing bit (R152, R163) -/
  frameAt : Nat
  frameEnd : Nat
  kind : FrameKind
  /-- clock at which the latest frame set DIE_SEL (R183) -/
  dieAt : Nat
  die : Nat
  warm : Bool
  /-- folded header of the latest frame, folded data of the latest frame with a data part, and the latest Wind-up load, since the port entered IDLE (R162, R163) -/
  sentHead : Option EchoFold
  sentData : Option EchoFold
  sentSerial : Option EchoFold
  /-- parts of the echo that returns with the latest frame and has no verdict yet (R163) -/
  echoDue : List EchoFold
  /-- cycles and shots counted, and errors, in the window of R166 -/
  window : Nat
  errors : Nat
  windup : Option Windup
  /-- clock of the accepted write of 1 to the port enable (R143, R189) -/
  enabledAt : Nat
  /-- an engine state has allowed the flush that the port owes (R165) -/
  flushDue : Bool
  /-- latest ADC code, its die and the sequence of R179 -/
  tsCode : Nat
  tsDie : Nat
  tsSeq : Nat
  /-- a conversion is in progress since this clock (R172) -/
  tsAt : Option Nat
  /-- model temperature of each die that has been set, in degrees C (R186, R189) -/
  model : List (Nat × Rat)
  /-- clock of the latest update of each model -/
  modelAt : List (Nat × Nat)
  /-- latest valid measurement of each die, in degrees C (R184, R187) -/
  meas : List (Nat × Rat)
  /-- consecutive invalid samples of each die, where not 0 (R185) -/
  invalid : List (Nat × Nat)
  /-- dies in SENSE_FAULT, one bit each -/
  senseFault : Nat
  /-- energy fired into each die by cycle or shot: clock, die, nJ (R190) -/
  energy : List (Nat × Nat × Rat)
  /-- energy in nJ that cycles stopped before their end have put into each die and that no model update has taken (R186, R692) -/
  heat : List (Nat × Rat)
  /-- clock since which the mean die temperature has been off the calibration temperature without a break (R415) -/
  offAt : Option Nat
  deriving DecidableEq, Repr

/-- A heater channel beyond the objects of 0x4900+h (R196 to R203). -/
structure Heater where
  /-- the latest codes, latest first, at most 8 -/
  codes : List Nat
  /-- consecutive fault codes (R197) -/
  bad : Nat
  /-- NTC_CODE: the averaged code as last reported -/
  code : Nat
  /-- integral term and previous temperature of the PID (R199) -/
  integral : Rat
  prev : Option Rat
  /-- temperature of the latest average, in degrees C -/
  temp : Option Rat
  /-- the comparator is tripped (R200) -/
  tripped : Bool
  deriving DecidableEq, Repr

/-- The fire scheduler beyond the objects of 0x2300 and 0x3200+n (R94 to R135, R692). -/
structure Sched where
  /-- the device drives SLOW_REQ_L low (R113) -/
  drive : Bool
  /-- clocks at which the hold time after the force cause, and after the other causes, ends -/
  holdForce : Option Nat
  holdOther : Option Nat
  /-- the force cause, and an enabled margin or thermal cause, was present at the latest command -/
  wasForce : Bool
  wasOther : Bool
  /-- another device holds SLOW_REQ_L low (R114) -/
  external : Bool
  /-- clock at which a cycle was last judged under R110 or R111 -/
  overAt : Option Nat
  /-- ports whose next cycle is placed within the slow-request margin, one bit each -/
  margin : Nat
  /-- a lockstep mismatch has occurred since reset (R135) -/
  lockstep : Bool
  /-- commit sequence of each port's set in force, and of its map in force, where not 0; maps archived since ARM (R273, R394) -/
  setSeq : List (Nat × Nat)
  mapSince : List (Nat × Nat)
  archived : List (Nat × Nat)
  deriving DecidableEq, Repr

/-- A port line that a render lane is screening (R284, R291). -/
structure RenderLine where
  line : Nat
  /-- fields of the queue descriptor (R273) -/
  setSeq : Nat
  shift : Int
  lane : Nat
  bits : Bytes
  /-- the second buffer of the error row -/
  row : List Int
  clamps : Nat
  lost : Nat
  dropped : Nat
  deriving DecidableEq, Repr

/-- Render's state of one port (R265 to R280). -/
structure RenderPort where
  /-- error row entering the next line, in slot order from f_n - 64; empty: zero -/
  row : List Int
  busy : Option RenderLine
  /-- boundaries whose checkpoints have been written and not emptied (R277) -/
  ckpts : List Nat
  /-- boundary of the latest squash (0xFFFFFFFF: none) -/
  lastSquash : Nat
  deriving DecidableEq, Repr

/-- Render lanes and their rotation (R286 to R291). -/
structure Render where
  port : Vector RenderPort 16
  /-- the start-up self-test has ended, so lanes serve and the rotation runs (R287, R295) -/
  started : Bool
  /-- lane leaving test, and lane that enters test once it has handed over its ports (R287) -/
  leaving : Option (Nat × Nat)
  /-- hand-overs that wait for the start of the port's next line: port, new lane -/
  handOver : List (Nat × Nat)
  /-- failed lanes whose retest runs (R288, R644) -/
  retest : List Nat
  /-- clock at which the window of the lane under test began (R287, R661) -/
  windowAt : Nat
  deriving DecidableEq, Repr

/-- A line in a port's column ring: the columns that have not been copied, one bit each (R313 to R316). -/
structure RingLine where
  line : Nat
  cap : Nat
  todo : Nat
  deriving DecidableEq, Repr

/-- Jigsaw's state of one port (R308 to R330). -/
structure JigsawPort where
  /-- next job line to take -/
  next : Nat
  ring : List RingLine
  /-- fire line at which the engine enters HOLD for an unmaskable map (R324) -/
  stopAt : Option Nat
  /-- job lines that blank because a stack access made for them ended with an error response (R504) -/
  lost : List Nat
  /-- lines whose queue entry could not be written, which Jigsaw passes over (R503) -/
  unqueued : List Nat
  deriving DecidableEq, Repr

/-- A NAK decided: series, sequence number, reason, NAKs left, and the link of the tile's latest fragment (R226, R227). -/
structure Nak where
  rep : Bool
  seq : Nat
  reason : Nat
  left : Nat
  link : Option Nat
  deriving DecidableEq, Repr

/-- What a link sends: an ARP reply to a hardware and a protocol address, or a UDP payload to a MAC address, an IPv4 address and a port (R215). -/
inductive LinkFrame where
  | arp (mac ip : Nat)
  | udp (mac ip port : Nat) (payload : Bytes)
  deriving DecidableEq, Repr

/-- A raster link beyond its objects (R215, R227, R229). -/
structure Link where
  /-- source MAC address, IPv4 address and UDP port of the latest accepted KRT packet -/
  peer : Option (Nat × Nat × Nat)
  statusSeq : Nat
  nakSeq : Nat
  /-- entries of the open NAK packet, first decided first, and the clock that opened it -/
  nak : List Nak
  nakAt : Nat
  /-- the latest frame sent -/
  sent : Option LinkFrame
  deriving DecidableEq, Repr

/-- A reassembly context (R221). -/
structure Context where
  rep : Bool
  seq : Nat
  row : Nat
  plane : Nat
  col : Nat
  codec : Nat
  len : Nat
  crc : Nat
  /-- offsets and lengths received -/
  got : List (Nat × Nat)
  /-- clock of the first fragment -/
  firstAt : Nat
  /-- link of the latest fragment -/
  link : Nat
  retx : Bool
  /-- a write of it to the stack ended with an error response (R503) -/
  bad : Bool
  deriving DecidableEq, Repr

/-- A tile is present since a clock, or declared lost (R223, R226). -/
structure Mark where
  lost : Bool
  since : Nat
  deriving DecidableEq, Repr

/-- The NAKs of a sequence number: how many count, when the latest was sent, and the link of the latest fragment (R226, R227). -/
structure NakRec where
  count : Nat
  sentAt : Option Nat
  link : Option Nat
  deriving DecidableEq, Repr

/-- Raster ingest beyond the objects of 0x2500 (R211 to R246). -/
structure Ingest where
  link : Vector Link 2
  /-- contexts in use, by context number -/
  ctx : List (Nat × Context)
  /-- presence bits and lost marks of the contone store, by sequence number -/
  marks : List (Nat × Mark)
  /-- presence bits of the repeat store, by sequence number -/
  rep : List (Nat × Unit)
  /-- NAKs of the job series, and counting NAKs of the repeat series -/
  naks : List (Nat × NakRec)
  repNaks : List (Nat × NakRec)
  /-- NAKs that wait for a link that qualifies, oldest first -/
  waiting : List Nak
  /-- tiles declared lost in the current job -/
  lost : Nat
  /-- clock and raw bytes of the tiles accepted in the latest 100 ms, latest first -/
  rate : List (Nat × Nat)
  deriving DecidableEq, Repr

/-- A frame slot: its state (0 FREE, 1 FILLING, 2 WAITING, 3 ACTIVE, 4 REFERENCE, 5 DONE, 6 HELD) and the frame number held (R350, R366). -/
structure CamSlot where
  st : Nat
  frame : Nat
  deriving DecidableEq, Repr

/-- Web position, system time, and whether position and time could be trusted, of a camera latch (R345). -/
structure Tag where
  pos : Nat
  time : Nat
  posValid : Bool
  dcSync : Bool
  deriving DecidableEq, Repr

/-- A frame between its frame start and its end (R342 to R345). -/
structure CamFrame where
  /-- slot taken; none: an overrun -/
  slot : Option Nat
  no : Nat
  startAt : Nat
  tag : Tag
  triggered : Bool
  sensorFn : Nat
  setId : Nat
  tags : Bytes
  unknown : Bool
  damaged : Bool
  /-- embedded lines stored -/
  emb : Nat
  /-- image lines received -/
  lines : Nat
  deriving DecidableEq, Repr

/-- A camera port beyond the objects of 0x4000+c (R337 to R364). -/
structure Camera where
  frame : Option CamFrame
  /-- the watchdog has aborted a frame whose packets are still to be dropped -/
  aborted : Bool
  frameNo : Nat
  /-- frame number at the latest job origin (R424) -/
  jobNo : Nat
  lastSlot : Nat
  /-- slots that are not FREE -/
  slots : List (Nat × CamSlot)
  /-- slots of the frames that wait, oldest first -/
  waiting : List Nat
  /-- slot whose reprocessing is pending or active -/
  reproc : Option (Nat × Bool)
  /-- slot of the latest live frame whose processing has completed (R372) -/
  reference : Option Nat
  /-- clock of the latest frame start or of the capture enable -/
  startAt : Nat
  /-- next k of trigger mode 1 -/
  trigK : Nat
  /-- CAMc_TRIG is high until this clock -/
  trigEnd : Option Nat
  /-- latest rising edge since the previous frame start, and how many there were -/
  edge : Option Tag
  edges : Nat
  /-- settings set that waits for a frame end; set being written, with its entry and whether that entry is being repeated -/
  setPending : Option Bytes
  setWriting : Option (Bytes × Nat × Bool)
  /-- direct transfer that waits or runs, whether it is being repeated, and whether it runs (R359) -/
  direct : Option (Nat × Bool)
  directOn : Bool
  /-- set acknowledged that waits for a frame start, and whether it clears SETTINGS_UNKNOWN: an error of a later set takes that away (R356, R358) -/
  setAcked : Option (Bytes × Bool)
  /-- sets to come into force: frame number, SET_ID, TAGS, and whether it ends SETTINGS_UNKNOWN -/
  setDue : List (Nat × Nat × Bytes × Bool)
  setId : Nat
  tags : Bytes
  /-- SETTINGS_UNKNOWN sets at the next frame start -/
  unknownDue : Bool
  deriving DecidableEq, Repr

/-- A snapshot of the process parameters (R368). -/
structure Params where
  seq : Nat
  vals : List (Nat × Nat)
  doms : List (Nat × Bytes)
  deriving DecidableEq, Repr

/-- A frame that Kaleidoscope processes (R353, R368, R372, R373). -/
structure KaleidoJob where
  cam : Fin 2
  slot : Nat
  rep : Bool
  params : Params
  refSlot : Option Nat
  reason : Nat
  shift : Int
  deriving DecidableEq, Repr

/-- Kaleidoscope beyond the objects of 0x4100 (R367 to R387). -/
structure Kaleido where
  job : Option KaleidoJob
  /-- snapshot of the parameter freeze -/
  frozen : Option Params
  /-- a write of 0 to the enable waits for the frame in progress -/
  stopping : Bool
  /-- records complete since enable, and the record at the read cursor -/
  done : Nat
  cursor : Nat
  /-- the frames of the latest 16 records, latest first (R411) -/
  recs : List (Nat × KaleidoJob)
  deriving DecidableEq, Repr

/-- A test of a ladder band: plane, twin (0: A, 1: B) and 33 head positions from `first`; GEOMETRY takes every 32nd position of the plane instead (R408, R413). -/
structure BandTest where
  plane : Nat
  twin : Nat
  first : Nat
  geometry : Bool
  deriving DecidableEq, Repr

/-- Why a band is requested: an unattributed streak, a DEAD streak whose twin is unresolved, or the GEOMETRY command (R408). -/
inductive BandCause where
  | unattributed | unresolved | geometry
  deriving DecidableEq, Repr

/-- A band request: its number, cause and result, plane, image and head position, the cameras that have still to read it, its tests, and how often its band was missed (R408, R412). -/
structure Request where
  id : Nat
  cause : BandCause
  seq : Nat
  plane : Nat
  x : Nat
  q : Nat
  cams : List Nat
  tests : List BandTest
  misses : Nat
  deriving DecidableEq, Repr

/-- A band placed: its first line, the tests of its rungs with the number of the request each belongs to, and its requests that are still to be read (R409, R410). -/
structure Band where
  start : Nat
  /-- rung, request and test -/
  tests : List (Nat × Nat × BandTest)
  reqs : List Request
  deriving DecidableEq, Repr

/-- An evidence block of a score: its deficit, the dots of twin A and twin B, the web tag, first job line and head position, and the candidate planes (R402, R404, R408). -/
structure Evidence where
  d : Rat
  nA : Nat
  nB : Nat
  web : Nat
  line : Nat
  q : Nat
  planes : List Nat
  deriving DecidableEq, Repr

/-- A score that is not 0 and its evidence, latest block first (R402). -/
structure Score where
  value : Rat
  ev : List Evidence
  deriving DecidableEq, Repr

/-- A muted position: plane (8: unattributed), image position, clock of the declaration, result, and the mute line once a commit with the action has completed (R405). -/
structure Mute where
  plane : Nat
  x : Nat
  since : Nat
  seq : Nat
  line : Option Nat
  deriving DecidableEq, Repr

/-- An action: nozzles to mark (port, nozzle, state) and gains to set (port, plane slot, head position, gain) (R416). -/
structure Repair where
  marks : List (Nat × Nat × Nat)
  gains : List (Nat × Nat × Nat × Nat)
  deriving DecidableEq, Repr

/-- A batch of autonomous repair: its results, its actions, and whether it has been deferred (R417). -/
structure Batch where
  seqs : List Nat
  repair : Repair
  deferred : Bool
  deriving DecidableEq, Repr

/-- A camera's gain window: blocks so far, and the walk shifts of their lines (R414). -/
structure GainWindow where
  blocks : Nat
  shifts : List Nat
  deriving DecidableEq, Repr

/-- The streak analyser beyond the objects of 0x4200 (R389 to R428). -/
structure Analyser where
  /-- bands placed and not read, missed or discarded, in order -/
  bands : List Band
  /-- next Kaleidoscope record to analyse (R422) -/
  cursor : Nat
  /-- results written, first unread result, and the last one returned by a read (R420, R421) -/
  made : Nat
  unread : Nat
  returned : Option Nat
  /-- scores that are not 0: keys plane * 16,384 + position, and position (R402) -/
  plus : List (Nat × Score)
  minus : List (Nat × Score)
  unknown : List (Nat × Score)
  mutes : List Mute
  /-- plane and position whose next declaration carries REPEAT (R405) -/
  repeats : List (Nat × Nat)
  requests : List Request
  nextRequest : Nat
  /-- start of the last band placed (R409) -/
  lastBand : Option Nat
  /-- batches in the order in which they arose (R417) -/
  batches : List Batch
  /-- actions of the results in the ring (R419) -/
  actions : List (Nat × Repair)
  /-- results applied that wait for their commit (R419) -/
  awaiting : List Nat
  /-- interim gains: result, and the gains in force before (R416) -/
  interim : List (Nat × List (Nat × Nat × Nat × Nat))
  /-- nozzles of each port marked in the job (R418) -/
  marked : List (Nat × Nat)
  /-- gain accumulators: attributed blocks and their sum, by plane * 16,384 + position (R414) -/
  acc : List (Nat × Rat × Nat)
  window : Vector GainWindow 2
  /-- ports whose next gain batch recalibrates, one bit each (R415) -/
  recal : Nat
  /-- ports whose calibration temperature is that of a gain batch, one bit each (R415) -/
  batched : Nat
  /-- column maps that take effect from the next record (R413) -/
  knots : List (Nat × Bytes)
  /-- camera distances held for the next entry into STANDBY (R413) -/
  dist : List (Nat × Nat)
  /-- the analyser has used its score area and prediction workspace in the stack, whose layout the spec does not give (R427) -/
  worked : Bool
  deriving DecidableEq, Repr

/-- A stretch of motion at constant jerk: its duration in seconds, and position, velocity, acceleration and jerk at its start (R441). -/
structure MSeg where
  dur : Rat
  p : Rat
  v : Rat
  a : Rat
  j : Rat
  deriving DecidableEq, Repr

/-- What the motion of an axis in progress leads to (R438 to R445). -/
inductive AxisGoal where
  | none
  | move (target : Rat)
  | run
  | limit (place : Rat)
  | stop
  | search (origin : Rat)
  | backoff (target : Rat)
  | disengage
  /-- a stop after which the axis enters FAULT with a reason, which is raised as a source (R445, R451) -/
  | fault (reason source : Nat)
  deriving DecidableEq, Repr

/-- The step generator of an axis: the output count, AXa_DIR's direction (true: negative), the clocks of the latest rising edge of AXa_STEP and of the latest change of AXa_DIR, and whether the step that is due has been counted as held (R433, R434). -/
structure StepGen where
  count : Int
  dir : Bool
  rise : Option Nat
  turn : Option Nat
  held : Bool
  /-- clock at which the pulse in progress was stopped (R432) -/
  cut : Option Nat
  deriving DecidableEq, Repr

/-- An axis beyond the objects of 0x4800+a (R433 to R453). -/
structure Axis where
  /-- clock at which the motion in `segs` began -/
  start : Nat
  segs : List MSeg
  /-- position and velocity after the last stretch; the position of the gear's anchor in GEARED -/
  p : Rat
  v : Rat
  goal : AxisGoal
  /-- master at the anchor, Q32.32 raw lines, and the ratios that ramp from one to the other over `ramp` lines (R447 to R449) -/
  anchor : Nat
  /-- master distance covered before that anchor was renewed, in units of 2^-32 lines (R447) -/
  along : Int
  r0 : Rat
  r1 : Rat
  ramp : Nat
  /-- segments that wait: master position, ratio and ramp length (R449) -/
  queue : List (Nat × Int × Nat)
  gen : StepGen
  deriving DecidableEq, Repr

/-- Self-refresh of the stack: off, being entered, in force, being left (R487 to R490). -/
inductive SelfRefresh where
  | off | entering | on | leaving
  deriving DecidableEq, Repr

/-- A 64-byte request in a channel: number in acceptance order, class, port or channel number, write data under a byte mask, acceptance clock, and the bank, row and column it decodes to (R463, R466 to R470). -/
structure StackReq where
  id : Nat
  cls : Nat
  port : Nat
  write : Bool
  addr : Nat
  mask : Nat
  data : Bytes
  since : Nat
  bank : Nat
  row : Nat
  col : Nat
  missed : Bool
  deriving DecidableEq, Repr

/-- A bank: its open row, the earliest clocks of an activate, an access and a precharge, the clock of its latest activate or access, its owed count, whether it is forced, and the next row to refresh (R462, R476 to R478). -/
structure StackBank where
  row : Option Nat
  actOk : Nat
  useOk : Nat
  preOk : Nat
  used : Nat
  owed : Nat
  forced : Bool
  next : Nat
  /-- the open row has had no access yet -/
  fresh : Bool
  /-- when the owed count increments next, in 1/128 of a stack clock; none before the first increment of the present windows (R477, R479) -/
  due : Option Nat
  deriving DecidableEq, Repr

/-- The kinds of command that a channel issues. -/
inductive DramKind where
  | activate | precharge | read | write | refresh
  deriving DecidableEq, Repr

/-- A command in the retry buffer: the clock of its issue, its last clock, and for an access its request and the bytes that a write replaced (R497). -/
structure StackCmd where
  kind : DramKind
  bank : Nat
  row : Nat
  issuedAt : Nat
  clk : Nat
  req : Option StackReq
  old : Bytes
  deriving DecidableEq, Repr

/-- Replay rounds in progress: the errors that they serve with their addresses, the clock of their detection, the round, whether a round has failed on an ALERT, and whether a retraining has come before it (R498 to R502). -/
structure Replay where
  causes : List (AlertKind × Nat)
  since : Nat
  round : Nat
  alerted : Bool
  retrained : Bool
  deriving DecidableEq, Repr

/-- What a requester is told of its latest request (R468, R489, R503). -/
inductive StackReply where
  | none | accepted | waits | error
  | data (b : Bytes)
  deriving DecidableEq, Repr

/-- A stack channel beyond its objects (R466 to R517). -/
structure Chan where
  reads : List StackReq
  writes : List StackReq
  /-- requests that wait at the channel interface, in order of arrival -/
  waits : List StackReq
  nextId : Nat
  writeMode : Bool
  /-- banks that are not at reset -/
  banks : List (Nat × StackBank)
  /-- banks in in-order mode, with the writes whose match keeps them there (R473) -/
  inOrder : List (Nat × List Nat)
  /-- latest activates, latest first: clock and bank group, at most four -/
  acts : List (Nat × Nat)
  /-- clock of the latest access of each bank group, and end of data of its latest write -/
  access : List (Nat × Nat)
  wrote : List (Nat × Nat)
  /-- one more than the clock of the latest command -/
  issued : Nat
  /-- row-disturb tables: bank, then row and count by entry (R480) -/
  tables : List (Nat × List (Nat × Nat))
  /-- classes throttled in a bank, with the clock of the latest activate: key bank * 8 + class (R481) -/
  throttled : List (Nat × Nat)
  /-- accesses of INGEST and of CAPTURE issued in the 64 us window, and whether one of them has waited in it (R485) -/
  ingest : Nat
  capture : Nat
  waited : Bool
  retry : List StackCmd
  replay : Option Replay
  /-- quick training runs -/
  training : Bool
  /-- clocks of the latest masked errors, latest first (R508) -/
  masked : List Nat
  /-- addresses that await their retest, and the clock of each (R502) -/
  retests : List (Nat × Nat)
  /-- failed retests of a row that has not been spared: key bank * 65,536 + row (R513) -/
  rowFails : List (Nat × Nat)
  /-- 100 ms window, accesses and row hits in it -/
  window : Nat
  count : Nat
  hits : Nat
  deriving DecidableEq, Repr

/-- What the JTAG port is connected to (R524). -/
inductive Jtag where
  | bypass
  | wir (die : Nat)
  | wdr (die : Nat)
  deriving DecidableEq, Repr

/-- The stack beyond the objects of 0x5000 to 0x5200 (R461 to R526). -/
structure Stack where
  sr : SelfRefresh
  /-- self-refresh was entered by command (R490) -/
  byCommand : Bool
  /-- clock since which the temperature has been below 93.0 degrees after a trip (R486) -/
  cool : Option Nat
  chan : Vector Chan 8
  reply : StackReply
  /-- channels that the map in force is built for (R518) -/
  mapped : Nat
  /-- pages whose retirement waits for a boundary, and those of the boundary in progress (R514, R515) -/
  pending : List (Nat × Nat × Nat)
  retiring : List (Nat × Nat × Nat)
  /-- MBIST is to end after the row in progress, and the result that it reports once a rebuild has ended (R522, R523) -/
  abort : Bool
  result : Option Nat
  /-- the boundary in progress rebuilds the map (R520) -/
  rebuild : Bool
  /-- addresses of poisoned 32-bit words (R513) -/
  poison : List Nat
  /-- stack offset of the next patrol read (R510) -/
  patrol : Nat
  /-- stack clock at which self-refresh began to be left (R490) -/
  leftAt : Nat
  /-- stack clock at which the refresh window in progress started (R477, R480) -/
  window : Nat
  /-- stack clock from which the banks' increments are placed until their first (R477, R490) -/
  incFrom : Nat
  /-- algorithm that the MBIST run in progress, or the latest one, applies (R522) -/
  algorithm : Nat
  /-- instruction register of the JTAG port, 8 bits (R524) -/
  ir : Nat
  deriving DecidableEq, Repr

/-- The state of the block. -/
structure State where
  variant : Variant
  /-- timing clocks of 2 ns that have passed -/
  clk : Nat
  /-- the timing domain's copy of system time, in ns (R29) -/
  sysTime : Nat
  /-- numeric objects that differ from their default, keys rising -/
  od : List (Nat × Nat)
  /-- DOMAIN objects that are not at their default, keys rising -/
  dom : List (Nat × Bytes)
  /-- bytes of SRAM and stack that are not 0, addresses rising -/
  mem : List Host.Cell
  /-- values captured or held for LO and HI register pairs (R75, R93): key the register address -/
  held : List (Nat × Nat)
  clocks : Clocks
  vbat : Vbat
  mram : Mram
  slave : Slave
  engine : Engine
  health : Health
  position : Position
  sched : Sched
  port : Vector Port 16
  heater : Vector Heater 4
  render : Render
  jigsaw : Vector JigsawPort 16
  ingest : Ingest
  camera : Vector Camera 2
  kaleido : Kaleido
  analyser : Analyser
  axis : Vector Axis 4
  stack : Stack
  sram : Sram
  dma : Vector DmaChan 32
  /-- the event vector: bit i set while source i is pending (R588) -/
  pend : Nat
  /-- the commands that wait, first in first out -/
  pending : List Instr
  /-- how many free values have been drawn; plain data of the model's own -/
  draws : Nat
  deriving DecidableEq, Repr

/-- Reasons for a fault: none, since every error of the block is an effect on its state. -/
inductive Fault where
  /-- never raised; safe -/
  | none
  deriving DecidableEq, Repr

/-- Reasons for a refusal. -/
inductive Refusal where
  /-- raised by the dispatch for a command without a meaning; safe: nothing is claimed -/
  | notModelled (mnemonic : String)
  deriving DecidableEq, Repr

/-- The controller right after RESET_L deasserts (R607, R618). -/
def Clocks.reset : Clocks :=
  { ctl := .rcStart, rcReady := false, refReady := false, pll := 0, straps := 0, vid := 15,
    vrPin := true, vrBlocked := false, safeLow := false, hot := false, psBusy := none,
    psNext := none, closing := 0, closed := 0, rcFault := false, dcOn := false,
    brownOut := false, startPending := false }

/-- The VBAT domain of a board whose battery has never been applied. -/
def Vbat.blank : Vbat :=
  { rtcBase := 0, rtcClk := 0, rtcValid := false, hours := 0, retention := [] }

/-- Empty repair lists. -/
def RepairLists.blank : RepairLists := { laneSpares := [], rows := [], pages := [], channels := 0, retrains := [] }

/-- An MRAM that nothing has been stored in. -/
def Mram.blank : Mram :=
  { slotA := none, slotB := none, slotNext := 0, health := [], cfg := none, cfgErase := false,
    log := [], logSeq := 0, totals := [], totalsSeq := 0, totalsOld := [], repair := RepairLists.blank,
    clearLists := false, sii := [], mapOrder := 0, lanesRetired := 0, pairsRetired := 0,
    laneFails := [], laneTimes := [], pairTimes := [], clearRetired := false }

/-- The slave after reset (R602). -/
def Slave.reset : Slave :=
  { al := .init, alStatus := 0, resp := .none, emcy := [], emcyOut := [], seg := none,
    rxWait := none, txSample := [], cmdRef := none, ready := false }

/-- The engine after reset (R602). -/
def Engine.reset : Engine := { heldFrom := 0, crcUnchecked := false, inJob := false }

/-- The fault manager after reset (R658). -/
def Health.reset : Health :=
  { logLast := [], merged := [], lifetime := [], ckBusy := false, ckAgain := false,
    ckSeconds := 0, pairsSuspect := 0, laneWarn := [], bins := [] }

/-- The SRAM after reset: every word zero once cleared (R540, R555). -/
def Sram.reset : Sram := { scrubWord := 0, bad := [], staged := false, restaged := [] }

/-- A DMA channel after reset (R555). -/
def DmaChan.reset : DmaChan := { fetch := none, desc := none, ahead := none }

/-- The position unit after reset (R86). -/
def Position.reset : Position :=
  { acc := 0, a := false, b := false, faultA := false, faultB := false, faultZ := false,
    clearArmed := false, heldAt := none, te := 0, seed := none, seeded := false, dir := none,
    est := 0, vel := 0, loops := 0, past := { upTo := 0, acc := 0, te := 0, vel := 0, valid := false },
    sync0At := none, edgeAt := 0, illegal := 0, zCount := none, await := none,
    reversed := false, barRaw := none, barGood := 0, barBad := 0, barFrame := none,
    barStart := none, barY := 0, barLost := false }

/-- A head port after reset (R130, R173, R204). -/
def Port.reset : Port :=
  { next := none, cur := none, blanked := [], placed := none, stopped := none, queue := [], firstAt := none, pulseEnd := 0, slotEnd := 0, pulseCol := 0, prevFirst := none,
    prevEnd := none, lines := [], slots := [], chain := 0, latches := 0, header := 0, active := 0,
    ldAt := none, dirty := false, frameAt := 0, frameEnd := 0, kind := .headerOnly, dieAt := 0, die := 0, warm := false,
    sentHead := none, sentData := none, sentSerial := none, echoDue := [], window := 0, errors := 0, windup := none, enabledAt := 0, flushDue := false, tsCode := 0,
    tsDie := 0, tsSeq := 0, tsAt := none, model := [], modelAt := [], meas := [], invalid := [],
    senseFault := 0, energy := [], heat := [], offAt := none }

/-- A heater channel after reset (R204). -/
def Heater.reset : Heater :=
  { codes := [], bad := 0, code := 0, integral := 0, prev := none, temp := none, tripped := false }

/-- The fire scheduler after reset (R130). -/
def Sched.reset : Sched :=
  { drive := false, holdForce := none, holdOther := none, wasForce := false, wasOther := false,
    external := false, overAt := none, margin := 0, lockstep := false, setSeq := [], mapSince := [],
    archived := [] }

/-- Render's state of a port after reset (R295). -/
def RenderPort.reset : RenderPort := { row := [], busy := none, ckpts := [], lastSquash := 0xFFFFFFFF }

/-- The render lanes after reset (R295). -/
def Render.reset : Render :=
  { port := Vector.replicate 16 RenderPort.reset, started := false, leaving := none, handOver := [],
    retest := [], windowAt := 0 }

/-- Jigsaw's state of a port after reset (R331). -/
def JigsawPort.reset : JigsawPort := { next := 0, ring := [], stopAt := none, lost := [], unqueued := [] }

/-- Raster ingest after reset (R247). -/
def Ingest.reset : Ingest :=
  { link := Vector.replicate 2 { peer := none, statusSeq := 0, nakSeq := 0, nak := [], nakAt := 0, sent := none },
    ctx := [], marks := [], rep := [], naks := [], repNaks := [], waiting := [], lost := 0, rate := [] }

/-- A camera port after reset (R338, R357, R364). -/
def Camera.reset : Camera :=
  { frame := none, aborted := false, frameNo := 0, jobNo := 0, lastSlot := 63, slots := [], waiting := [], reproc := none,
    reference := none, startAt := 0, trigK := 0, trigEnd := none, edge := none, edges := 0, setPending := none,
    setWriting := none, direct := none, directOn := false, setAcked := none, setDue := [], setId := 0,
    tags := List.replicate 32 0#8, unknownDue := false }

/-- Kaleidoscope after reset (R386). -/
def Kaleido.reset : Kaleido := { job := none, frozen := none, stopping := false, done := 0, cursor := 0, recs := [] }

/-- The streak analyser after reset (R427). -/
def Analyser.reset : Analyser :=
  { bands := [], cursor := 0, made := 0, unread := 0, returned := none, plus := [], minus := [], unknown := [],
    mutes := [], repeats := [], requests := [], nextRequest := 0, lastBand := none, batches := [], actions := [],
    awaiting := [], interim := [], marked := [], acc := [],
    window := Vector.replicate 2 { blocks := 0, shifts := [] }, recal := 0, batched := 0, knots := [], dist := [], worked := false }

/-- An axis after reset (R457). -/
def Axis.reset : Axis :=
  { start := 0, segs := [], p := 0, v := 0, goal := .none, anchor := 0, along := 0, r0 := 0, r1 := 0, ramp := 0, queue := [],
    gen := { count := 0, dir := false, rise := none, turn := none, held := false, cut := none } }

/-- A stack channel after reset (R491). -/
def Chan.reset : Chan :=
  { reads := [], writes := [], waits := [], nextId := 0, writeMode := false, banks := [], inOrder := [], acts := [],
    access := [], wrote := [], issued := 0, tables := [], throttled := [], ingest := 0, capture := 0, waited := false, retry := [], replay := none,
    training := false, masked := [], retests := [], rowFails := [], window := 0, count := 0, hits := 0 }

/-- The stack after reset (R491, R526). -/
def Stack.reset : Stack :=
  { sr := .off, byCommand := false, cool := none, chan := Vector.replicate 8 Chan.reset, reply := .none,
    mapped := 0xFF, pending := [], retiring := [], abort := false, result := none, rebuild := false, poison := [], patrol := 0,
    leftAt := 0, window := 0, incFrom := 0, algorithm := 1, ir := 0xFF }

/-- The block right after RESET_L deasserts (R20, R602, R618). -/
def State.reset : State :=
  { variant := .v32A, clk := 0, sysTime := 0, od := [], dom := [], mem := [], held := [],
    clocks := Clocks.reset, vbat := Vbat.blank, mram := Mram.blank, slave := Slave.reset,
    engine := Engine.reset, health := Health.reset, position := Position.reset, sched := Sched.reset,
    port := Vector.replicate 16 Port.reset, heater := Vector.replicate 4 Heater.reset,
    render := Render.reset, jigsaw := Vector.replicate 16 JigsawPort.reset, ingest := Ingest.reset, camera := Vector.replicate 2 Camera.reset, kaleido := Kaleido.reset, analyser := Analyser.reset,
    axis := Vector.replicate 4 Axis.reset, stack := Stack.reset, sram := Sram.reset,
    dma := Vector.replicate 32 DmaChan.reset, pend := 0, pending := [], draws := 0 }

end Sys2Proof.Machine
end

