-- ==== Sys2Proof/Machine/Motion.lean ====
section
/-! DEFINITION. Motion profiles of an axis: stretches of constant jerk, velocity ramps, and moves to a target (R439 to R442). -/

namespace Sys2Proof.Machine

/-- Position, velocity and acceleration. -/
abbrev Kin := Rat × Rat × Rat

/-- Kinematic state after `t` seconds of a stretch. -/
def MSeg.after (g : MSeg) (t : Rat) : Kin :=
  (g.p + g.v * t + g.a * t * t / 2 + g.j * t * t * t / 6, g.v + g.a * t + g.j * t * t / 2, g.a + g.j * t)

/-- Kinematic state `t` seconds into stretches, then at constant velocity from an end state. -/
def kinAt : List MSeg → Rat → Rat → Rat → Kin
  | [], p, v, t => (p + v * t, v, 0)
  | g :: rest, p, v, t => if t < g.dur then g.after t else kinAt rest p v (t - g.dur)

/-- Seconds that stretches last. -/
def lasting (l : List MSeg) : Rat := (l.map MSeg.dur).sum

/-- A piece of a profile: duration, acceleration at its start, and jerk. -/
structure Piece where
  dur : Rat
  a : Rat
  j : Rat

/-- Pieces laid end to end from a position and velocity. -/
def layPieces : Rat → Rat → List Piece → List MSeg × Rat × Rat
  | p, v, [] => ([], p, v)
  | p, v, q :: t =>
    let g : MSeg := { dur := q.dur, p, v, a := q.a, j := q.j }
    let k := g.after q.dur
    let r := layPieces k.1 k.2.1 t
    (g :: r.1, r.2)

/-- Bits of the integer square root, from bit `n - 1` down. -/
def isqrtBits : Nat → Nat → Nat → Nat
  | 0, _, r => r
  | n + 1, x, r => isqrtBits n x (if (r + 2 ^ n) * (r + 2 ^ n) ≤ x then r + 2 ^ n else r)

/-- Square root, rounded down to a multiple of 2^-32. -/
def sqrtDown (x : Rat) : Rat := (isqrtBits 80 (x * (2 ^ 64 : Nat)).floor.toNat 0 : Rat) / (2 ^ 32 : Nat)

/-- 1, -1 or 0 as a rational. -/
def signQ (x : Rat) : Rat := if x < 0 then -1 else if x = 0 then 0 else 1

/-- The size of a rational. -/
def absQ (x : Rat) : Rat := if x < 0 then -x else x

/-- Pieces that raise velocity from `w0` with acceleration `b0` to `w1` with acceleration 0 under jerk `j`, where letting the acceleration fall to 0 would not reach `w1`. -/
def jerkRise (w0 b0 w1 lim j : Rat) : List Piece :=
  let lim := max lim b0
  let ap := min lim (max (max b0 0) (sqrtDown (j * (w1 - w0) + b0 * b0 / 2)))
  if ap = 0 then
    [{ dur := -b0 / j, a := b0, j := j }, { dur := (w1 - w0 + b0 * b0 / (2 * j)) / lim, a := lim, j := 0 }]
  else
    let rest := (w1 - w0) - (ap * ap - b0 * b0) / (2 * j) - ap * ap / (2 * j)
    [{ dur := (ap - b0) / j, a := b0, j := j }, { dur := rest / ap, a := ap, j := 0 },
      { dur := ap / j, a := ap, j := -j }]

/-- A piece of the same motion in the other direction where `d` is -1. -/
def Piece.turn (d : Rat) (q : Piece) : Piece := { q with a := d * q.a, j := d * q.j }

/-- Pieces from velocity `v0` and acceleration `a0` to velocity `v1` at rest in acceleration; jerk 0 is a step of acceleration (R440). -/
def rampTo (v0 a0 v1 lim j : Rat) : List Piece :=
  if j = 0 then
    if v1 = v0 then [] else [{ dur := absQ (v1 - v0) / lim, a := signQ (v1 - v0) * lim, j := 0 }]
  else
    let vz := v0 + a0 * absQ a0 / (2 * j)
    if v1 = vz then (if a0 = 0 then [] else [{ dur := absQ a0 / j, a := a0, j := -signQ a0 * j }])
    else
      let d := signQ (v1 - vz)
      (jerkRise (d * v0) (d * a0) (d * v1) lim j).map (Piece.turn d)

/-- Limits of a profile: acceleration, deceleration and jerk. -/
structure Limits where
  acc : Rat
  dec : Rat
  jerk : Rat

/-- Pieces from one velocity to another: deceleration while speed falls, acceleration while it rises (R440). -/
def Limits.toVelocity (m : Limits) (v0 a0 v1 : Rat) : List Piece :=
  if v0 * v1 < 0 then rampTo v0 a0 0 m.dec m.jerk ++ rampTo 0 0 v1 m.acc m.jerk
  else rampTo v0 a0 v1 (if absQ v0 < absQ v1 then m.acc else m.dec) m.jerk

/-- The distance that pieces cover from a velocity. -/
def covered (v : Rat) (l : List Piece) : Rat := (layPieces 0 v l).2.1

/-- The fastest cruise of at most `n` steps of 2^-16 microsteps/s whose move does not pass the target. -/
def cruise (fits : Rat → Bool) (cap : Rat) : Nat → Nat → Rat
  | 0, k => (k : Rat) / 65536
  | n + 1, k =>
    let u := ((k + 2 ^ n : Nat) : Rat) / 65536
    if u ≤ cap && fits u then cruise fits cap n (k + 2 ^ n) else cruise fits cap n k

/-- Pieces of a move over distance `dist`, from velocity `v` and acceleration `a`, at a speed of at most `cap`; a move that cannot stop at its target passes it and returns (R439, R440). -/
def Limits.moveBy (m : Limits) (v a dist cap : Rat) : List Piece :=
  let halt := m.toVelocity v a 0
  let d := signQ (dist - covered v halt)
  if d = 0 then halt
  else
    let up := fun (u : Rat) => m.toVelocity v a (d * u)
    let down := fun (u : Rat) => m.toVelocity (d * u) 0 0
    let reach := fun (u : Rat) => covered v (up u ++ down u)
    let fits := fun (u : Rat) => decide (d * reach u ≤ d * dist)
    let u := if fits cap then cap else cruise fits cap 40 0
    if u = 0 then halt
    else up u ++ [{ dur := (d * dist - d * reach u) / u, a := 0, j := 0 }] ++ down u

end Sys2Proof.Machine
end

