-- ==== Sys2Proof/Machine/Crc.lean ====
section
/-! DEFINITION. The check sequences of the spec: CRC-32C (R126), CRC-16 (R216), CRC-8 of head headers (R151) and CRC-6 of bar frames (R78). -/

namespace Sys2Proof.Machine

/-- `n` steps of a reflected CRC register with reversed polynomial `poly`. -/
def crcReflSteps (poly : Nat) : Nat → Nat → Nat
  | 0, c => c
  | n + 1, c => crcReflSteps poly n (if c % 2 = 1 then (c / 2) ^^^ poly else c / 2)

/-- CRC-32C register after the bytes, from a given register. -/
def crc32cRun : Nat → Bytes → Nat
  | c, [] => c
  | c, b :: t => crc32cRun (crcReflSteps 0x82F63B78 8 (c ^^^ b.toNat)) t

/-- CRC-32C under R126: polynomial 0x1EDC6F41 reflected, initial value and final exclusive-or all ones. -/
def crc32c (l : Bytes) : Nat := crc32cRun 0xFFFFFFFF l ^^^ 0xFFFFFFFF

/-- `n` steps of an unreflected CRC register of `w` bits with polynomial `poly`. -/
def crcFwdSteps (w poly : Nat) : Nat → Nat → Nat
  | 0, c => c
  | n + 1, c => crcFwdSteps w poly n
      (if c.testBit (w - 1) then ((c * 2) ^^^ poly) % 2 ^ w else (c * 2) % 2 ^ w)

/-- CRC of bits, most significant first, register of `w` bits. -/
def crcBits (w poly : Nat) : Nat → List Bool → Nat
  | c, [] => c
  | c, b :: t => crcBits w poly
      (let top := (c.testBit (w - 1)).xor b
       if top then ((c * 2) ^^^ poly) % 2 ^ w else (c * 2) % 2 ^ w) t

/-- The `n` low bits of `v`, most significant first. -/
def msbBits (n v : Nat) : List Bool := (bitList n v).reverse

end Sys2Proof.Machine
end

