-- ==== Sys2Proof/Machine/Defaults.lean ====
section
/-! DEFINITION. Reset values of the numeric objects, from the object tables of the spec (R18, R91, R133, R134, R176 to R178, R207, R208, R250, R298, R334, R365, R388, R429, R459, R494, R528, R529, R556, R571, R587, R593, R597, R600, R634, R659). -/

namespace Sys2Proof.Machine

/-- Index families with an instance number added to the index (R19, R39). -/
def isFamily (hi : Nat) : Bool :=
  (0x30 ≤ hi && hi ≤ 0x34) || hi = 0x38 || hi = 0x40 || hi = 0x48 || hi = 0x49 || hi = 0x50 ||
  hi = 0x51 || hi = 0x58

/-- Instance number in a key, 0 where its family has none. -/
def instOf (k : Key) : Nat := if isFamily (k / 0x10000) then k / 0x100 % 0x100 else 0

/-- The key of instance 0 of the same object (R19). -/
def baseKey (k : Key) : Key := k - instOf k * 0x100

/-- Non-zero reset values of the objects of index 0x1000 to 0x1FFF. -/
def default1 (k : Nat) : Nat :=
  if k < 0x1a0008 then
  (if k < 0x160003 then
   (if k < 0x101803 then
    (if k < 0x101801 then
     (if k < 0x101101 then
      (if k = 0x101001 then 1 else 0)
      else
      (if k = 0x101101 then 1 else 0))
     else
     (if k < 0x101802 then
      (if k = 0x101801 then 0xb3d else 0)
      else
      (if k = 0x101802 then 0x724032 else 0)))
    else
    (if k < 0x160001 then
     (if k < 0x160000 then
      (if k = 0x101803 then 0x10000 else 0)
      else
      (if k = 0x160000 then 3 else 0))
     else
     (if k < 0x160002 then
      (if k = 0x160001 then 0x5f100108 else 0)
      else
      (if k = 0x160002 then 0x5f100308 else 0))))
   else
   (if k < 0x1a0003 then
    (if k < 0x1a0001 then
     (if k < 0x1a0000 then
      (if k = 0x160003 then 0x5f100220 else 0)
      else
      (if k = 0x1a0000 then 11 else 0))
     else
     (if k < 0x1a0002 then
      (if k = 0x1a0001 then 0x5f100608 else 0)
      else
      (if k = 0x1a0002 then 0x5f100408 else 0)))
    else
    (if k < 0x1a0005 then
     (if k < 0x1a0004 then
      (if k = 0x1a0003 then 0x5f100508 else 0)
      else
      (if k = 0x1a0004 then 8 else 0))
     else
     (if k < 0x1a0006 then
      (if k = 0x1a0005 then 0x22001040 else 0)
      else
      (if k < 0x1a0007 then
       (if k = 0x1a0006 then 0x22002640 else 0)
       else
       (if k = 0x1a0007 then 0x22002b20 else 0))))))
  else
  (if k < 0x1c1201 then
   (if k < 0x1c0001 then
    (if k < 0x1a000a then
     (if k < 0x1a0009 then
      (if k = 0x1a0008 then 0x5f200520 else 0)
      else
      (if k = 0x1a0009 then 0x5f200620 else 0))
     else
     (if k < 0x1a000b then
      (if k = 0x1a000a then 0x5f200720 else 0)
      else
      (if k = 0x1a000b then 0x5f200820 else 0)))
    else
    (if k < 0x1c0003 then
     (if k < 0x1c0002 then
      (if k = 0x1c0001 then 1 else 0)
      else
      (if k = 0x1c0002 then 2 else 0))
     else
     (if k < 0x1c0004 then
      (if k = 0x1c0003 then 3 else 0)
      else
      (if k < 0x1c1200 then
       (if k = 0x1c0004 then 4 else 0)
       else
       (if k = 0x1c1200 then 1 else 0)))))
   else
   (if k < 0x1c3204 then
    (if k < 0x1c1301 then
     (if k < 0x1c1300 then
      (if k = 0x1c1201 then 0x1600 else 0)
      else
      (if k = 0x1c1300 then 1 else 0))
     else
     (if k < 0x1c3202 then
      (if k = 0x1c1301 then 0x1a00 else 0)
      else
      (if k = 0x1c3202 then 0xf4240 else 0)))
    else
    (if k < 0x1c3302 then
     (if k < 0x1c3205 then
      (if k = 0x1c3204 then 7 else 0)
      else
      (if k = 0x1c3205 then 0x1e848 else 0))
     else
     (if k < 0x1c3304 then
      (if k = 0x1c3302 then 0xf4240 else 0)
      else
      (if k < 0x1c3305 then
       (if k = 0x1c3304 then 7 else 0)
       else
       (if k = 0x1c3305 then 0x1e848 else 0))))))

/-- Non-zero reset values of the objects of index 0x2000 to 0x2FFF. -/
def default2 (k : Nat) : Nat :=
  if k < 0x220033 then
  (if k < 0x210001 then
   (if k < 0x200014 then
    (if k < 0x200010 then
     (if k < 0x200002 then
      (if k = 0x200001 then 8 else 0)
      else
      (if k < 0x200003 then
       (if k = 0x200002 then 0x800000000 else 0)
       else
       (if k = 0x200003 then 0xff else 0)))
     else
     (if k < 0x200012 then
      (if k < 0x200011 then
       (if k = 0x200010 then 0x1000000000 else 0)
       else
       (if k = 0x200011 then 0x300000000 else 0))
      else
      (if k < 0x200013 then
       (if k = 0x200012 then 0x1300000000 else 0)
       else
       (if k = 0x200013 then 0x100000000 else 0))))
    else
    (if k < 0x200017 then
     (if k < 0x200015 then
      (if k = 0x200014 then 0x1400000000 else 0)
      else
      (if k < 0x200016 then
       (if k = 0x200015 then 0x100000000 else 0)
       else
       (if k = 0x200016 then 0x1500000000 else 0)))
     else
     (if k < 0x200019 then
      (if k < 0x200018 then
       (if k = 0x200017 then 0x40000000 else 0)
       else
       (if k = 0x200018 then 0x1540000000 else 0))
      else
      (if k < 0x200020 then
       (if k = 0x200019 then 0x1550000000 else 0)
       else
       (if k = 0x200020 then 0x64 else 0)))))
   else
   (if k < 0x220003 then
    (if k < 0x21000a then
     (if k < 0x210007 then
      (if k = 0x210001 then 1 else 0)
      else
      (if k < 0x210008 then
       (if k = 0x210007 then 0x32 else 0)
       else
       (if k = 0x210008 then 0x1f4 else 0)))
     else
     (if k < 0x21000c then
      (if k < 0x21000b then
       (if k = 0x21000a then 0x7fffff else 0)
       else
       (if k = 0x21000b then 0x124f80 else 0))
      else
      (if k < 0x21000d then
       (if k = 0x21000c then 0x8000 else 0)
       else
       (if k = 0x21000d then 1 else 0))))
    else
    (if k < 0x22000a then
     (if k < 0x220008 then
      (if k < 0x220006 then
       (if k = 0x220003 then 0x10 else 0)
       else
       (if k = 0x220006 then 3 else 0))
      else
      (if k < 0x220009 then
       (if k = 0x220008 then 2 else 0)
       else
       (if k = 0x220009 then 10 else 0)))
     else
     (if k < 0x220031 then
      (if k < 0x22000b then
       (if k = 0x22000a then 0xc8 else 0)
       else
       (if 0x22000b ≤ k ∧ k < 0x22000d then 0x10 else 0))
      else
      (if k < 0x220032 then
       (if k = 0x220031 then 0x9c4 else 0)
       else
       (if k = 0x220032 then 0x1a else 0))))))
  else
  (if k < 0x240011 then
   (if k < 0x230006 then
    (if k < 0x230001 then
     (if k < 0x220034 then
      (if k = 0x220033 then 0x32 else 0)
      else
      (if k < 0x220039 then
       (if k = 0x220034 then 0x14 else 0)
       else
       (if k = 0x220039 then 3 else 0)))
     else
     (if k < 0x230004 then
      (if k < 0x230003 then
       (if k = 0x230001 then 0x20 else 0)
       else
       (if k = 0x230003 then 4 else 0))
      else
      (if k < 0x230005 then
       (if k = 0x230004 then 0x3e8 else 0)
       else
       (if k = 0x230005 then 0x400 else 0))))
    else
    (if k < 0x240003 then
     (if k < 0x230008 then
      (if k = 0x230006 then 7 else 0)
      else
      (if k < 0x240001 then
       (if k = 0x230008 then 0x64 else 0)
       else
       (if k = 0x240001 then 0x200 else 0)))
     else
     (if k < 0x240007 then
      (if k < 0x240004 then
       (if k = 0x240003 then 0x1537 else 0)
       else
       (if k = 0x240004 then 0x20 else 0))
      else
      (if k < 0x240010 then
       (if k = 0x240007 then 0x80 else 0)
       else
       (if k = 0x240010 then 0x1ffff else 0)))))
   else
   (if k < 0x250015 then
    (if k < 0x250008 then
     (if k < 0x240070 then
      (if k = 0x240011 then 0xff else 0)
      else
      (if k < 0x250003 then
       (if 0x240070 ≤ k ∧ k < 0x240080 then 0xff else 0)
       else
       (if k = 0x250003 then 3 else 0)))
     else
     (if k < 0x250013 then
      (if k < 0x250012 then
       (if k = 0x250008 then 0x4b52 else 0)
       else
       (if k = 0x250012 then 0xff else 0))
      else
      (if k < 0x250014 then
       (if k = 0x250013 then 3 else 0)
       else
       (if k = 0x250014 then 0x40 else 0))))
    else
    (if k < 0x250019 then
     (if k < 0x250017 then
      (if k < 0x250016 then
       (if k = 0x250015 then 0xc8 else 0)
       else
       (if k = 0x250016 then 0x1f4 else 0))
      else
      (if k < 0x250018 then
       (if k = 0x250017 then 8 else 0)
       else
       (if k = 0x250018 then 0xc8 else 0)))
     else
     (if k < 0x250032 then
      (if k < 0x250021 then
       (if k = 0x250019 then 0x64 else 0)
       else
       (if k = 0x250021 then 0x100 else 0))
      else
      (if k < 0x25003b then
       (if k = 0x250032 then 0x810000 else 0)
       else
       (if k = 0x25003b then 0xffffffff else 0))))))

/-- Non-zero reset values of the objects of index 0x3000 to 0x3FFF. -/
def default3 (k : Nat) : Nat :=
  if k < 0x310007 then
  (if k < 0x300009 then
   (if k < 0x300005 then
    (if k < 0x300003 then
     (if k = 0x300002 then 5 else 0)
     else
     (if k < 0x300004 then
      (if k = 0x300003 then 0x3e8 else 0)
      else
      (if k = 0x300004 then 0x28 else 0)))
    else
    (if k < 0x300006 then
     (if k = 0x300005 then 0x1000 else 0)
     else
     (if k < 0x300007 then
      (if k = 0x300006 then 1 else 0)
      else
      (if k = 0x300007 then 4 else 0))))
   else
   (if k < 0x300013 then
    (if k < 0x300011 then
     (if k = 0x300009 then 0x1e else 0)
     else
     (if k < 0x300012 then
      (if k = 0x300011 then 0x3e8 else 0)
      else
      (if k = 0x300012 then 0x64 else 0)))
    else
    (if k < 0x300014 then
     (if k = 0x300013 then 1 else 0)
     else
     (if k < 0x310006 then
      (if k = 0x300014 then 0x3e8 else 0)
      else
      (if k = 0x310006 then 0x3e8 else 0)))))
  else
  (if k < 0x340004 then
   (if k < 0x32001a then
    (if k < 0x310008 then
     (if k = 0x310007 then 0x28 else 0)
     else
     (if k < 0x31000a then
      (if k = 0x310008 then 0x1000 else 0)
      else
      (if 0x31000a ≤ k ∧ k < 0x31000d then 0xffffffff else 0)))
    else
    (if k < 0x32001c then
     (if k = 0x32001a then 0x3642 else 0)
     else
     (if k < 0x340003 then
      (if 0x32001c ≤ k ∧ k < 0x32001e then 0xffffffff else 0)
      else
      (if k = 0x340003 then 4 else 0))))
   else
   (if k < 0x340012 then
    (if k < 0x340009 then
     (if k = 0x340004 then 0x1900 else 0)
     else
     (if k < 0x34000e then
      (if k = 0x340009 then 0xffffffff else 0)
      else
      (if 0x34000e ≤ k ∧ k < 0x340012 then 0x8000 else 0)))
    else
    (if k < 0x380005 then
     (if 0x340012 ≤ k ∧ k < 0x340016 then 0xffffffff else 0)
     else
     (if k < 0x38000f then
      (if k = 0x380005 then 2 else 0)
      else
      (if k = 0x38000f then 0xffffffff else 0)))))

/-- Non-zero reset values of the objects of index 0x4000 to 0x4FFF. -/
def default4 (k : Nat) : Nat :=
  if k < 0x42000f then
  (if k < 0x410011 then
   (if k < 0x40000a then
    (if k < 0x400006 then
     (if k < 0x400003 then
      (if k = 0x400002 then 4 else 0)
      else
      (if k < 0x400005 then
       (if k = 0x400003 then 0x9c4 else 0)
       else
       (if k = 0x400005 then 0x2b else 0)))
     else
     (if k < 0x400008 then
      (if k < 0x400007 then
       (if k = 0x400006 then 0x2000 else 0)
       else
       (if k = 0x400007 then 0x1000 else 0))
      else
      (if k < 0x400009 then
       (if k = 0x400008 then 2 else 0)
       else
       (if k = 0x400009 then 0x64 else 0))))
    else
    (if k < 0x400012 then
     (if k < 0x400010 then
      (if k < 0x40000e then
       (if k = 0x40000a then 0x3e8 else 0)
       else
       (if k = 0x40000e then 10 else 0))
      else
      (if k < 0x400011 then
       (if k = 0x400010 then 0x10 else 0)
       else
       (if k = 0x400011 then 1 else 0)))
     else
     (if k < 0x410005 then
      (if k < 0x410003 then
       (if 0x400012 ≤ k ∧ k < 0x400014 then 2 else 0)
       else
       (if k = 0x410003 then 0x40 else 0))
      else
      (if k < 0x410007 then
       (if k = 0x410005 then 0x400 else 0)
       else
       (if k = 0x410007 then 0x800 else 0)))))
   else
   (if k < 0x420006 then
    (if k < 0x410026 then
     (if k < 0x410016 then
      (if k = 0x410011 then 0x10000 else 0)
      else
      (if k < 0x410021 then
       (if 0x410016 ≤ k ∧ k < 0x410019 then 0x1000 else 0)
       else
       (if k = 0x410021 then 0x10000 else 0)))
     else
     (if k < 0x420004 then
      (if k < 0x420003 then
       (if 0x410026 ≤ k ∧ k < 0x410029 then 0x1000 else 0)
       else
       (if k = 0x420003 then 0x199a else 0))
      else
      (if k < 0x420005 then
       (if k = 0x420004 then 0x2000 else 0)
       else
       (if k = 0x420005 then 0xc00 else 0))))
    else
    (if k < 0x42000b then
     (if k < 0x420009 then
      (if k < 0x420007 then
       (if k = 0x420006 then 0x599a else 0)
       else
       (if 0x420007 ≤ k ∧ k < 0x420009 then 0x80 else 0))
      else
      (if k < 0x42000a then
       (if k = 0x420009 then 0x2000 else 0)
       else
       (if k = 0x42000a then 0x1388 else 0)))
     else
     (if k < 0x42000d then
      (if k < 0x42000c then
       (if k = 0x42000b then 1 else 0)
       else
       (if k = 0x42000c then 0x500 else 0))
      else
      (if k < 0x42000e then
       (if k = 0x42000d then 0x80 else 0)
       else
       (if k = 0x42000e then 8 else 0))))))
  else
  (if k < 0x480018 then
   (if k < 0x480004 then
    (if k < 0x420015 then
     (if k < 0x420010 then
      (if k = 0x42000f then 0x200 else 0)
      else
      (if k < 0x420012 then
       (if k = 0x420010 then 0x800 else 0)
       else
       (if k = 0x420012 then 0x40 else 0)))
     else
     (if k < 0x420070 then
      (if k < 0x420047 then
       (if k = 0x420015 then 3 else 0)
       else
       (if k = 0x420047 then 0xffffffff else 0))
      else
      (if k < 0x480003 then
       (if 0x420070 ≤ k ∧ k < 0x420080 then 0x8000 else 0)
       else
       (if k = 0x480003 then 0x64 else 0))))
    else
    (if k < 0x48000b then
     (if k < 0x480007 then
      (if k < 0x480006 then
       (if k = 0x480004 then 0xc8 else 0)
       else
       (if k = 0x480006 then 0x186a0 else 0))
      else
      (if k < 0x48000a then
       (if 0x480007 ≤ k ∧ k < 0x480009 then 0xf4240 else 0)
       else
       (if k = 0x48000a then 0x989680 else 0)))
     else
     (if k < 0x48000e then
      (if k < 0x48000c then
       (if k = 0x48000b then 0xffff800000000000 else 0)
       else
       (if k = 0x48000c then 0x7fffffffffff else 0))
      else
      (if k < 0x48000f then
       (if k = 0x48000e then 2 else 0)
       else
       (if k = 0x48000f then 10 else 0)))))
   else
   (if k < 0x48002b then
    (if k < 0x48001b then
     (if k < 0x480019 then
      (if k = 0x480018 then 1 else 0)
      else
      (if k < 0x48001a then
       (if k = 0x480019 then 0x2710 else 0)
       else
       (if k = 0x48001a then 0xc8 else 0)))
     else
     (if k < 0x480029 then
      (if k < 0x48001d then
       (if k = 0x48001b then 0xf4240 else 0)
       else
       (if k = 0x48001d then 0x190 else 0))
      else
      (if k < 0x48002a then
       (if k = 0x480029 then 0x258 else 0)
       else
       (if k = 0x48002a then 0x20 else 0))))
    else
    (if k < 0x490009 then
     (if k < 0x490003 then
      (if k < 0x490002 then
       (if k = 0x48002b then 0x4b0 else 0)
       else
       (if k = 0x490002 then 0x1900 else 0))
      else
      (if k < 0x490005 then
       (if k = 0x490003 then 0x14 else 0)
       else
       (if k = 0x490005 then 0xffff else 0)))
     else
     (if k < 0x49000b then
      (if k < 0x49000a then
       (if k = 0x490009 then 0x64 else 0)
       else
       (if k = 0x49000a then 0x2710 else 0))
      else
      (if k < 0x49000c then
       (if k = 0x49000b then 0xd6b else 0)
       else
       (if k = 0x49000c then 0x4b00 else 0))))))

/-- Non-zero reset values of the objects of index 0x5000 to 0x5FFF. -/
def default5 (k : Nat) : Nat :=
  if k < 0x520006 then
  (if k < 0x500010 then
   (if k < 0x500007 then
    (if k < 0x500005 then
     (if k < 0x500004 then
      (if k = 0x500003 then 0x64 else 0)
      else
      (if k = 0x500004 then 0x30 else 0))
     else
     (if k < 0x500006 then
      (if k = 0x500005 then 0x10 else 0)
      else
      (if k = 0x500006 then 0x8000 else 0)))
    else
    (if k < 0x500009 then
     (if k < 0x500008 then
      (if k = 0x500007 then 0x3e8 else 0)
      else
      (if k = 0x500008 then 8 else 0))
     else
     (if k < 0x50000a then
      (if k = 0x500009 then 1 else 0)
      else
      (if k < 0x50000c then
       (if k = 0x50000a then 2 else 0)
       else
       (if k = 0x50000c then 0x8000 else 0)))))
   else
   (if k < 0x500016 then
    (if k < 0x500012 then
     (if k < 0x500011 then
      (if k = 0x500010 then 0x7d0 else 0)
      else
      (if k = 0x500011 then 0x4e20 else 0))
     else
     (if k < 0x500013 then
      (if k = 0x500012 then 0xfa0 else 0)
      else
      (if 0x500013 ≤ k ∧ k < 0x500016 then 0x2710 else 0)))
    else
    (if k < 0x510014 then
     (if k < 0x500017 then
      (if k = 0x500016 then 0x3e8 else 0)
      else
      (if k = 0x500017 then 0xc350 else 0))
     else
     (if k < 0x510019 then
      (if k = 0x510014 then 0x28f else 0)
      else
      (if k < 0x520005 then
       (if k = 0x510019 then 0xffffffffff else 0)
       else
       (if k = 0x520005 then 0x10000 else 0))))))
  else
  (if k < 0x5e0018 then
   (if k < 0x580003 then
    (if k < 0x520012 then
     (if k < 0x520011 then
      (if k = 0x520006 then 4 else 0)
      else
      (if k = 0x520011 then 0xff else 0))
     else
     (if k < 0x520020 then
      (if k = 0x520012 then 1 else 0)
      else
      (if 0x520020 ≤ k ∧ k < 0x520040 then 0xffffffff else 0)))
    else
    (if k < 0x58000c then
     (if k < 0x58000a then
      (if k = 0x580003 then 0xffffffffffffffff else 0)
      else
      (if 0x58000a ≤ k ∧ k < 0x58000c then 0xffffffff else 0))
     else
     (if k < 0x580012 then
      (if k = 0x58000c then 10 else 0)
      else
      (if k < 0x5e0005 then
       (if k = 0x580012 then 0x40 else 0)
       else
       (if k = 0x5e0005 then 0x258 else 0)))))
   else
   (if k < 0x5f1008 then
    (if k < 0x5f0006 then
     (if k < 0x5f0002 then
      (if 0x5e0018 ≤ k ∧ k < 0x5e001c then 0xffffffff else 0)
      else
      (if k = 0x5f0002 then 4 else 0))
     else
     (if k < 0x5f1002 then
      (if k = 0x5f0006 then 4 else 0)
      else
      (if k = 0x5f1002 then 0xffffffff else 0)))
    else
    (if k < 0x5f2014 then
     (if k < 0x5f1009 then
      (if k = 0x5f1008 then 0xffff else 0)
      else
      (if k = 0x5f1009 then 0xffffffff else 0))
     else
     (if k < 0x5f2015 then
      (if k = 0x5f2014 then 0x40 else 0)
      else
      (if k < 0x5f2025 then
       (if 0x5f2015 ≤ k ∧ k < 0x5f2019 then 0xffffffff else 0)
       else
       (if 0x5f2025 ≤ k ∧ k < 0x5f2029 then 0xffffffff else 0))))))

/-- The value of an object that has not been changed since reset (R18). -/
def defaultObj (k : Key) : Nat :=
  let b := baseKey k
  if b / 0x100000 = 0x1 then default1 b else if b / 0x100000 = 0x2 then default2 b else if b / 0x100000 = 0x3 then default3 b else if b / 0x100000 = 0x4 then default4 b else if b / 0x100000 = 0x5 then default5 b else 0

end Sys2Proof.Machine
end

