-- ==== Sys2Proof/Machine/Store.lean ====
section
/-! DEFINITION. Sparse stores in one canonical form, and reading and writing of objects and memory bytes.
A store is a list of keys and values, keys strictly rising, that lists no value equal to what an unlisted key reads as. -/

namespace Sys2Proof.Machine

/-- The value listed for a key. -/
def findKey {α : Type} : List (Nat × α) → Nat → Option α
  | [], _ => none
  | (a, x) :: t, k => if a = k then some x else findKey t k

/-- Lists value `x` for key `k`, before the first greater key. -/
def putKey {α : Type} : List (Nat × α) → Nat → α → List (Nat × α)
  | [], k, x => [(k, x)]
  | (a, y) :: t, k, x =>
    if k < a then (k, x) :: (a, y) :: t
    else if k = a then (k, x) :: t
    else (a, y) :: putKey t k x

/-- Removes key `k`. -/
def dropKey {α : Type} : List (Nat × α) → Nat → List (Nat × α)
  | [], _ => []
  | (a, y) :: t, k => if a = k then dropKey t k else (a, y) :: dropKey t k

/-- Reads key `k` of a store whose unlisted keys read as `d k`. -/
def storeGet {α : Type} (d : Nat → α) (l : List (Nat × α)) (k : Nat) : α := (findKey l k).getD (d k)

/-- Writes `x` at key `k` of a store whose unlisted keys read as `d k`. -/
def storePut {α : Type} [DecidableEq α] (d : Nat → α) (l : List (Nat × α)) (k : Nat) (x : α) :
    List (Nat × α) :=
  if x = d k then dropKey l k else putKey l k x

/-- The keys rise strictly. -/
def rising {α : Type} : List (Nat × α) → Bool
  | [] => true
  | [_] => true
  | (a, _) :: (b, y) :: t => decide (a < b) && rising ((b, y) :: t)

/-- The canonical form of a store. -/
def storeWf {α : Type} [DecidableEq α] (d : Nat → α) (l : List (Nat × α)) : Bool :=
  rising l && l.all fun p => decide (p.2 ≠ d p.1)

/-- The value that a byte of memory that is not listed reads as: SRAM is cleared at reset (R540), and the stack's
contents before they are written are a DESIGN CHOICE (log entry 4, unsafe). -/
def memDefault (_ : Nat) : Byte := 0

/-- Memory is in its canonical form. -/
abbrev memWf (m : List Host.Cell) : Bool := storeWf memDefault m

/-- A numeric object's value. -/
def State.obj (s : State) (k : Key) : Nat := storeGet defaultObj s.od k

/-- Sets a numeric object. -/
def State.setObj (s : State) (k : Key) (v : Nat) : State :=
  { s with od := storePut defaultObj s.od k v }

/-- Bit `i` of an object. -/
def State.bit (s : State) (k : Key) (i : Nat) : Bool := (s.obj k).testBit i

/-- Sets bit `i` of an object to `b`. -/
def State.setBit (s : State) (k : Key) (i : Nat) (b : Bool) : State := s.setObj k (putBit (s.obj k) i b)

/-- A DOMAIN object's bytes, empty where nothing has been stored. -/
def State.domain (s : State) (k : Key) : Bytes := storeGet (fun _ => []) s.dom k

/-- Stores a DOMAIN object. -/
def State.setDomain (s : State) (k : Key) (b : Bytes) : State :=
  { s with dom := storePut (fun _ => []) s.dom k b }

/-- One byte of memory. -/
def State.byte (s : State) (a : Nat) : Byte := storeGet memDefault s.mem a

/-- Writes one byte of memory. -/
def State.setByte (s : State) (a : Nat) (b : Byte) : State :=
  { s with mem := storePut memDefault s.mem a b }

/-- `n` bytes of memory from address `a`. -/
def State.bytes (s : State) (a : Nat) : Nat → Bytes
  | 0 => []
  | n + 1 => s.byte a :: s.bytes (a + 1) n

/-- Puts bytes into memory from address `a` upward. -/
def State.putBytes (s : State) (a : Nat) : Bytes → State
  | [] => s
  | b :: t => (s.setByte a b).putBytes (a + 1) t

/-- Stack words written whole among `n` bytes at `a` are poisoned no more (R513). -/
def State.unpoison (s : State) (a n : Nat) : State :=
  { s with stack := { s.stack with poison := s.stack.poison.filter fun w => !(decide (a ≤ w) && decide (w + 4 ≤ a + n)) } }

/-- Writes bytes from address `a` upward. -/
def State.setBytes (s : State) (a : Nat) (d : Bytes) : State := (s.putBytes a d).unpoison a d.length

/-- Little-endian number of `n` bytes at address `a`. -/
def State.num (s : State) (a n : Nat) : Nat := leNat (s.bytes a n)

/-- Writes `v` as `n` little-endian bytes at address `a`. -/
def State.setNum (s : State) (a n v : Nat) : State := s.setBytes a (leBytes n v)

/-- A value captured for a HI register, or held from a LO write (R75, R93). -/
def State.heldAt (s : State) (a : Nat) : Nat := storeGet (fun _ => 0) s.held a

/-- Captures or holds a value for a register pair. -/
def State.hold (s : State) (a v : Nat) : State :=
  { s with held := storePut (fun _ => 0) s.held a v }

/-! One part of the hidden state is changed. -/

/-- Changes the `position` part of the state. -/
def State.modPosition (s : State) (f : Position → Position) : State := { s with position := f s.position }

/-- Changes the `sched` part of the state. -/
def State.modSched (s : State) (f : Sched → Sched) : State := { s with sched := f s.sched }

/-- Changes the `engine` part of the state. -/
def State.modEngine (s : State) (f : Engine → Engine) : State := { s with engine := f s.engine }

/-- Changes the `slave` part of the state. -/
def State.modSlave (s : State) (f : Slave → Slave) : State := { s with slave := f s.slave }

/-- Changes the `health` part of the state. -/
def State.modHealth (s : State) (f : Health → Health) : State := { s with health := f s.health }

/-- Changes the `ingest` part of the state. -/
def State.modIngest (s : State) (f : Ingest → Ingest) : State := { s with ingest := f s.ingest }

/-- Changes the `render` part of the state. -/
def State.modRender (s : State) (f : Render → Render) : State := { s with render := f s.render }

/-- Changes the `kaleido` part of the state. -/
def State.modKaleido (s : State) (f : Kaleido → Kaleido) : State := { s with kaleido := f s.kaleido }

/-- Changes the `analyser` part of the state. -/
def State.modAnalyser (s : State) (f : Analyser → Analyser) : State := { s with analyser := f s.analyser }

/-- Changes the `stack` part of the state. -/
def State.modStack (s : State) (f : Stack → Stack) : State := { s with stack := f s.stack }

/-- Changes the `sram` part of the state. -/
def State.modSram (s : State) (f : Sram → Sram) : State := { s with sram := f s.sram }

/-- Changes the `clocks` part of the state. -/
def State.modClocks (s : State) (f : Clocks → Clocks) : State := { s with clocks := f s.clocks }

/-- Changes the `vbat` part of the state. -/
def State.modVbat (s : State) (f : Vbat → Vbat) : State := { s with vbat := f s.vbat }

/-- Changes the `mram` part of the state. -/
def State.modMram (s : State) (f : Mram → Mram) : State := { s with mram := f s.mram }

/-- Draws a free value: nothing constrains it. -/
def State.draw (s : State) : Nat × State := (Config.freeNat s.draws, { s with draws := s.draws + 1 })

end Sys2Proof.Machine
end

