-- ==== Sys2Proof/Machine/Flags.lean ====
section
/-! DEFINITION. Event registers, the event vector, counters, the fault manager and emergencies (R588 to R592, R636 to R653, R657).
Every meaning ends in `finish`, which brings the coverage status, the event vector and the emergency queue up to date. -/

namespace Sys2Proof.Machine

/-- The timing domain runs (R611). -/
def State.timing (s : State) : Bool := s.clocks.ctl = .run

/-- The timing clock `t` is reached; a clock in the past changes nothing. The copy of system time advances by 2 ns with each clock of the timing domain, which stands still where the domain has no clock (R29, R608). -/
def State.at (s : State) (t : Nat) : State :=
  if s.clk < t then
    { s with clk := t, sysTime := if s.timing then (s.sysTime + 2 * (t - s.clk)) % 2 ^ 64 else s.sysTime }
  else s

/-- Adds `n` to a counter object and to its lifetime increment, both saturating (R15, R637). -/
def State.bumpN (s : State) (k : Key) (n : Nat) : State :=
  let s := s.setObj k (min (2 ^ 32 - 1) (s.obj k + n))
  s.modHealth fun hl => { hl with
      lifetime := storePut (fun _ => 0) s.health.lifetime k
        (min (2 ^ 32 - 1) (storeGet (fun _ => 0) s.health.lifetime k + n)) }

/-- Increments a counter object. -/
def State.bump (s : State) (k : Key) : State := s.bumpN k 1

/-- Sets an event bit. -/
def State.event (s : State) (k : Key) (i : Nat) : State := s.setBit k i true

/-- Sets an event bit where the condition holds. -/
def State.eventIf (s : State) (c : Bool) (k : Key) (i : Nat) : State := if c then s.event k i else s

/-- The event sources that one object makes pending, as bits of the 256-bit vector (R588). -/
def sourcesOf (k : Key) (v : Nat) : Nat :=
  let b := baseKey k
  let n := instOf k
  let one := fun (src : Nat) => if v = 0 then 0 else 1 <<< src
  if b = 0x580017 then (if v % 16 = 0 then 0 else 1 <<< n)
  else if b = 0x310009 then one (32 + n)
  else if b = 0x34001B then one (48 + n)
  else if b = 0x380008 then one (64 + n)
  else if b = 0x490010 then one (80 + n)
  else if b = 0x480035 then one (84 + n)
  else if b = 0x400027 then one (88 + n)
  else if k = 0x41000D then one 90
  else if k = 0x420045 then one 91
  else if k = 0x220016 then one 92
  else if k = 0x230019 then one 93
  else if k = 0x240013 then one 94
  else if k = 0x25003C then one 95
  else if k = 0x50000F then one 96
  else if k = 0x520002 then one 97
  else if k = 0x580002 then one 98
  else if k = 0x580009 then one 99
  else if k = 0x210004 then one 100
  else if k = 0x5F100C then one 101
  else if k = 0x200023 then one 102
  else if k = 0x5E0010 then v <<< 128
  else if k = 0x5E0011 then v <<< 160
  else if k = 0x5E0012 then v <<< 192
  else if k = 0x5E0013 then v <<< 224
  else 0

/-- The event vector: the sources whose condition holds (R588). -/
def pendingVector : List (Nat × Nat) → Nat
  | [] => 0
  | (k, v) :: t => sourcesOf k v ||| pendingVector t

/-- Eight 32-bit objects from a key upward, joined. -/
def State.join8 (s : State) (k : Key) : Nat :=
  s.obj k + s.obj (k + 1) <<< 32 + s.obj (k + 2) <<< 64 + s.obj (k + 3) <<< 96 +
  s.obj (k + 4) <<< 128 + s.obj (k + 5) <<< 160 + s.obj (k + 6) <<< 192 + s.obj (k + 7) <<< 224

/-- The emergency mask over the 256 sources (R593). -/
def State.emcyMask (s : State) : Nat := s.join8 0x5F2011

/-- The ALERT mask over the 256 sources (R593). -/
def State.alertMask (s : State) : Nat := s.join8 0x5F2021

/-- Engine state code (R576). -/
def State.engineState (s : State) : Nat := s.obj 0x5F1006

/-- Some port's limit latch is set (R590). -/
def State.anyLimit (s : State) : Bool := (List.range 16).any fun n => s.bit (0x34001A + n * 0x100) 3

/-- Some enabled raster link is not UP (R590). -/
def State.linkDown (s : State) : Bool :=
  (s.obj 0x250001 = 1 && s.obj 0x250030 % 4 ≠ 3) || (s.obj 0x250002 = 1 && s.obj 0x250030 / 4 % 4 ≠ 3)

/-- The error register 0x1001 (R590). -/
def State.errorRegister (s : State) : Nat :=
  b2n (s.engineState = 6) + 8 * b2n (s.anyLimit || s.bit 0x50000E 1 || s.bit 0x50000E 2) +
  16 * b2n (s.linkDown || s.obj 0x200021 = 1) + 128 * b2n (s.pend ≠ 0)

/-- ALERT_L is driven low (R589). -/
def State.alertLow (s : State) : Bool := s.pend &&& s.alertMask ≠ 0

/-- FAULT_L is driven low (R586). -/
def State.faultLow (s : State) : Bool := s.engineState = 6

/-- Queues an emergency with the given error code (R591, R592). -/
def State.queueEmcy (s : State) (code : Nat) : State :=
  match s.slave.al with
  | .init => s
  | .boot => s
  | _ =>
    if s.slave.emcy.length ≥ 8 then (s.bump 0x5F2032).event 0x200023 3
    else
      let m := leBytes 2 code ++ leBytes 1 s.errorRegister ++ leBytes 1 s.engineState ++
        leBytes 4 (s.obj 0x5F2030)
      s.modSlave fun sl => { sl with emcy := s.slave.emcy ++ [m] }

/-- The event sequence rises (R591). -/
def State.nextSequence (s : State) : State := s.setObj 0x5F2030 ((s.obj 0x5F2030 + 1) % 2 ^ 32)

/-- A source has become pending: the event sequence rises, and an emergency is queued under its mask (R591). -/
def State.announce (s : State) (src : Nat) : State :=
  if s.emcyMask.testBit src then s.nextSequence.queueEmcy (0xFF00 + src) else s.nextSequence

/-- The sources whose bit is set, ascending. -/
def sourceList (v : Nat) : List Nat := if v = 0 then [] else (List.range 256).filter fun i => v.testBit i

/-- The last pending source under the emergency mask has cleared: a message says so (R591). -/
def State.announceClear (s : State) (before : Nat) : State :=
  if before &&& s.emcyMask ≠ 0 ∧ s.pend &&& s.emcyMask = 0 then s.queueEmcy 0 else s

/-- The sources that become pending are announced in ascending order (R591). -/
def State.announceNew (s : State) (v : Nat) : State :=
  (sourceList (v &&& (v ^^^ s.pend))).foldl State.announce { s with pend := v }

/-- One comparison of the event vector with the one before it (R591). -/
def State.eventRound (s : State) : State := (s.announceNew (pendingVector s.od)).announceClear s.pend

/-- The bytes of a log entry without its CRC (R652). -/
def logBody (seq src inst engine flags time rtc detail count : Nat) : Bytes :=
  leBytes 4 seq ++ leBytes 1 src ++ leBytes 1 inst ++ leBytes 1 engine ++ leBytes 1 flags ++
  leBytes 8 time ++ leBytes 8 rtc ++ leBytes 4 detail ++ leBytes 2 count

/-- CRC-16 as HDR_CRC of R216: polynomial 0x1021, initial value 0xFFFF, not reflected, no final exclusive-or. -/
def crc16 (l : Bytes) : Nat :=
  l.foldl (fun c b => crcFwdSteps 16 0x1021 8 (c ^^^ (b.toNat <<< 8))) 0xFFFF

/-- The RTC now, in units of 1/32,768 s (R633). -/
def State.rtc (s : State) : Nat :=
  (s.vbat.rtcBase + (s.clk - s.vbat.rtcClk) * 32768 / 500000000) % 2 ^ 64

/-- The entry of the event log for a raise now (R652). -/
def State.entryBytes (s : State) (src inst detail merged : Nat) : Bytes :=
  let flags := b2n s.vbat.rtcValid + 2 * b2n (s.obj 0x200021 = 2) + 4 * b2n (merged ≠ 0)
  let body := logBody ((s.mram.logSeq + 1) % 2 ^ 32) src inst s.engineState flags s.sysTime s.rtc detail (min 65535 (merged + 1))
  body ++ leBytes 2 (crc16 body)

/-- A log of 8,192 entries loses its oldest (R652). -/
def trimLog (l : List Bytes) : List Bytes := if l.length > 8192 then l.drop 1 else l

/-- The log takes an entry, and the source's merged raises start again. -/
def State.putEntry (s : State) (src inst detail merged : Nat) : State :=
  (s.modMram fun mr => { mr with
    logSeq := (mr.logSeq + 1) % 2 ^ 32
    log := trimLog (mr.log ++ [s.entryBytes src inst detail merged]) }).modHealth fun hl => { hl with
    logLast := storePut (fun _ => 0) hl.logLast src (s.sysTime + 1)
    merged := storePut (fun _ => 0) hl.merged src 0 }

/-- Writes an entry of the event log, overwriting the oldest of 8,192 (R652, R653). -/
def State.logEntry (s : State) (src inst detail merged : Nat) : State := (s.putEntry src inst detail merged).bump 0x5E0051

/-- One more than the system time of a source's latest entry; 0 for none (R653). -/
def State.lastLogged (s : State) (src : Nat) : Nat := storeGet (fun _ => 0) s.health.logLast src

/-- Raises of a source merged since its latest entry (R653). -/
def State.mergedRaises (s : State) (src : Nat) : Nat := storeGet (fun _ => 0) s.health.merged src

/-- One more raise of a source waits for its next entry (R653). -/
def State.countMerge (s : State) (src : Nat) : State :=
  s.modHealth fun hl => { hl with merged := storePut (fun _ => 0) s.health.merged src (s.mergedRaises src + 1) }

/-- A raise within one second of the latest entry is merged into the next (R653). -/
def State.logMerge (s : State) (src : Nat) : State := ((s.countMerge src).bump 0x5E0052).event 0x5E0004 5

/-- Logs a raise of a source, or merges it within one second of the latest entry (R653). -/
def State.logRaise (s : State) (src inst detail : Nat) : State :=
  if s.lastLogged src ≠ 0 ∧ s.sysTime + 1 < s.lastLogged src + 1000000000 then s.logMerge src
  else s.logEntry src inst detail (s.mergedRaises src)

/-- A fault-manager source becomes pending and is counted (R640). -/
def State.setFault (s : State) (src : Nat) : State :=
  (s.setBit (0x5E0010 + (src - 128) / 32) ((src - 128) % 32) true).bump 0x5E0050

/-- Raises a fault-manager source: it becomes pending, is counted, and is logged under the log mask (R640, R652). -/
def State.raise (s : State) (src inst detail : Nat) : State :=
  if s.bit (0x5E0018 + (src - 128) / 32) ((src - 128) % 32) then (s.setFault src).logRaise src inst detail else s.setFault src

/-- The read of an MRAM record fails its CRC: a word of it holds a double-bit error, or the CRC fails for another reason (R651). -/
def readFails (m : MramRead) : Bool := m.crcBad || m.finds.contains .double

/-- One word of a read of row `row` of the MRAM's table: a single-bit error is corrected and counted; a double-bit error raises MRAM_ERROR and is counted (R639, R651). -/
def State.mramWord (s : State) (row : Nat) : EccFind → State
  | .clean => s
  | .single => s.bump 0x5E0054
  | .double => ((s.raise 173 row 0).bump 0x5E0055).event 0x5E0004 3

/-- A record in row `row` of the MRAM's table is read (R650, R651). -/
def State.mramRead (s : State) (row : Nat) (m : MramRead) : State := m.finds.foldl (fun s f => s.mramWord row f) s

/-- Whether the engine is in one of the states of a job: ARMED, PRINTING, DRAINING or HOLD. -/
def State.inJobState (s : State) : Bool := 2 ≤ s.engineState && s.engineState ≤ 5

/-- The state of a head port (0x3100+n:01, R141). -/
def State.portState (s : State) (n : Nat) : Nat := s.obj (0x310001 + n * 0x100)

/-- A head port is enabled: its port enable is 1 (R143). -/
def State.portEnabled (s : State) (n : Nat) : Bool := s.obj (0x300001 + n * 0x100) = 1

/-- ECHO_MODE of the record in force of a port; 1 where no record is in force. -/
def State.echoMode (s : State) (n : Nat) : Nat :=
  let r := s.domain (0x300020 + n * 0x100)
  if r.isEmpty then 1 else leAt r 0x12 1

/-- A camera enabled for analysis is stalled or disabled: CAM_DEGRADED of SA_STATUS (R430). -/
def State.camDegraded (s : State) : Bool := (List.range 2).any fun c =>
  s.obj (0x420020 + 0x10 * c) = 1 && (s.obj (0x400001 + 0x100 * c) = 0 || s.bit (0x400020 + 0x100 * c) 2)

/-- The coverage status (R657). -/
def State.coverage (s : State) : Nat :=
  b2n (s.inJobState && s.engine.crcUnchecked) +
  2 * b2n (s.render.started && !s.bit 0x240012 0) +
  4 * b2n ((List.range 16).any fun n =>
        s.portEnabled n && (s.obj (0x300006 + n * 0x100) = 0 || s.echoMode n = 0)) +
  8 * b2n s.clocks.rcFault +
  16 * b2n (3 ≤ s.engineState && s.engineState ≤ 5 && (s.obj 0x420001 = 0 || s.camDegraded)) +
  32 * b2n (s.obj 0x21000C ≠ 0x8000 && sx 16 (s.obj 0x21000C) ≥ 25600)

/-- A coverage bit has changed from 0 to 1 (R657). -/
def State.degraded (s : State) (i : Nat) : State := ((s.raise 174 i 0).bump 0x5E0058).event 0x5E0004 4

/-- Raises COVERAGE_DEGRADED for each coverage bit that changes from 0 to 1, and reports the status (R657). -/
def State.coverageRound (s : State) : State :=
  ((List.range 6).filter fun i => s.coverage.testBit i && !(s.obj 0x5E0001).testBit i).foldl State.degraded
    (s.setObj 0x5E0001 s.coverage)

/-- Some port is at T_WARN: the thermal cause of SLOW_REQ_L (R113, R193). -/
def State.thermalCause (s : State) : Bool := (List.range 16).any fun n => s.bit (0x34001A + n * 0x100) 2

/-- The engine is in a state in which only the force cause drives SLOW_REQ_L (R115). -/
def State.slowQuiet (s : State) : Bool := s.engineState ≤ 1 || s.engineState = 6

/-- An enabled margin or thermal cause is present (R113). -/
def State.slowOther (s : State) : Bool :=
  !s.slowQuiet && ((s.bit 0x230006 1 && s.sched.margin ≠ 0) || (s.bit 0x230006 2 && s.thermalCause))

/-- Clock at which the hold time of a cause that ends now ends (R113). -/
def State.slowHold (s : State) : Nat := s.clk + s.obj 0x230008 * 500000

/-- The device drives SLOW_REQ_L or releases it, counting each change to driven (R113, R114). -/
def State.setDrive (s : State) (b : Bool) : State :=
  if b && !s.sched.drive then ((s.modSched fun sch => { sch with drive := b } : State).bump 0x230025).event 0x230019 5
  else s.modSched fun sch => { sch with drive := b }

/-- The force cause is present (R113). -/
def State.slowForce (s : State) : Bool := s.obj 0x230009 = 1

/-- A cause that has ended leaves its hold time, and the causes present are noted (R113). -/
def State.slowNote (s : State) : State :=
  s.modSched fun sch => { sch with
      holdForce := if s.sched.wasForce && !s.slowForce then some s.slowHold else s.sched.holdForce
      holdOther := if s.sched.wasOther && !s.slowOther then some s.slowHold else s.sched.holdOther
      wasForce := s.slowForce
      wasOther := s.slowOther }

/-- SLOW_REQ_L is driven for a cause present; in a quiet state it is released where no hold time of the force cause runs (R113 to R115). -/
def State.slowDrive (s : State) : State :=
  if s.slowForce || s.slowOther then s.setDrive true
  else if s.slowQuiet && s.sched.holdForce.isNone then s.setDrive false
  else s

/-- The causes of SLOW_REQ_L are brought up to date (R113 to R115); a drive that only a hold time keeps ends at SLOW_REQ_RELEASE. -/
def State.slowSync (s : State) : State := s.slowNote.slowDrive

/-- BAR_VALID of the position status (R85). -/
def State.barValid (s : State) : Bool := s.bit 0x220015 8

/-- The walk check is suspended while the bar position is not valid; WALK_UNCHECKED clears when BAR_VALID sets (R293, R294). -/
def State.walkSync (s : State) : State :=
  if s.barValid then (if s.bit 0x240012 3 then s.setBit 0x240012 3 false else s)
  else if s.obj 0x240005 = 1 && 3 ≤ s.engineState && s.engineState ≤ 5 && !s.bit 0x240012 3 then
    (s.setBit 0x240012 3 true).event 0x240013 6
  else s

/-- The event vector is read from the event registers (R588). -/
def State.readVector (s : State) : State := { s with pend := pendingVector s.od }

/-- The end of every command: coverage status, then the event vector with its sequence and emergencies (R591, R657). -/
def State.settle (s : State) : State := s.slowSync.walkSync.coverageRound.eventRound.eventRound.readVector

end Sys2Proof.Machine
end

