-- ==== Sys2Proof/Machine/Operands.lean ====
section
/-! DEFINITION. How a write reaches a block: the SDO service with its aborts, a register write with CONFIG_REFUSED, and a mapped process-data object (R11, R560, R564, R621, R622). -/

namespace Sys2Proof.Machine

/-- What an operation answers: the SDO abort that refuses it, if any, and the state after it. -/
abbrev Answer := Option Nat × State

/-- The operation took effect. -/
def State.accept (s : State) : Answer := (none, s)

/-- The operation is refused with an abort code. -/
def State.refuse (s : State) (code : Nat) : Answer := (some code, s)

/-- Carries out `f` unless a check refuses it. -/
def State.unless (s : State) (check : Option Nat) (f : State → State) : Answer :=
  match check with
  | some c => (some c, s)
  | none => (none, f s)

/-- The first abort of a list of conditions in order, each refusing where it holds (R564). -/
def firstAbort : List (Bool × Nat) → Option Nat
  | [] => none
  | (c, a) :: t => if c then some a else firstAbort t

/-- The gate bit of the block whose registers or objects a key belongs to (R621). -/
def gateOf (k : Key) : Option Nat :=
  let hi := k / 0x10000
  let n := instOf k
  if hi = 0x30 ∨ hi = 0x31 ∨ hi = 0x33 ∨ hi = 0x34 then some n
  else if hi = 0x40 then some (16 + n)
  else if hi = 0x41 ∨ hi = 0x42 then some 18
  else if hi = 0x25 then some 19
  else if hi = 0x48 then some 20
  else if hi = 0x49 then some 21
  else if hi = 0x58 ∧ (baseKey k < 0x580008 ∨ 0x580010 ≤ baseKey k) then some 22
  else none

/-- The block of a key is gated (R622). -/
def State.gated (s : State) (k : Key) : Bool :=
  match gateOf k with
  | some g => s.clocks.closed.testBit g
  | none => false

/-- The event bit CONFIG_REFUSED of the block that a key belongs to (R601, R635, R660 and the register tables of the blocks). -/
def configRefusedBit (k : Key) : Option (Key × Nat) :=
  let hi := k / 0x10000
  let at_ := instOf k * 0x100
  if hi = 0x23 ∨ hi = 0x32 then some (0x230019, 8)
  else if hi = 0x30 ∨ hi = 0x31 ∨ hi = 0x33 ∨ hi = 0x34 then some (0x310009 + at_, 9)
  else if hi = 0x49 then some (0x490010 + at_, 4)
  else if hi = 0x25 then some (0x25003C, 10)
  else if hi = 0x24 then some (0x240013, 10)
  else if hi = 0x38 then some (0x380008 + at_, 7)
  else if hi = 0x40 then some (0x400027 + at_, 11)
  else if hi = 0x41 then some (0x41000D, 4)
  else if hi = 0x42 then some (0x420045, 12)
  else if hi = 0x48 then some (0x480035 + at_, 9)
  else if hi = 0x50 then some (0x50000F, 8)
  else if hi = 0x51 ∨ hi = 0x52 then some (0x520002, 7)
  else if hi = 0x58 then
    (if baseKey k < 0x580010 then some (0x580002, 1) else some (0x580017 + at_, 4))
  else if hi = 0x5F then some (0x5F100C, 5)
  else if hi = 0x21 then some (0x210004, 13)
  else if hi = 0x5E then some (0x5E0004, 6)
  else none

/-- Objects whose writes R60 takes only in DISABLED and STANDBY. -/
def inR60 (k : Key) : Bool := (0x220001 ≤ k && k ≤ 0x22000E) || (0x220030 ≤ k && k ≤ 0x22003A)

/-- A refused register write sets its block's CONFIG_REFUSED, or in the position unit CONFIG_ERR under R61, R83 and for MODE 3 of BAR_CTRL (R92); ENG_CMD and COMMIT_CTRL report in CMD_REFUSED and COMMIT_REFUSED alone (R124, R578). A field written out of its range is such a refusal (DESIGN CHOICE, log entry 131). -/
def State.configRefused (s : State) (k : Key) : State :=
  if k = 0x5F1001 ∨ k = 0x230010 then s
  else if (inR60 k && decide (2 ≤ s.engineState)) || k = 0x220030 then s.setBit 0x220015 10 true
  else match configRefusedBit k with
    | some (e, i) => s.event e i
    | none => s

/-- A register write refused with an SDO abort: one to a locked shadow set has set LOCKED_WRITE, and any other reports as refused (R119). -/
def State.refusedAs (s : State) (abort : Nat) (k : Key) : State := if abort = 0x08000021 then s else s.configRefused k

/-- Sets what the mailbox or the bus answers. -/
def State.answer (s : State) (r : Resp) : State := s.modSlave fun sl => { sl with resp := r }

/-- A new SDO request discards a segmented write in progress (R565). -/
def State.newSdo (s : State) : State := s.modSlave fun sl => { sl with seg := none }

/-- A write of object `k` that reaches its block by `via` and is judged and made by `body`. -/
def State.access (s : State) (via : Via) (k : Key) (body : State → Answer) : State :=
  match via with
  | .sdo =>
    match s.slave.al with
    | .init => s
    | .boot => s.answer .mailboxError
    | _ =>
      let s := s.newSdo
      if s.gated k then
        match (body s).1 with
        | some a => s.answer (.abort (if [0x06020000, 0x06090011, 0x06010002, 0x06070010].contains a then a else 0x08000022))
        | none => s.answer (.abort 0x08000022)
      else
        match body s with
        | (none, t) => t.answer .done
        | (some c, t) => t.answer (.abort c)
  | .reg =>
    if s.gated k then s.answer .busDone
    else
      match body s with
      | (none, t) => t.answer .busDone
      | (some a, t) => (t.refusedAs a k).answer .busDone
  | .pdo =>
    if s.slave.al = .op ∧ ¬ s.gated k then (body s).2 else s

end Sys2Proof.Machine
end

