-- ==== Sys2Proof/Machine/StackAddr.lean ====
section
/-! DEFINITION. The stack's address maps, and whether an access to a range of addresses is made or ends with an error response (R461 to R466, R489, R491, R513 to R520). -/

namespace Sys2Proof.Machine

/-- Key of instance `c` of a stack channel object. -/
def ck8 (k : Key) (c : Fin 8) : Key := k + c.val * 0x100

/-- A channel's hidden state is changed. -/
def State.modChan (s : State) (c : Fin 8) (f : Chan → Chan) : State :=
  s.modStack fun k => { k with chan := k.chan.set c (f (k.chan.get c)) }

/-- Pages of 512 KiB that a channel holds (R461, R514). -/
def State.chanPages (s : State) : Nat := match s.variant with
  | .v32A => 8192
  | .v16A => 4096

/-- Physical channels of a mask, in ascending order. -/
def chanList (m : Nat) : List Nat := (List.range 8).filter fun c => m.testBit c

/-- A page's storage: a retired page takes one from the end of the stack that is not retired, in ascending order of both (R515). -/
def State.pageStorage (s : State) (page : Nat) : Nat :=
  let retired := sortBy (fun a b => decide (a ≤ b)) (s.mram.repair.pages.map fun p => p.2.2)
  let q := (chanList s.stack.mapped).length * s.chanPages
  let low := retired.filter fun r => decide (r < q - retired.length)
  let high := (List.range retired.length).map (q - retired.length + ·) |>.filter fun p => !retired.contains p
  match low.findIdx? (· = page) with
  | some i => high.getD i page
  | none => page

/-- Column of a stack offset under an address-map order (R463). -/
def mapColumn (order a : Nat) : Nat := field a 6 2 + 4 * (if order = 2 then field a 8 3 else field a 16 3)

/-- Logical channel, bank and row of a stack offset under an address-map order (R463); the bank is 4 g + b. -/
def mapOffset (order a : Nat) : Nat × Nat × Nat :=
  let row := a / 2 ^ 19
  let f := fun (lo w : Nat) => field a lo w
  if order = 1 then (f 11 3, 4 * f 8 3 + f 14 2, row)
  else if order = 2 then (f 11 3, 4 * f 14 3 + f 17 2, row)
  else if order = 3 then (f 8 3 ^^^ f 24 3, 4 * (f 11 3 ^^^ f 19 3) + (f 14 2 ^^^ f 22 2), row)
  else (f 8 3, 4 * f 11 3 + f 14 2, row)

/-- Stack offset of an address, with the page swap of R515 applied (R463, R518). -/
def State.offsetOf (s : State) (addr : Nat) : Nat :=
  let a := addr - 0x1000000000
  s.pageStorage (a / 2 ^ 19) * 2 ^ 19 + a % 2 ^ 19

/-- Column of a stack address (R463). -/
def State.column (s : State) (addr : Nat) : Nat := mapColumn (s.obj 0x500002) (s.offsetOf addr)

/-- Physical channel, bank and row of a stack address (R463, R464, R515, R518). -/
def State.place (s : State) (addr : Nat) : Fin 8 × Nat × Nat :=
  let (k, bank, row) := mapOffset (s.obj 0x500002) (s.offsetOf addr)
  let p := chanList s.stack.mapped
  let x := row * 8 + k
  (⟨p.getD (x % max 1 p.length) 0 % 8, Nat.mod_lt _ (by decide)⟩, bank, x / max 1 p.length)

/-- Bytes of the populated stack (R31, R518). -/
def State.populated (s : State) : Nat := s.obj 0x520005 * 0x80000

/-- An address lies in the populated stack. -/
def State.inStack (s : State) (a : Nat) : Bool := 0x1000000000 ≤ a && a < 0x1000000000 + s.populated

/-- State code of a channel (R494). -/
def State.chanState (s : State) (c : Fin 8) : Nat := s.obj (ck8 0x500020 c)

/-- The stack serves accesses that are not MAINT's: no self-refresh, rebuild, MBIST or 1500 access, and at least four channels (R489, R519, R520, R522, R524). -/
def State.stackOpen (s : State) : Bool :=
  s.timing && decide (s.stack.sr = .off) && !s.bit 0x520001 1 && !s.bit 0x520001 2 && !s.bit 0x520001 4 &&
    decide (s.obj 0x520015 = 0)

/-- Every channel that the map uses is ACTIVE (R491, R516). -/
def State.channelsUp (s : State) : Bool := (chanList s.stack.mapped).all fun c => s.obj (0x500020 + c * 0x100) = 1

/-- Every stack access in the populated stack is made (R489, R491, R516, R519). -/
def State.stackUp (s : State) : Bool := s.stackOpen && s.channelsUp

/-- The 64-byte accesses that `n` bytes at `a` are split into, in ascending order (R466). -/
def accesses (a n : Nat) : List Nat :=
  if n = 0 then [] else (List.range ((a % 64 + n + 63) / 64)).map fun i => (a / 64 + i) * 64

/-- The accesses to `n` bytes at `a` are made: in the populated stack, each to an ACTIVE channel (R37, R489, R491, R516). -/
def State.stackOk (s : State) (a n : Nat) : Bool :=
  s.stackOpen && decide (0x1000000000 ≤ a ∧ a + n ≤ 0x1000000000 + s.populated) &&
    (s.channelsUp || (accesses a n).all fun x => s.chanState (s.place x).1 = 1)

/-- A read of `n` bytes at `a` is made, and meets no poisoned word (R503, R513). -/
def State.readOk (s : State) (a n : Nat) : Bool :=
  s.stackOk a n && !(s.stack.poison.any fun w => decide (w < a + n) && decide (a < w + 4))

/-- A write of `n` bytes at `a` is made, and replaces no poisoned word in part (R467, R503, R513). -/
def State.writeOk (s : State) (a n : Nat) : Bool :=
  s.stackOk a n && s.stack.poison.all fun w => decide (a + n ≤ w) || decide (w + 4 ≤ a) || (decide (a ≤ w) && decide (w + 4 ≤ a + n))

/-- Accesses made while the stack is in self-refresh count in the channels that they decode to (R489). -/
def State.refuseAccesses (s : State) (a n : Nat) : State :=
  if s.stack.sr = .off then s
  else ((accesses a n).filter s.inStack).foldl (fun s x => s.bump (ck8 0x500044 (s.place x).1)) s

/-- A hardware block's write: it changes nothing where it ends with an error response (R489, R491, R503). -/
def State.stackPut (s : State) (a : Nat) (d : Bytes) : State :=
  if s.writeOk a d.length then s.setBytes a d else s.refuseAccesses a d.length

end Sys2Proof.Machine
end

