-- ==== Sys2Proof/Machine/HeadRecord.lean ====
section
/-! DEFINITION. The head description record, a port's geometry and timing, and where the spec places a port's data in the stack (R138 to R150, R181, R252, R274, R335, R393). -/

namespace Sys2Proof.Machine

/-- Key of instance `n` of a port object. -/
def pk (k : Key) (n : Fin 16) : Key := k + n.val * 0x100

/-- A port's hidden state is replaced. -/
def State.setPort (s : State) (n : Fin 16) (p : Port) : State := { s with port := s.port.set n p }

/-- A port's hidden state is changed. -/
def State.modPort (s : State) (n : Fin 16) (f : Port → Port) : State := s.setPort n (f (s.port.get n))

/-- The head description record in force of a port, empty where none is (R139). -/
def State.record (s : State) (n : Fin 16) : Bytes := s.domain (pk 0x300020 n)

/-- A port holds a valid record. -/
def State.hasRecord (s : State) (n : Fin 16) : Bool := !(s.record n).isEmpty

/-- One byte of a record. -/
def rb (r : Bytes) (ofs : Nat) : Nat := leAt r ofs 1

/-- A 16-bit field of a record. -/
def rw16 (r : Bytes) (ofs : Nat) : Nat := leAt r ofs 2

/-- C: columns. -/
def recCols (r : Bytes) : Nat := rb r 0x0C

/-- Gc: groups of one column. -/
def recGroups (r : Bytes) : Nat := rb r 0x0D

/-- Nc: nozzles of one column. -/
def recNoz (r : Bytes) : Nat := rw16 r 0x0E

/-- Group within its column of nozzle `j` (R140). -/
def groupOf (r : Bytes) (j : Nat) : Nat :=
  if rb r 0x10 = 0 then j % max 1 (recGroups r) else j * recGroups r / max 1 (recNoz r)

/-- Nozzles of one column in group `i` under interleaved groups. -/
def groupSize (r : Bytes) (i : Nat) : Nat :=
  (recNoz r + recGroups r - 1 - i) / max 1 (recGroups r)

/-- The place of nozzle `j` among its column's chain bits (R141, R157). -/
def rankOf (r : Bytes) (j : Nat) : Nat :=
  if rb r 0x11 = 1 ∧ rb r 0x10 = 0 then
    ((List.range (j % max 1 (recGroups r))).map (groupSize r)).sum + j / max 1 (recGroups r)
  else j

/-- Chain position of the column bit of rank `q` of column `k` (R141). -/
def chainPos (r : Bytes) (k q : Nat) : Nat :=
  if rb r 0x11 = 2 then q * recCols r + k else k * recNoz r + q

/-- The chain bits of a load whose column bits are given (R141, R149). -/
def chainBits (r : Bytes) (data : List (Nat × Nat)) : Nat :=
  data.foldl (fun acc kb =>
    (List.range (recNoz r)).foldl (fun acc q =>
      if kb.2.testBit q then acc ||| 1 <<< chainPos r kb.1 q else acc) acc) 0

/-- Set bits of group `i` of a column whose column bits are given (R161). -/
def groupCount (r : Bytes) (bits i : Nat) : Nat :=
  ((List.range (recNoz r)).filter fun j => groupOf r j = i && bits.testBit (rankOf r j)).length

/-- Nozzles of group `i` of a column. -/
def groupNozzles (r : Bytes) (i : Nat) : Nat :=
  ((List.range (recNoz r)).filter fun j => groupOf r j = i).length

/-- Load time in ns of a four-lane load (R150). -/
def State.loadTime (s : State) (n : Fin 16) : Nat :=
  let r := s.record n
  let bits := 16 + (recCols r * recNoz r + 3) / 4 + rb r 0x13
  let den := 2 * (1000 - s.obj (pk 0x300008 n))
  let ps := bits * s.obj (pk 0x300002 n) * 1000
  2 * ((ps + 2 * den - 1) / (2 * den))

/-- Minimum fire period in ns for a strobe width and gap (R108). -/
def pMin (r : Bytes) (w g : Nat) : Nat := max (recCols r * recGroups r * (w + g) + 120) 13890

/-- Planes that a port prints, one bit each (R252). -/
def State.planeMask (s : State) (n : Fin 16) : Nat :=
  let r := s.record n
  (List.range (recCols r)).foldl (fun acc k => acc ||| 1 <<< rb r (0x34 + k)) 0

/-- P_n: the number of planes (R252). -/
def State.planes (s : State) (n : Fin 16) : Nat := popCount 8 (s.planeMask n)

/-- The planes in slot order (R252). -/
def State.planeList (s : State) (n : Fin 16) : List Nat :=
  (List.range 8).filter fun p => (s.planeMask n).testBit p

/-- f_n: first head position of the span (R253). -/
def State.spanFirst (s : State) (n : Fin 16) : Nat := s.obj (0x240020 + n.val) % 65536

/-- w_n: width of the span (R253). -/
def State.spanWidth (s : State) (n : Fin 16) : Nat := s.obj (0x240020 + n.val) / 65536

/-- The port is rendered (R252). -/
def State.rendered (s : State) (n : Fin 16) : Bool := s.portEnabled n.val && s.spanWidth n ≠ 0

/-- The rendered ports in ascending order. -/
def State.renderedPorts (s : State) : List (Fin 16) := (List.finRange 16).filter s.rendered

/-- Column `k` is enabled (0x3200+n:19). -/
def State.colEnabled (s : State) (n : Fin 16) (k : Nat) : Bool := s.bit (pk 0x320019 n) k

/-- The enabled columns of a port. -/
def State.columns (s : State) (n : Fin 16) : List Nat := (List.range 8).filter (s.colEnabled n)

/-- Column offset in lines. -/
def State.offset (s : State) (n : Fin 16) (k : Nat) : Nat := s.obj (pk 0x320001 n + k)

/-- Base of the tables and checkpoints region (R30, R274). -/
def State.tables (s : State) : Nat := s.obj 0x200018

/-- Address of a port's shadow gain table (R274). -/
def State.gainShadow (s : State) (n : Fin 16) : Nat := s.tables + 0x03480000 + n.val * 0x4000

/-- Address of a port's gain table in force (R274). -/
def State.gainForce (s : State) (n : Fin 16) : Nat := s.tables + 0x034C0000 + n.val * 0x4000

/-- Address of a port's shadow map (R335). -/
def State.mapShadow (s : State) (n : Fin 16) : Nat := s.tables + 0x05500000 + n.val * 0x10000

/-- Address of a port's map in force (R335). -/
def State.mapForce (s : State) (n : Fin 16) : Nat := s.tables + 0x05600000 + n.val * 0x10000

/-- Address of the firing counter of nozzle `u` (R335). -/
def State.firingAddr (s : State) (n : Fin 16) (u : Nat) : Nat :=
  s.tables + 0x05700000 + n.val * 0x20000 + 8 * u

/-- Length of a port's gain table (0x2400:40+n). -/
def State.gainLen (s : State) (n : Fin 16) : Nat := 2 * s.planes n * s.spanWidth n

/-- Length of a port's Jigsaw map (R300). -/
def State.mapLen (s : State) (n : Fin 16) : Nat := 0x1040 + 4 * s.planes n * s.spanWidth n

/-- A Jigsaw map is stored at an address: its MAGIC stands there; an empty map is all zeros (R300). -/
def State.mapPresent (s : State) (a : Nat) : Bool := s.num a 4 = 0x504D4A42

/-- The bytes of the map stored at an address, empty where none is. -/
def State.mapBytes (s : State) (n : Fin 16) (a : Nat) : Bytes :=
  if s.mapPresent a then s.bytes a (s.mapLen n) else []

/-- Depth D_n of a port's history ring, as computed at ARM (R393). -/
def State.histDepth (s : State) (n : Fin 16) : Nat := s.obj (0x420080 + n.val)

/-- Base of a port's history ring: behind the rings and archives that ARM laid out for lower ports (R393). -/
def State.histBase (s : State) (n : Fin 16) : Nat :=
  ((List.finRange 16).filter fun i => i.val < n.val && s.histDepth i ≠ 0).foldl
    (fun a i => a + s.histDepth i * 1088 + 0x100000) (s.obj 0x200014)

/-- Address of the history entry of a job line (R393). -/
def State.histEntry (s : State) (n : Fin 16) (line : Nat) : Nat :=
  s.histBase n + line % max 1 (s.histDepth n) * 1088

/-- Base of a port's map archive (R394). -/
def State.archiveBase (s : State) (n : Fin 16) : Nat := s.histBase n + s.histDepth n * 1088

end Sys2Proof.Machine
end

