-- ==== Sys2Proof/Machine/WebPosition.lean ====
section
/-! DEFINITION. The web positions that the position unit supplies: measured, extrapolated and guarded (R55 to R57, R65, R68). -/

namespace Sys2Proof.Machine

/-- The web encoder is enabled, counting, and its clock domain runs (R45, R51). -/
def State.counting (s : State) : Bool := s.timing && s.obj 0x220001 = 1 && !s.bit 0x220015 6

/-- EXTRAP_VALID (R64). -/
def State.extrapValid (s : State) : Bool := s.bit 0x220015 2

/-- ORIGIN_VALID (R59). -/
def State.originValid (s : State) : Bool := s.bit 0x220015 5

/-- Ratio in Q32.32 lines per count (R55). -/
def State.ratio (s : State) : Nat := s.obj 0x220004

/-- Distance that the extrapolation adds at clock `t`, in Q32.32 lines (R65). -/
def State.extrapDelta (s : State) (t : Nat) : Int :=
  let p := s.position
  let run := Int.fdiv (p.vel * (t - p.te : Nat) * 2) 1000000000
  min run (s.obj 0x220008 * s.ratio : Nat)

/-- Raw extrapolated position at clock `t`, Q32.32 lines (R45, R65). -/
def State.rawExtrap (s : State) (t : Nat) : Nat :=
  match s.position.heldAt with
  | some p => p
  | none =>
    if s.extrapValid then toBits 64 ((s.position.acc : Int) + s.extrapDelta t) else s.position.acc

/-- Web position of a raw position, Q32.16 lines (R56, R57). -/
def State.webOf (s : State) (raw32 : Nat) : Nat :=
  (raw32 / 2 ^ 16 + 2 ^ 48 - s.obj 0x220018 % 2 ^ 48) % 2 ^ 48

/-- Extrapolated web position at clock `t` (R65). -/
def State.extrapolated (s : State) (t : Nat) : Nat := s.webOf (s.rawExtrap t)

/-- Raw extrapolated position at a clock before the extrapolation in force took effect (R65, R71). -/
def State.pastExtrap (s : State) (t : Nat) : Nat :=
  let k := s.position.past
  let run := Int.fdiv (k.vel * (t - k.te : Nat) * 2) 1000000000
  if k.valid then toBits 64 ((k.acc : Int) + min run (s.obj 0x220008 * s.ratio : Nat)) else k.acc

/-- Raw extrapolated position that the timing clock `t` had, after an edge accepted in that clock (R65, R71, R72). -/
def State.rawExtrapAt (s : State) (t : Nat) : Nat := if t < s.position.past.upTo then s.pastExtrap t else s.rawExtrap t

/-- Extrapolated web position that the timing clock `t` had (R71). -/
def State.extrapolatedAt (s : State) (t : Nat) : Nat := s.webOf (s.rawExtrapAt t)

/-- The extrapolation in force becomes the one before clock `t` (R71). -/
def State.keepTrack (s : State) (t : Nat) : State :=
  let p := s.position
  s.modPosition fun pos => { pos with
    past := { upTo := t, acc := p.heldAt.getD p.acc, te := p.te, vel := p.vel, valid := s.extrapValid && p.heldAt.isNone } }

/-- Measured web position (R55). -/
def State.measured (s : State) : Nat := s.webOf s.position.acc

/-- Guarded web position at clock `t`: it never goes back (R68). -/
def State.guarded (s : State) (t : Nat) : Nat :=
  if atOrBeyond (s.extrapolated t) (s.obj 0x220013) then s.extrapolated t else s.obj 0x220013

/-- Signed difference of two positions modulo 2^32 lines, Q32.16 (R63). -/
def posDiff (p q : Nat) : Int := sx 48 (p + 2 ^ 48 - q % 2 ^ 48)

end Sys2Proof.Machine
end

