-- ==== Sys2Proof/Machine/WalkPlan.lean ====
section
/-! DEFINITION. The walk plan of the bar (R452). -/

namespace Sys2Proof.Machine

/-- Key of instance `a` of an axis object. -/
def ak (k : Key) (a : Nat) : Key := k + a * 0x100

/-- The walk plan w(y) of axis `a` in pixels, at a web position in Q32.16 lines (R452). -/
def State.walkPixels (s : State) (a y : Nat) : Rat :=
  let y0 := s.obj (ak 0x48002C a)
  if !atOrBeyond y y0 then 0
  else
    let r : Rat := s.obj (ak 0x480029 a)
    let amp : Rat := s.obj (ak 0x48002A a)
    let b : Rat := (s.obj (ak 0x48002B a) : Rat) / (2 * r)
    let u := uq 16 ((y + 2 ^ 48 - y0 % 2 ^ 48) % 2 ^ 48) / r
    let ph := u - 4 * amp * ((u / (4 * amp)).floor : Rat)
    let near := fun (c : Rat) => decide ((ph - c < b) ∧ (c - ph < b))
    let round := fun (c : Rat) => amp - b / 2 - (ph - c) * (ph - c) / (2 * b)
    if near amp then round amp
    else if near (3 * amp) then - round (3 * amp)
    else if ph ≤ amp then ph
    else if ph ≤ 3 * amp then 2 * amp - ph
    else ph - 4 * amp

/-- The walk plan w(y) of axis `a`, signed Q16.16 pixels, rounded to nearest (R452). -/
def State.walkFixed (s : State) (a y : Nat) : Int := roundQ 16 (s.walkPixels a y)

/-- The axis in WALK, if any (R453, R454). -/
def State.walkAxis (s : State) : Option Nat := (List.range 4).find? fun a => s.obj (ak 0x480030 a) = 5

/-- w(y) of the axis in WALK; 0 without one. -/
def State.walkPlan (s : State) (y : Nat) : Int :=
  match s.walkAxis with
  | some a => s.walkFixed a y
  | none => 0

end Sys2Proof.Machine
end

