-- ==== Sys2Proof/Machine/AxisOps.lean ====
section
/-! DEFINITION. Where an axis stands and moves, its stops and its faults (R433, R436, R440, R447, R451, R453, R456, R458). -/

namespace Sys2Proof.Machine

/-- An axis's hidden state is changed. -/
def State.modAxis (s : State) (a : Fin 4) (f : Axis → Axis) : State :=
  { s with axis := s.axis.set a (f (s.axis.get a)) }

/-- Axis state code (R459). -/
def State.axisState (s : State) (a : Fin 4) : Nat := s.obj (ak 0x480030 a)

/-- The axis enters a state. -/
def State.setAxis (s : State) (a : Fin 4) (st : Nat) : State := s.setObj (ak 0x480030 a) st

/-- Web velocity in lines per second, 0 while the extrapolation is not valid (R63, R70). -/
def State.webVelocity (s : State) : Rat :=
  if s.extrapValid && s.position.heldAt.isNone then (s.position.vel : Rat) / (2 ^ 32 : Nat) else 0

/-- Master distance from a gear's renewed anchor, in units of 2^-32 lines (R447). -/
def State.sinceAnchor (s : State) (x : Axis) : Int := sx 64 (s.rawExtrap s.clk + 2 ^ 64 - x.anchor % 2 ^ 64)

/-- Master distance from where the gear's ratio segment began, in lines (R447). -/
def State.masterRun (s : State) (x : Axis) : Rat := ((x.along + s.sinceAnchor x : Int) : Rat) / (2 ^ 32 : Nat)

/-- The gear ratio at a master distance from the anchor (R448). -/
def Axis.ratioAt (x : Axis) (d : Rat) : Rat :=
  if x.ramp = 0 then x.r1
  else if d ≤ 0 then x.r0
  else if d < x.ramp then x.r0 + (x.r1 - x.r0) * d / x.ramp
  else x.r1

/-- The integral of the gear ratio over a master distance from the anchor (R447). -/
def Axis.gearRun (x : Axis) (d : Rat) : Rat :=
  if x.ramp = 0 then x.r1 * d
  else if d ≤ 0 then x.r0 * d
  else if d < x.ramp then x.r0 * d + (x.r1 - x.r0) * d * d / (2 * (x.ramp : Rat))
  else (x.r0 + x.r1) / 2 * x.ramp + x.r1 * (d - x.ramp)

/-- Steps per pixel (R453). -/
def State.stepsPerPixel (s : State) (a : Fin 4) : Rat := sq 64 32 (s.obj (ak 0x48002D a))

/-- Slope of the walk plan at the present web position, in pixels per line, from a step of one 65,536th of a line. -/
def State.walkSlope (s : State) (a : Fin 4) : Rat :=
  let y := s.extrapolated s.clk
  (s.walkPixels a ((y + 1) % 2 ^ 48) - s.walkPixels a y) * 65536

/-- Seconds since the motion of an axis began; without a timing clock it stands still (R441, R611). -/
def State.motionTime (s : State) (x : Axis) : Rat :=
  if s.timing then ((s.clk - x.start : Nat) : Rat) / 500000000 else 0

/-- Soft limits are enabled (R433, R459). -/
def State.limited (s : State) (a : Fin 4) : Bool := s.obj (ak 0x48000D a) = 1

/-- A position modulo 2^48 microsteps, in the range -2^47 to below 2^47 (R433). -/
def wrap48 (p : Rat) : Rat := p - (2 ^ 48 : Nat) * (((p + (2 ^ 47 : Nat)) / (2 ^ 48 : Nat)).floor : Rat)

/-- Lower soft limit of an axis (R459). -/
def State.limitMin (s : State) (a : Fin 4) : Int := sx 64 (s.obj (ak 0x48000B a))

/-- Upper soft limit of an axis (R459). -/
def State.limitMax (s : State) (a : Fin 4) : Int := sx 64 (s.obj (ak 0x48000C a))

/-- A position on the scale of an axis: it never leaves enabled soft limits, and wraps where none are enabled (R433). -/
def State.onScale (s : State) (a : Fin 4) (p : Rat) : Rat :=
  if s.limited a then clampQ (s.limitMin a) (s.limitMax a) p else wrap48 p

/-- Commanded position on no scale, velocity and acceleration of an axis now (R441, R447, R453). -/
def State.freeKin (s : State) (a : Fin 4) : Kin :=
  let x := s.axis.get a
  let st := s.axisState a
  if st = 4 then
    let d := s.masterRun x
    (x.p + x.gearRun d, x.ratioAt d * s.webVelocity, 0)
  else if st = 5 then
    ((sx 64 (s.obj (ak 0x48002E a)) : Rat) + s.walkFixed a (s.extrapolated s.clk) / 65536 * s.stepsPerPixel a,
      s.walkSlope a * s.webVelocity * s.stepsPerPixel a, 0)
  else kinAt x.segs x.p x.v (s.motionTime x)

/-- Commanded position, velocity and acceleration of an axis now (R433, R441, R447, R453). -/
def State.axisKin (s : State) (a : Fin 4) : Kin := (s.onScale a (s.freeKin a).1, (s.freeKin a).2)

/-- The distance that the motion of an axis has run from a place; a soft limit that holds the position does not hold it (R433, R443, R445, log entry 89). -/
def State.travelled (s : State) (a : Fin 4) (origin : Rat) : Rat := absQ (wrap48 ((s.freeKin a).1 - origin))

/-- The commanded position in signed 48-bit microsteps (R433). -/
def State.axisPos (s : State) (a : Fin 4) : Int := sx 48 (toBits 48 (s.axisKin a).1.floor)

/-- AXa_EN_L is driven low: an axis on and not in FAULT, no output inhibit, SAFE_L high and the reference clock present (R432, R436, R437). -/
def State.driverOn (s : State) (a : Fin 4) : Bool :=
  s.axisState a ≠ 0 && s.axisState a ≠ 6 && s.obj (ak 0x480002 a) = 0 && !s.clocks.safeLow && s.timing

/-- An axis's step generator is changed. -/
def State.modGen (s : State) (a : Fin 4) (f : StepGen → StepGen) : State := s.modAxis a fun x => { x with gen := f x.gen }

/-- Steps that the output count is behind the commanded position, modulo 2^48 (R433). -/
def State.stepLag (s : State) (a : Fin 4) : Int := sx 48 (toBits 48 ((s.axisKin a).1.floor - (s.axis.get a).gen.count))

/-- The generator issues no step: the axis is OFF, or in FAULT from a stall (R436, R444, R446). -/
def State.stepsHalted (s : State) (a : Fin 4) : Bool :=
  s.axisState a = 0 || (s.axisState a = 6 && s.obj (ak 0x480036 a) = 1)

/-- The profile of an axis has run out. -/
def State.profileDone (s : State) (a : Fin 4) : Bool :=
  let x := s.axis.get a
  s.timing && decide (lasting x.segs ≤ s.motionTime x)

/-- An axis whose generator has nothing to do until a command reaches it: halted, or at rest with no step due. -/
def State.stepsQuiet (s : State) (a : Fin 4) : Bool :=
  s.stepsHalted a ||
    ((s.axisState a = 1 || s.axisState a = 6) && s.profileDone a && s.stepLag a = 0 && !(s.axis.get a).gen.held)

/-- A time given in nanoseconds has passed since a clock, none: at no time (R434). -/
def State.passed (s : State) (since : Option Nat) (ns : Nat) : Bool :=
  match since with
  | some c => decide (2 * c + ns ≤ 2 * s.clk)
  | none => true

/-- The direction changes where the step that is due runs the other way and STEP is low (R434). -/
def State.turnDir (s : State) (a : Fin 4) (neg : Bool) : State :=
  let g := (s.axis.get a).gen
  if g.dir ≠ neg && s.passed g.rise (s.obj (ak 0x480003 a)) then
    s.modGen a fun g => { g with dir := neg, turn := some s.clk }
  else s

/-- The times of R434 allow a rising edge of STEP in a direction: that direction set up, and the pulse before it and its low time over. -/
def State.mayRise (s : State) (a : Fin 4) (neg : Bool) : Bool :=
  let g := (s.axis.get a).gen
  g.dir = neg && s.passed g.rise (2 * s.obj (ak 0x480003 a)) && s.passed g.cut (s.obj (ak 0x480003 a)) &&
    s.passed g.turn (s.obj (ak 0x480004 a))

/-- The step that is due is issued: the output count moves one microstep (R433, R434). -/
def State.issueStep (s : State) (a : Fin 4) (neg : Bool) : State :=
  s.modGen a fun g => { g with
    count := sx 48 (toBits 48 (g.count + if neg then -1 else 1)), rise := some s.clk, held := false, cut := none }

/-- The step that is due is held, and counted once (R434). -/
def State.holdStep (s : State) (a : Fin 4) : State :=
  if (s.axis.get a).gen.held then s
  else ((s.modGen a fun g => { g with held := true }).bump (ak 0x480045 a)).event (ak 0x480035 a) 8

/-- The step generator of an axis in one timing clock (R433, R434). -/
def State.stepClock (s : State) (a : Fin 4) : State :=
  let lag := s.stepLag a
  if s.stepsHalted a || lag = 0 then
    (if (s.axis.get a).gen.held then s.modGen a fun g => { g with held := false } else s)
  else
    let neg := decide (lag < 0)
    let s := s.turnDir a neg
    if s.mayRise a neg then s.issueStep a neg else s.holdStep a

/-- An axis but for its step generator, which time alone may change. -/
def Axis.still (x : Axis) : Axis := { x with gen := { count := 0, dir := false, rise := none, turn := none, held := false, cut := none } }

/-- A step pulse in progress is stopped (R432). -/
def State.cutStep (s : State) (a : Fin 4) : State :=
  let g := (s.axis.get a).gen
  if s.passed g.rise (s.obj (ak 0x480003 a)) || g.cut.isSome then s
  else s.modGen a fun g => { g with cut := some s.clk }

/-- Every step generator runs in the present timing clock. -/
def State.stepAll (s : State) : State := (List.finRange 4).foldl State.stepClock s

/-- The anchor of a gear is renewed before the master could pass half of its range beyond it; the distance covered is kept exactly (R447). -/
def State.renewAnchor (s : State) (a : Fin 4) : State :=
  let x := s.axis.get a
  if s.axisState a = 4 && 2 ^ 62 ≤ (s.sinceAnchor x).natAbs then
    s.modAxis a fun x => { x with along := x.along + s.sinceAnchor x, anchor := s.rawExtrap s.clk }
  else s

/-- The step generators run for timing clocks, one after another. -/
def State.runSteps : Nat → State → State
  | 0, s => s
  | n + 1, s => State.runSteps n (s.at (s.clk + 1)).stepAll

/-- The step generators run up to clock `t`. -/
def State.passSteps (s : State) (t : Nat) : State :=
  if (List.finRange 4).all s.stepsQuiet then s else State.runSteps (t - s.clk) s

/-- Puts an axis at rest at a position. -/
def State.restAxis (s : State) (a : Fin 4) (p : Rat) : State :=
  s.modAxis a fun x => { x with start := s.clk, segs := [], p, v := 0, goal := .none }

/-- The commanded position and the output count are both set, within enabled soft limits, with no step issued (R433, R438, R444; DESIGN CHOICE, log entry 89). -/
def State.placeAxis (s : State) (a : Fin 4) (p : Int) : State :=
  let p := (s.onScale a (p : Rat)).floor
  (s.restAxis a (p : Rat)).modGen a fun g => { g with count := p }

/-- With the timing clock gone an axis stands where it is (R441, R611). -/
def State.haltMotion (s : State) (a : Fin 4) : State :=
  if s.axisState a = 4 ∨ s.axisState a = 5 then s else s.restAxis a (s.axisKin a).1

/-- Starts motion along pieces from the axis's present position and velocity (R439). -/
def State.runAxis (s : State) (a : Fin 4) (pieces : List Piece) (goal : AxisGoal) : State :=
  let k := s.axisKin a
  let l := layPieces k.1 k.2.1 pieces
  s.modAxis a fun x => { x with start := s.clk, segs := l.1, p := l.2.1, v := l.2.2, goal }

/-- Limits of an axis's profiles (R440). -/
def State.axisLimits (s : State) (a : Fin 4) : Limits :=
  { acc := s.obj (ak 0x480007 a), dec := s.obj (ak 0x480008 a), jerk := s.obj (ak 0x480009 a) }

/-- Limits of a quick stop (R440). -/
def State.quickLimits (s : State) (a : Fin 4) : Limits :=
  { acc := s.obj (ak 0x48000A a), dec := s.obj (ak 0x48000A a), jerk := 0 }

/-- The walk enable of an axis that leaves WALK reads 0. -/
def State.leaveWalk (s : State) (a : Fin 4) : State := s.setObj (ak 0x480028 a) 0

/-- An axis decelerates to rest under given limits; the search of a homing axis is aborted (R438, R439). -/
def State.stopAxis (s : State) (a : Fin 4) (m : Limits) : State :=
  let k := s.axisKin a
  let st := s.axisState a
  let s' := s.runAxis a (m.toVelocity k.2.1 k.2.2 0) .stop
  let s' := s'.eventIf (st = 3) (ak 0x480035 a) 2
  if st = 1 then s else ((s'.leaveWalk a).setAxis a 2).setBit (ak 0x480034 a) 3 false

/-- An axis enters FAULT with a reason, its motion as it is left (R436, R458). -/
def State.enterAxisFault (s : State) (a : Fin 4) (reason source : Nat) : State :=
  let s := ((s.leaveWalk a).setAxis a 6).setObj (ak 0x480036 a) reason
  (s.event (ak 0x480035 a) 4).raise source a.val reason

/-- An axis enters FAULT with a reason, at rest at a position (R446, R451). -/
def State.faultAxis (s : State) (a : Fin 4) (reason source : Nat) (p : Rat) : State :=
  (s.restAxis a p).enterAxisFault a reason source

/-- Counter of an axis fault that follows a stop: home failure, master lost, overspeed (R445, R451, R459). -/
def faultCounter (reason : Nat) : Key := if reason = 2 then 0x480041 else if reason = 3 then 0x480043 else 0x480044

/-- The stop that leads to FAULT has come to rest: the axis enters FAULT with its reason, which is counted (R436, R445, R451). -/
def State.faultAtRest (s : State) (a : Fin 4) : State :=
  match (s.axis.get a).goal with
  | .fault reason source =>
    if s.axisState a = 2 && s.profileDone a then
      (s.faultAxis a reason source (s.axisKin a).1).bump (ak (faultCounter reason) a)
    else s
  | _ => s

/-- An axis stops under given limits, in MOVING, and then enters FAULT with a reason, at once where it is at rest (R436, R445, R451). -/
def State.stopToFault (s : State) (a : Fin 4) (m : Limits) (reason source : Nat) : State :=
  let k := s.axisKin a
  let s := s.runAxis a (m.toVelocity k.2.1 k.2.2 0) (.fault reason source)
  (((s.leaveWalk a).setAxis a 2).setBit (ak 0x480034 a) 3 false).faultAtRest a

/-- A stop that leads to FAULT is in progress (R445, R451). -/
def State.stopsToFault (s : State) (a : Fin 4) : Bool :=
  match (s.axis.get a).goal with
  | .fault .. => s.axisState a = 2
  | _ => false

/-- A geared or walk axis that loses its master (R451). -/
def State.loseMaster (s : State) (a : Fin 4) : State :=
  if s.axisState a = 4 ∨ s.axisState a = 5 then s.stopToFault a (s.quickLimits a) 3 159 else s

/-- Every geared or walk axis loses its master (R451). -/
def State.mastersLost (s : State) : State := (List.finRange 4).foldl State.loseMaster s

/-- At the entry into FAULT every axis in GEARED or WALK makes a quick stop (R456). -/
def State.axesFault (s : State) : State :=
  (List.finRange 4).foldl (fun s a =>
    if s.axisState a = 4 ∨ s.axisState a = 5 then s.stopAxis a (s.quickLimits a) else s) s

end Sys2Proof.Machine
end

