-- ==== Sys2Proof/Machine/AnalyserStore.lean ====
section
/-! DEFINITION. The analyser's results, and what commits and the end of a job do to its mutes, batches and results (R405, R413, R419 to R421, R424). -/

namespace Sys2Proof.Machine

/-- Address of the ring entry of result `e` (R420, R427). -/
def State.resultAddr (s : State) (e : Nat) : Nat := s.tables + 0x06B40000 + e % 256 * 0x40

/-- Result number `e` is in the ring. -/
def State.inRing (s : State) (e : Nat) : Bool := decide (e < s.analyser.made) && decide (s.analyser.made ≤ e + 256)

/-- Brings a result's CRC up to date (R420). -/
def State.sealResult (s : State) (e : Nat) : State :=
  let a := s.resultAddr e
  s.setNum (a + 0x3C) 4 (crc32c (s.bytes a 0x3C))

/-- Sets or clears a flag of a result in the ring (R421). -/
def State.resultFlag (s : State) (e i : Nat) (b : Bool) : State :=
  if s.inRing e then
    let a := s.resultAddr e + 7
    (s.setNum a 1 (putBit (s.num a 1) i b)).sealResult e
  else s

/-- Writes the commit sequence and boundary into a result; the boundary is that of the result's port (R419). -/
def State.resultCommit (s : State) (e : Nat) : State :=
  if s.inRing e then
    let a := s.resultAddr e
    let n := s.num (a + 0xC) 1
    let b := if n < 16 then s.obj (0x32001D + n * 0x100) else 0xFFFFFFFF
    ((s.setNum (a + 0x24) 4 (s.obj 0x230014)).setNum (a + 0x28) 4 b).sealResult e
  else s

/-- A commit has been armed: the results applied since take its sequence and boundary (R419). -/
def State.noteArmed (s : State) : State :=
  (s.analyser.awaiting.foldl State.resultCommit s).modAnalyser fun a => { a with awaiting := [] }

/-- A mute whose result's commit completes takes its boundary as mute line (R405). -/
def State.muteLine (s : State) (m : Mute) : Mute :=
  let a := s.resultAddr m.seq
  if m.line.isNone && m.plane ≠ 8 && s.inRing m.seq && s.num (a + 0x24) 4 = s.obj 0x230014 &&
      (s.num (a + 7) 1).testBit 4 then
    { m with line := some (s.num (a + 0x28) 4) }
  else m

/-- A commit has completed (R405). -/
def State.noteCommitted (s : State) : State :=
  s.modAnalyser fun a => { a with mutes := a.mutes.map s.muteLine }

/-- The analyser at the entry into STANDBY: requests, batches, scores and mutes are discarded, and a held camera distance is written (R413, R424). -/
def State.analyserJobEnd (s : State) : State :=
  let s := s.analyser.dist.foldl (fun s d => s.setObj (0x420021 + 0x10 * (d.1 % 2)) d.2) s
  s.modAnalyser fun a => { a with
    bands := [], plus := [], minus := [], unknown := [], mutes := [], repeats := [], requests := [],
    lastBand := none, batches := [], interim := [], marked := [], knots := [], dist := [] }

/-- The analyser at the entry into FAULT: a batch not yet armed is discarded (R424). -/
def State.analyserFault (s : State) : State := s.modAnalyser fun a => { a with batches := [] }

end Sys2Proof.Machine
end

