-- ==== Sys2Proof/Machine/NozzleMap.lean ====
section
/-! DEFINITION. Jigsaw maps: layout, check, nozzle states, dead pairs and unmaskable runs (R300 to R306, R320 to R325). -/

namespace Sys2Proof.Machine

/-- Render's state of a port is changed. -/
def State.modRenderPort (s : State) (n : Fin 16) (f : RenderPort → RenderPort) : State :=
  s.modRender fun ren => { ren with port := s.render.port.set n (f (s.render.port.get n)) }

/-- Jigsaw's state of a port is changed. -/
def State.modJigsaw (s : State) (n : Fin 16) (f : JigsawPort → JigsawPort) : State :=
  { s with jigsaw := s.jigsaw.set n (f (s.jigsaw.get n)) }

/-- Clears `n` bytes of memory from `a`. -/
def State.clearBytes (s : State) (a n : Nat) : State :=
  ({ s with mem := s.mem.filter fun c => !(decide (a ≤ c.1) && decide (c.1 < a + n)) } : State).unpoison a n

/-- State of nozzle `u` in a map: 0 LIVE, 1 WEAK, 2 DEAD, 3 OFF (R301). -/
def nozState (m : Bytes) (u : Nat) : Nat := field (rb m (0x40 + u / 4)) (2 * (u % 4)) 2

/-- Twin A of position entry `e` (R302). -/
def twinA (m : Bytes) (e : Nat) : Nat := leAt m (0x1040 + 4 * e) 4 % 2 ^ 14

/-- Twin B of position entry `e` (R302). -/
def twinB (m : Bytes) (e : Nat) : Nat := field (leAt m (0x1040 + 4 * e) 4) 16 14

/-- A nozzle that may fire: LIVE or WEAK (R309). -/
def usable (m : Bytes) (u : Nat) : Bool := nozState m u < 2

/-- Entry `e` is a dead pair (R303). -/
def deadPair (m : Bytes) (e : Nat) : Bool := !usable m (twinA m e) && !usable m (twinB m e)

/-- Starts of the unmaskable runs among `w` positions, taken left to right; `run` dead pairs precede the next position (R322). -/
def deadRuns (limit w : Nat) (dead : Nat → Bool) : Nat → Nat → List Nat → List Nat
  | 0, run, out => if run = 0 then out else out ++ [w - run]
  | r + 1, run, out =>
    let q := w - (r + 1)
    if dead q then deadRuns limit w dead r (run + 1) out
    else deadRuns limit w dead r 0 (if limit < run then out ++ [q - run] else out)

/-- The unmaskable runs of a map: plane slot and first head position of each (R322). -/
def State.unmaskable (s : State) (n : Fin 16) (m : Bytes) : List (Nat × Nat) :=
  if m.isEmpty then []
  else
    let w := s.spanWidth n
    (List.range (s.planes n)).flatMap fun p =>
      (deadRuns (s.obj (pk 0x380005 n)) w (fun q => deadPair m (p * w + q)) w 0 []).map fun q =>
        (p, s.spanFirst n + q)

/-- Number of nozzles of a port's record: C times Nc. -/
def State.nozzles (s : State) (n : Fin 16) : Nat := recCols (s.record n) * recNoz (s.record n)

/-- Nozzles of a map in a given state. -/
def State.countState (s : State) (n : Fin 16) (m : Bytes) (v : Nat) : Nat :=
  if m.isEmpty then 0 else ((List.range (s.nozzles n)).filter fun u => nozState m u = v).length

/-- Entries of a map. -/
def State.entries (s : State) (n : Fin 16) : Nat := s.planes n * s.spanWidth n

/-- The shadow map and the map in force, empty where none is held. -/
def State.shadowMap (s : State) (n : Fin 16) : Bytes := s.mapBytes n (s.mapShadow n)

/-- The map in force of a port, empty where none is held. -/
def State.forceMap (s : State) (n : Fin 16) : Bytes := s.mapBytes n (s.mapForce n)

/-- Reports the counts and flags of the map in force (R323, R325, R334). -/
def State.countForce (s : State) (n : Fin 16) : State :=
  let m := s.forceMap n
  let runs := s.unmaskable n m
  let pairs := if m.isEmpty then 0 else ((List.range (s.entries n)).filter (deadPair m)).length
  let s := ((s.setObj (pk 0x380009 n) (s.countState n m 2)).setObj (pk 0x38000A n)
    (s.countState n m 1)).setObj (pk 0x38000B n) (s.countState n m 3)
  let s := (s.setObj (pk 0x38000C n) pairs).setObj (pk 0x38000D n) runs.length
  let s := s.setObj (pk 0x38000F n) (match runs with
    | [] => 0xFFFFFFFF
    | (p, q) :: _ => q + p * 65536)
  let s := (s.setBit (pk 0x380007 n) 0 (!m.isEmpty && runs.isEmpty)).setBit (pk 0x380007 n) 1 (!runs.isEmpty)
  (s.setBit (pk 0x380007 n) 4 (!m.isEmpty)).setBit (pk 0x380007 n) 6
    (leAt m 0x10 2 ≠ 0 || leAt m 0x12 2 ≠ 0)

/-- Reports the count and flags of the shadow map (R323, R334). -/
def State.countShadow (s : State) (n : Fin 16) : State :=
  let m := s.shadowMap n
  let runs := s.unmaskable n m
  ((s.setObj (pk 0x38000E n) runs.length).setBit (pk 0x380007 n) 2 (!runs.isEmpty)).setBit
    (pk 0x380007 n) 3 (!m.isEmpty)

/-- Both maps of a port are emptied (R306). -/
def State.emptyMaps (s : State) (n : Fin 16) : State :=
  (((s.clearBytes (s.mapShadow n) 0x10000).clearBytes (s.mapForce n) 0x10000).countForce n).countShadow n

/-- Both gain tables of a port are set to 1.000 (R297). -/
def State.unityGains (s : State) (n : Fin 16) : State :=
  let g := (List.replicate (s.gainLen n / 2) (leBytes 2 0x400)).flatten
  let s := (s.clearBytes (s.gainShadow n) 0x4000).clearBytes (s.gainForce n) 0x4000
  (s.setBytes (s.gainShadow n) g).setBytes (s.gainForce n) g

/-- The nozzles that the entries of a map name, a single nozzle once. -/
def State.namedNozzles (s : State) (n : Fin 16) (m : Bytes) : List Nat :=
  (List.range (s.entries n)).flatMap fun e =>
    if twinA m e = twinB m e then [twinA m e] else [twinA m e, twinB m e]

/-- Plane of plane slot `p` of a port (R252). -/
def State.planeOf (s : State) (n : Fin 16) (p : Nat) : Nat := (s.planeList n).getD p 0

/-- Column of nozzle `u`. -/
def colOf (r : Bytes) (u : Nat) : Nat := u / max 1 (recNoz r)

/-- An entry keeps the rules of R302 and R304. -/
def State.entryValid (s : State) (n : Fin 16) (m : Bytes) (e : Nat) : Bool :=
  let r := s.record n
  let a := twinA m e
  let b := twinB m e
  let plane := s.planeOf n (e / max 1 (s.spanWidth n))
  leAt m (0x1040 + 4 * e) 4 &&& 0xC000C000 = 0 && a < s.nozzles n && b < s.nozzles n &&
    (a = b || colOf r a ≠ colOf r b) && rb r (0x34 + colOf r a) = plane && rb r (0x34 + colOf r b) = plane

/-- The header of a map keeps the rules of R300 and R304. -/
def State.mapHeaderValid (s : State) (n : Fin 16) (m : Bytes) : Bool :=
  leAt m 0 4 = 0x504D4A42 && leAt m 4 2 = 0x100 && rb m 6 ≤ 1 && rb m 7 = s.planes n &&
    leAt m 8 2 = s.spanFirst n && leAt m 0xA 2 = s.spanWidth n && leAt m 0x10 2 ≤ 256 &&
    leAt m 0x12 2 ≤ 256 && leAt m 0x10 2 + leAt m 0x12 2 ≤ s.spanWidth n &&
    leAt m 0x14 2 = s.nozzles n && (sub m 0x16 42).all (· = 0#8)

/-- A map keeps every rule of R304 but that of its length. -/
def State.mapValid (s : State) (n : Fin 16) (m : Bytes) : Bool :=
  s.mapHeaderValid n m && (List.range (s.entries n)).all (s.entryValid n m) &&
    decide (s.namedNozzles n m).Nodup &&
    leAt m 0x40 4096 / 4 ^ s.nozzles n = 0

/-- The abort that refuses a map write (R304, R564). -/
def State.mapAbort (s : State) (n : Fin 16) (m : Bytes) : Option Nat :=
  firstAbort [(!s.hasRecord n || s.spanWidth n = 0, 0x06090030), (m.length ≠ s.mapLen n, 0x06070010),
    (!s.mapValid n m, 0x06090030)]

end Sys2Proof.Machine
end

