-- ==== Sys2Proof/Machine/Cycles.lean ====
section
/-! DEFINITION. Port cycles: placement, judgement, status words, stopping, and the transfer of a port's part of the shadow set (R94 to R121, R156, R394 to R396, R692). -/

namespace Sys2Proof.Machine

/-- A commit is locked and the transfer of the port's part is pending (R120). -/
def State.transferPending (s : State) (n : Fin 16) : Bool := s.bit (pk 0x32001F n) 3

/-- The commit boundary of a port (R118). -/
def State.boundary (s : State) (n : Fin 16) : Nat := s.obj (pk 0x32001D n)

/-- Job line `j` of a port uses the shadow set (R120). -/
def State.usesShadow (s : State) (n : Fin 16) (j : Nat) : Bool :=
  s.transferPending n && lineAtOrBeyond j (s.boundary n)

/-- Phase trim of column `k` for job line `j` (R120). -/
def State.trim (s : State) (n : Fin 16) (k j : Nat) : Nat :=
  if s.usesShadow n j then s.obj (pk 0x320009 n + k) else s.obj (pk 0x320011 n + k)

/-- The enabled column of smallest offset plus trim (R25). -/
def State.firstColumn (s : State) (n : Fin 16) : Option Nat :=
  (s.columns n).foldl (fun best k =>
    let v := s.offset n k * 256 + s.obj (pk 0x320011 n + k)
    match best with
    | none => some k
    | some b => if v < s.offset n b * 256 + s.obj (pk 0x320011 n + b) then some k else some b) none

/-- Cycle `m` uses the shadow strobe width and gap (R156). -/
def State.cycleUsesShadow (s : State) (n : Fin 16) (m : Nat) : Bool :=
  match s.firstColumn n with
  | some k => s.transferPending n && lineAtOrBeyond m ((s.boundary n + s.offset n k) % 2 ^ 32)
  | none => false

/-- Strobe width in ns of cycle `m` (R156). -/
def State.widthOf (s : State) (n : Fin 16) (m : Nat) : Nat :=
  if s.cycleUsesShadow n m then s.obj (pk 0x300003 n) else s.obj (pk 0x310006 n)

/-- Gap in ns of cycle `m` (R156). -/
def State.gapOf (s : State) (n : Fin 16) (m : Nat) : Nat :=
  if s.cycleUsesShadow n m then s.obj (pk 0x300004 n) else s.obj (pk 0x310007 n)

/-- Job line of column `k` in cycle `m` (R94). -/
def State.lineOf (s : State) (n : Fin 16) (m k : Nat) : Nat := (m + 2 ^ 32 - s.offset n k) % 2 ^ 32

/-- One more than the latest job line that column `k` has fired or blanked in the job; 0 before the first. -/
def State.linesDone (s : State) (n : Fin 16) (k : Nat) : Nat :=
  storeGet (fun _ => 0) (s.port.get n).lines k

/-- Column `k` takes part in cycle `m`: its line lies in the job (R95). -/
def State.takesPart (s : State) (n : Fin 16) (m k : Nat) : Bool :=
  let j := s.lineOf n m k
  let last := s.obj 0x5F1009
  s.colEnabled n k &&
    (if last = 0xFFFFFFFF then j < 2 ^ 31 || s.linesDone n k ≠ 0 else j ≤ last)

/-- Target position of column `k` in cycle `m`, Q32.16 lines (R94). -/
def State.target (s : State) (n : Fin 16) (m k : Nat) : Nat :=
  (m * 65536 + s.trim n k (s.lineOf n m k) * 256) % 2 ^ 48

/-- First timing clock at which the extrapolated web position reaches a target, from the latest edge; none where it stops short of it (R65, R101). -/
def State.placeAt (s : State) (target : Nat) : Option Nat :=
  let p := s.position
  let d := sx 64 (toBits 64 (((target + s.obj 0x220018 : Nat) * 65536 : Nat) - (p.acc : Int)))
  if d ≤ 0 then some (max (s.clk + 1) p.te)
  else if p.vel ≤ 0 ∨ d > (s.obj 0x220008 * s.ratio : Nat) then none
  else some (max (s.clk + 1) (p.te + ((d * 1000000000 + 2 * p.vel - 1) / (2 * p.vel)).toNat))

/-- The events of cycle `m` (R100, R101). -/
def State.cycleEvents (s : State) (n : Fin 16) (m : Nat) : List (Nat × Option Nat) :=
  ((List.range 8).filter (s.takesPart n m)).map fun k =>
    (k, if s.extrapValid then s.placeAt (s.target n m k) else none)

/-- The earliest pending clock of a list of events. -/
def earliest : List (Nat × Option Nat) → Option Nat
  | [] => none
  | (_, none) :: t => earliest t
  | (_, some a) :: t => match earliest t with
    | none => some a
    | some b => some (min a b)

/-- The latch transfer of the cycle has started (R153). -/
def Cycle.latched (c : Cycle) : Bool := c.latchAt.isSome

/-- Clock at which the event of a column is expected, with the delay of a stretched cycle; the earliest possible where none is known (R111). -/
def Cycle.dueOf (c : Cycle) (kt : Nat × Option Nat) : Nat :=
  match kt.2, findKey c.ripe kt.1 with
  | some e, _ => e + c.shift
  | none, some e => e + c.shift
  | none, none => 0

/-- Clock at which a cycle ends once its queue has run: the slots of each column follow its event, in the order of the events (R97, R111). -/
def cycleEnd (r : Bytes) (c : Cycle) (queue from_ : Nat) : Nat :=
  let slot := (c.width + c.gap) / 2
  (sortBy (fun a b => decide (a ≤ b)) (c.events.map c.dueOf)).foldl (fun e t => max e t + recGroups r * slot)
    (from_ + queue * slot)

/-- Earliest first event that the previous fired cycle allows (R109). -/
def State.firstAllowed (s : State) (n : Fin 16) : Nat :=
  let p := s.port.get n
  let floor := match p.cur, p.prevFirst with
    | some c, _ => (c.firstAt.getD 0) + 6945
    | none, some f => f + 6945
    | none, none => 0
  let free := match p.cur, p.prevEnd with
    | some c, _ => cycleEnd (s.record n) c p.queue.length (max s.clk p.slotEnd) + 60
    | none, some e => e + 60
    | none, none => 0
  max floor free

/-- Columns of a cycle in strobe order, then the others ascending (R97, R148). -/
def State.strobeOrder (s : State) (n : Fin 16) (c : Cycle) : List Nat :=
  let part := (List.range 8).filter fun k => c.part.testBit k
  let key := fun k => s.trim n k (s.lineOf n c.m k) * 8 + k
  let ordered := sortBy (fun a b => decide (key a ≤ key b)) part
  ordered ++ (List.range 8).filter fun k => !c.part.testBit k

/-- Clock at which a cycle's load has ended or would end at the earliest (R106, R107). -/
def State.loadEndOf (s : State) (n : Fin 16) (c : Cycle) : Nat :=
  match c.loadAt with
  | some a => a + (s.loadTime n + 1) / 2
  | none => s.clk + (s.loadTime n + 1) / 2

/-- A cycle without its judgement: it is judged again at its new placement, or when its first event falls due (R109). -/
def unjudged (c : Cycle) : Cycle :=
  { c with fast := false, slip := false, delayed := none, shift := 0, ripe := [], blank := if c.blank = 2 then 0 else c.blank }

/-- Judges a cycle in predicted mode at its placement: overspeed, load slip, and the delay that STRETCH gives it (R107, R109 to R111). -/
def State.judge (s : State) (n : Fin 16) (c : Cycle) : Cycle :=
  let c := unjudged c
  match earliest c.events with
  | none => c
  | some t1 =>
    let bound := s.firstAllowed n
    let loadEnd := s.loadEndOf n c
    let fast := decide (t1 < bound)
    let slip := !fast && decide (t1 < loadEnd + 60)
    let keep := { c with fast := fast, slip := slip }
    if !fast && !slip then keep
    else if s.obj 0x230002 = 0 then { keep with blank := if keep.blank = 0 then 2 else keep.blank }
    else
      let d := max bound (loadEnd + 60)
      let first := (c.events.find? fun kt => kt.2 = some t1).map (·.1)
      let target := match first with
        | some k => s.target n c.m k
        | none => 0
      if (c.released && c.loadAt.isNone) || posDiff (s.extrapolated d) target > (s.obj 0x230003 * 65536 : Nat) then
        { keep with blank := if keep.blank = 0 then 2 else keep.blank }
      else { keep with delayed := some d, shift := d - t1 }

/-- Places cycle `m` of a port (R100). -/
def State.newCycle (s : State) (n : Fin 16) (m : Nat) : Cycle :=
  let ev := s.cycleEvents n m
  s.judge n
    { m := m, part := ev.foldl (fun a kt => a ||| 1 <<< kt.1) 0, events := ev, data := [], caps := [],
      late := 0, loadAt := none, loaded := false, released := false, blank := 0, fast := false,
      slip := false, delayed := none, shift := 0, ripe := [], latchAt := none, warm := false, warmWidth := 0,
      width := s.widthOf n m, gap := s.gapOf n m, firstAt := none, fired := [], pulses := [], withdrawn := 0 }

/-- The first cycle at or after `m` in which column `k` takes part (R95). -/
def State.nextOf (s : State) (n : Fin 16) (m k : Nat) : Option Nat :=
  if s.takesPart n m k then some m
  else
    let o := s.offset n k
    if m < o then some o else none

/-- The first cycle at or after `m` in which some column takes part (R95). -/
def State.findCycle (s : State) (n : Fin 16) (m : Nat) : Option Nat :=
  ((s.columns n).filterMap (s.nextOf n m)).min?

/-- First cycle of a job: the smallest enabled offset (R24, R95). -/
def State.firstCycle (s : State) (n : Fin 16) : Option Nat :=
  (s.columns n).foldl (fun a k => match a with
    | none => some (s.offset n k)
    | some b => some (min b (s.offset n k))) none

/-- The port's next cycle is placed within p_min times 1 + margin / 256 of its previous fired cycle (R113). -/
def State.withinMargin (s : State) (n : Fin 16) : Bool :=
  let p := s.port.get n
  let prev := match p.cur with
    | some c => c.firstAt
    | none => p.prevFirst
  match p.next, prev with
  | some c, some f =>
    match earliest c.events with
    | some t =>
      s.obj 0x230007 ≠ 0 &&
        decide (((c.delayed.getD t) - f) * 2 * 256 < s.obj (pk 0x32001A n) * (256 + s.obj 0x230007))
    | none => false
  | _, _ => false

/-- Notes the margin cause of a port after a placement (R113). -/
def State.noteMargin (s : State) (n : Fin 16) : State :=
  s.modSched fun sch => { sch with margin := putBit s.sched.margin n.val (s.withinMargin n) }

/-- Places the port's next cycle from number `m` on, where the engine places cycles and an origin is valid (R59, R100, R116). -/
def State.placeNext (s : State) (n : Fin 16) (m : Nat) : State :=
  if 3 ≤ s.engineState ∧ s.engineState ≤ 5 ∧ s.engine.inJob ∧ s.originValid ∧ s.portEnabled n.val then
    match s.findCycle n m with
    | some m => (s.modPort n fun p => { p with next := some (s.newCycle n m) }).noteMargin n
    | none => (s.modPort n fun p => { p with next := none }).noteMargin n
  else s

/-- Cycle `m` has fired, blanked or been stopped (R100). -/
def State.cyclePassed (s : State) (n : Fin 16) (m : Nat) : State :=
  s.modPort n fun p => { p with placed := some (match p.placed with
    | some a => laterLine a m
    | none => m) }

/-- Places the cycle after the latest that has fired, blanked or been stopped (R100). -/
def State.placeOn (s : State) (n : Fin 16) : State :=
  match (s.port.get n).placed with
  | some m => s.placeNext n ((m + 1) % 2 ^ 32)
  | none => s

/-- The first cycle of every port is placed, once the job has an origin (R59, R100). -/
def State.placeFirst (s : State) : State :=
  (List.finRange 16).foldl (fun s n => match s.firstCycle n with
    | some m => s.placeNext n m
    | none => s) s

/-- Writes the status byte of column `k` in the history entry of job line `j` (R160, R396). -/
def State.writeStatus (s : State) (n : Fin 16) (k j reason : Nat) : State :=
  s.stackPut (s.histEntry n j + 0x10 + k) [BitVec.ofNat 8 (reason + 0x60)]

/-- Column `k` has fired or blanked job line `j`: its latest line and the port fire line follow, while the job is current (R25, R98, R116). -/
def State.lineDone (s : State) (n : Fin 16) (k j : Nat) : State :=
  if !s.inJobState then s else
  let d := s.linesDone n k
  let s := if d = 0 ∨ lineAtOrBeyond (j + 1) d then
      s.modPort n fun p => { p with lines := storePut (fun _ => 0) p.lines k (j + 1) } else s
  let f := s.obj (pk 0x32001C n)
  if f = 0xFFFFFFFF ∨ lineAtOrBeyond j f then s.setObj (pk 0x32001C n) j else s

/-- Every enabled column of the port has fired or blanked job line `j`. -/
def State.columnsPast (s : State) (n : Fin 16) (j : Nat) : Bool :=
  (s.columns n).all fun k => s.linesDone n k ≠ 0 && lineAtOrBeyond (s.linesDone n k) (j + 1)

/-- The port counts one cycle or shot in the window of R166. -/
def State.windowStep (s : State) (n : Fin 16) : State :=
  let w := (s.port.get n).window + 1
  if w = 1024 then (s.setObj (pk 0x310010 n) 0).modPort n fun p => { p with window := 0, errors := 0 }
  else s.modPort n fun p => { p with window := w }

/-- Counts a cycle as fired or as blanked (R178). -/
def State.countCycle (s : State) (n : Fin 16) (blanked : Bool) : State :=
  (s.bump (pk (if blanked then 0x330002 else 0x330001) n)).windowStep n

/-- Places again the events of a cycle for which `again` says so (R102 to R105). -/
def State.replaceEvents (s : State) (n : Fin 16) (c : Cycle) (again : Nat → Option Nat → Bool) : Cycle :=
  { c with events := c.events.map fun kt =>
      if again kt.1 kt.2 then (kt.1, if s.extrapValid then s.placeAt (s.target n c.m kt.1) else none) else kt }

/-- Columns of a stretched cycle whose gated event falls due at the present clock: their events move by the cycle's delay (R111). -/
def State.ripen (s : State) (n : Fin 16) (c : Cycle) : Cycle :=
  { c with ripe := c.ripe ++ c.events.filterMap fun kt =>
      if kt.2.isNone && (findKey c.ripe kt.1).isNone && atOrBeyond (s.guarded s.clk) (s.target n c.m kt.1) then
        some (kt.1, s.clk)
      else none }

/-- EXTRAP_VALID has changed: every pending event passes to gated mode, or is placed again, and a cycle whose first event is pending is judged anew (R105, R109). -/
def State.modeChange (s : State) (n : Fin 16) : State :=
  let p := s.port.get n
  let all := fun (_ : Nat) (_ : Option Nat) => true
  let s := s.setBit (pk 0x32001F n) 0 s.extrapValid
  let s := s.modPort n fun q => { q with
    cur := p.cur.map fun c => if c.shift = 0 then s.replaceEvents n c all else s.ripen n (s.replaceEvents n c all)
    blanked := p.blanked.map fun c => { s.replaceEvents n c all with withdrawn := 0 }
    next := p.next.map fun c =>
      let d := { s.replaceEvents n c all with withdrawn := 0 }
      if s.extrapValid then s.judge n d else unjudged d }
  s.noteMargin n

/-- Follows a change of EXTRAP_VALID from `before` on every port (R105). -/
def State.modeSync (before : Bool) (s : State) : State :=
  if before == s.extrapValid then s else (List.finRange 16).foldl State.modeChange s

/-- The event of column `k` pending at clock `t` misses its target by more than the fire tolerance (R102). -/
def State.misses (s : State) (n : Fin 16) (m k t : Nat) : Bool :=
  decide ((posDiff (s.extrapolated t) (s.target n m k)).natAbs > s.obj 0x230001 * 256)

/-- Pending events of a cycle that the check of R102 squashes. -/
def State.squashCount (s : State) (n : Fin 16) (c : Cycle) : Nat :=
  (c.events.filter fun kt => match kt.2 with
    | some t => s.misses n c.m kt.1 t
    | none => false).length

/-- The events that R102 squashes are placed again, and events without a place are placed. -/
def State.squash (s : State) (n : Fin 16) (c : Cycle) : Cycle :=
  s.replaceEvents n c fun k t => match t with
    | some t => s.misses n c.m k t
    | none => !c.withdrawn.testBit k

/-- The column by whose gated event a cycle is held under STRETCH, with the earliest clock allowed (R111). -/
def Cycle.heldBy (c : Cycle) : Option (Nat × Nat) :=
  match c.delayed, c.ripe, c.firstAt with
  | some d, (k, _) :: _, none => some (k, d)
  | _, _, _ => none

/-- The slip of a held cycle from the target of its first event exceeds the stretch limit at a position (R111). -/
def State.slipsAt (s : State) (n : Fin 16) (c : Cycle) (k pos : Nat) : Bool :=
  decide (posDiff pos (s.target n c.m k) > (s.obj 0x230003 * 65536 : Nat))

/-- A gated cycle held under STRETCH whose slip exceeds the limit before its earliest clock, at the present clock or, where that clock has come, in the one before it (R111). -/
def State.heldPast (s : State) (n : Fin 16) (c : Cycle) : Bool :=
  match c.heldBy with
  | some (k, d) => if s.clk < d then s.slipsAt n c k (s.guarded s.clk) else s.slipsAt n c k (s.extrapolatedAt (d - 1))
  | none => false

/-- A held cycle whose slip exceeds the limit at an edge is blanked; the other events of a stretched cycle are noted as they fall due (R111). -/
def State.heldSlip (s : State) (n : Fin 16) (c : Cycle) : Cycle :=
  if c.delayed.isNone then c
  else if s.heldPast n c then { c with blank := 2, delayed := none, shift := 0 }
  else s.ripen n c

/-- The check of one port's pending events at a forward counting edge (R102, R103, R107, R109). -/
def State.checkPort (s : State) (n : Fin 16) : State :=
  let p := s.port.get n
  let count := ((p.cur.toList ++ p.blanked ++ p.next.toList).map (s.squashCount n)).sum
  let s := if count = 0 then s else s.bumpN 0x230020 count
  let s := s.modPort n fun q => { q with
    cur := p.cur.map (s.squash n)
    blanked := p.blanked.map (s.squash n)
    next := p.next.map fun c =>
      let c' := s.squash n c
      if c'.events = c.events then c' else s.judge n c' }
  s.noteMargin n

/-- A column of a cycle has issued the full pulse of every group slot (R692). -/
def fullyPulsed (r : Bytes) (c : Cycle) (k : Nat) : Bool :=
  recGroups r ≤ storeGet (fun _ => 0) c.pulses k && !(c.events.any fun kt => kt.1 = k)

/-- Columns of a cycle that have not issued every full pulse (R692). -/
def unpulsed (r : Bytes) (c : Cycle) : List Nat := (List.range 8).filter fun k => c.part.testBit k && !fullyPulsed r c k

/-- Records the columns of a cycle in progress with the reason that stops it (R692). -/
def State.stopCycle (s : State) (n : Fin 16) (reason : Nat) (c : Cycle) : State :=
  let cols := unpulsed (s.record n) c
  let s := cols.foldl (fun s k =>
    (s.writeStatus n k (s.lineOf n c.m k) reason).lineDone n k (s.lineOf n c.m k)) s
  (s.countCycle n (!cols.isEmpty)).cyclePassed n c.m

/-- Stopping reasons of one clock in the order in which they prevail: LOCKSTEP, then ENGINE_FAULT (R692). -/
def prevails (a b : Nat) : Bool := a = 4 && b ≠ 4 || a = 8 && b = 6

/-- A cause of the clock in which the port's cycles were stopped rewrites their reason where it prevails (R692). -/
def State.restop (s : State) (n : Fin 16) (reason : Nat) : State :=
  match (s.port.get n).stopped with
  | some x =>
    if x.clk = s.clk && prevails reason x.reason then
      let s := x.cycles.foldl (fun s c => (unpulsed (s.record n) c).foldl (fun s k => s.writeStatus n k (s.lineOf n c.m k) reason) s) s
      s.modPort n fun p => { p with stopped := some { x with reason := reason } }
    else s
  | none => s

/-- Die of column `k` (R181). -/
def colDie (r : Bytes) (k : Nat) : Nat := field (rw16 r 0x46) (2 * k) 2

/-- Energy in nJ of `count` nozzles pulsed for `w` ns. -/
def pulseEnergy (r : Bytes) (count w : Nat) : Rat :=
  ((count * rw16 r 0x48 * w : Nat) : Rat) / ((max 1 (rw16 r 0x4A) : Nat) : Rat)

/-- Energy in nJ of one issued slot of a cycle: fired, or warming where its data is zero (R155, R186). -/
def slotEnergy (r : Bytes) (c : Cycle) (k i : Nat) : Rat :=
  let n := groupCount r (storeGet (fun _ => 0) c.data k) i
  if n ≠ 0 then pulseEnergy r n c.width
  else if c.warm then pulseEnergy r (groupNozzles r i) c.warmWidth
  else 0

/-- Energy in nJ that a cycle's issued pulses put into die `d` (R186). -/
def cycleEnergy (r : Bytes) (c : Cycle) (d : Nat) : Rat :=
  c.pulses.foldl (fun e kx =>
    if colDie r kx.1 = d then e + ((List.range kx.2).map (slotEnergy r c kx.1)).sum else e) 0

/-- A cycle whose latest pulse, of column `k`, has been cut. -/
def Cycle.lessPulse (c : Cycle) (k : Nat) : Cycle :=
  { c with pulses := storePut (fun _ => 0) c.pulses k (storeGet (fun _ => 0) c.pulses k - 1) }

/-- The pulse in progress is cut from clock `t` on: one that lasts to it does not count as issued for the column being strobed, also where its cycle was stopped in the present clock (R129, R692). -/
def State.cutPulse (t : Nat) (s : State) (n : Fin 16) : State :=
  let p := s.port.get n
  if t < p.pulseEnd then
    match p.cur, p.stopped with
    | some c, _ => s.modPort n fun p => { p with cur := some (c.lessPulse p.pulseCol) }
    | none, some x =>
      if x.clk = s.clk then
        let cut := x.cycles.map fun c => if c.firstAt.isSome then c.lessPulse p.pulseCol else c
        s.modPort n fun p => { p with stopped := some { x with cycles := cut } }
      else s
    | none, none => s
  else s

/-- The energy that a stopped cycle has put into each die is owed to the next update of the model (R186). -/
def State.oweHeat (s : State) (n : Fin 16) (c : Cycle) : State :=
  s.modPort n fun p => { p with heat := (List.range 4).foldl (fun l d =>
    storePut (fun _ => 0) l d (storeGet (fun _ => 0) l d + cycleEnergy (s.record n) c d)) p.heat }

/-- The cycle is loading, or waits loaded for its first event (R692). -/
def Cycle.waits (c : Cycle) : Bool := c.loadAt.isSome && c.firstAt.isNone

/-- Records the columns whose event a cap fault's cycle still awaits (R161). -/
def State.recordCap (s : State) (n : Fin 16) (c : Cycle) : State :=
  let s := c.events.foldl (fun s kt =>
    (s.writeStatus n kt.1 (s.lineOf n c.m kt.1) 7).lineDone n kt.1 (s.lineOf n c.m kt.1)) s
  if c.firstAt.isNone then (s.countCycle n true).cyclePassed n c.m else s

/-- Records the cap faults of a port whose cycles are dropped, before or after their first event (R161). -/
def State.recordCaps (s : State) (n : Fin 16) : State :=
  let p := s.port.get n
  ((p.blanked ++ p.next.toList).filter fun c => c.loadAt.isSome && c.blank = 7).foldl (fun s c => s.recordCap n c) s

/-- A port drops its cycles. -/
def State.dropCycles (s : State) (n : Fin 16) : State :=
  s.modPort n fun p => { p with next := none, cur := none, blanked := [], queue := [] }

/-- Cycles in progress of a port: one that fires, and one that is loading or loaded; a cap fault is recorded as such (R161, R692). -/
def Port.inProgress (p : Port) : List Cycle :=
  p.cur.toList ++ p.next.toList.filter fun c => c.waits && c.blank ≠ 7

/-- Stops every cycle in progress of a port and drops its pending events; a cycle with a cap fault is recorded as such (R116, R161, R692). -/
def State.stopCycles (s : State) (n : Fin 16) (reason : Nat) : State :=
  let cs := (s.port.get n).inProgress
  let s := cs.foldl (fun s c => (s.oweHeat n c).stopCycle n reason c) ((s.restop n reason).recordCaps n)
  let s := if cs.isEmpty then s else s.modPort n fun p => { p with stopped := some { clk := s.clk, reason := reason, cycles := cs } }
  (if s.portState n.val = 2 then s.setObj (pk 0x310001 n) 1 else s).dropCycles n

/-- Copies `n` bytes of memory. -/
def State.copyMem (s : State) (src dst n : Nat) : State := s.setBytes dst (s.bytes src n)

/-- Archives a map that leaves force, with the range of commit sequences it was in force under (R394).
The archive entry holds the map; its first and last sequence stand in its last 8 bytes. -/
def State.archiveMap (s : State) (n : Fin 16) : State :=
  let k := storeGet (fun _ => 0) s.sched.archived n.val
  let a := s.archiveBase n + k % 16 * 0x10000
  let first := storeGet (fun _ => 0) s.sched.mapSince n.val
  let s := s.copyMem (s.mapForce n) a (s.mapLen n)
  let s := (s.setNum (a + 0xFFF8) 4 first).setNum (a + 0xFFFC) 4 ((s.obj 0x230014 + 2 ^ 32 - 1) % 2 ^ 32)
  s.modSched fun sch => { sch with
    archived := storePut (fun _ => 0) s.sched.archived n.val (k + 1),
    mapSince := storePut (fun _ => 0) s.sched.mapSince n.val (s.obj 0x230014) }

/-- Stores the state table of the map in force in the port's health map entry (R328). -/
def State.storeStates (s : State) (n : Fin 16) : State :=
  let e := (findKey s.mram.health n.val).getD { serial := s.obj (pk 0x310003 n), states := [], bins := [], firing := [] }
  s.modMram fun mr => { mr with
    health := putKey s.mram.health n.val { e with states := s.bytes (s.mapForce n + 0x40) 4096 } }

/-- A map of different content has come into force: counts, and CANNOT_MASK where it is unmaskable (R323, R324). -/
def State.mapInForce (s : State) (n : Fin 16) : State :=
  let s := s.countForce n
  let s := s.modJigsaw n fun p => { p with stopAt := none }
  if s.bit (pk 0x380007 n) 1 then
    let s := ((s.event (pk 0x380008 n) 0).bump (pk 0x380027 n)).raise 151 n.val 0
    if s.obj (pk 0x380006 n) = 1 ∧ s.boundary n ≠ 0xFFFFFFFF then
      s.modJigsaw n fun p => { p with stopAt := some ((s.boundary n + 256) % 2 ^ 32) }
    else s
  else s

/-- The shadow map replaces a map in force of different content, and the map in force is counted at every transfer (R323, R324, R328, R394). -/
def State.replaceMap (s : State) (n : Fin 16) : State :=
  let new := s.bytes (s.mapShadow n) (s.mapLen n)
  let old := s.bytes (s.mapForce n) (s.mapLen n)
  if new = old then s.countForce n
  else
    let s := if s.inJobState && s.mapPresent (s.mapForce n) then s.archiveMap n else s
    let s := (s.clearBytes (s.mapForce n) (s.mapLen n)).setBytes (s.mapForce n) new
    let s := if sub new 0x40 4096 = sub old 0x40 4096 then s else s.storeStates n
    s.mapInForce n

/-- Trims, width, gap and cap of a port come into force (R121, R156). -/
def State.transferScalars (s : State) (n : Fin 16) : State :=
  let s := (List.range 8).foldl (fun s k => s.setObj (pk 0x320011 n + k) (s.obj (pk 0x320009 n + k))) s
  let s := ((s.setObj (pk 0x310006 n) (s.obj (pk 0x300003 n))).setObj (pk 0x310007 n)
    (s.obj (pk 0x300004 n))).setObj (pk 0x310008 n) (s.obj (pk 0x300005 n))
  s.setObj (pk 0x32001A n) (pMin (s.record n) (s.obj (pk 0x310006 n)) (s.obj (pk 0x310007 n)))

/-- Port n's part of the shadow set comes into force (R117, R121, R156, R281). -/
def State.transfer (s : State) (n : Fin 16) : State :=
  let s := ((s.transferScalars n).replaceMap n).copyMem (s.gainShadow n) (s.gainForce n) (s.gainLen n)
  let s := s.modSched fun sch => { sch with
    setSeq := storePut (fun _ => 0) s.sched.setSeq n.val (if s.inJobState then s.obj 0x230014 else 0) }
  (s.setBit (pk 0x32001F n) 3 false).setObj (pk 0x32001D n) 0xFFFFFFFF

/-- When no transfer is pending any more, the lock is released and the commit is complete (R121). -/
def State.commitDone (s : State) : State :=
  if s.obj 0x230012 = 1 ∧ (List.finRange 16).all fun n => !s.transferPending n then
    let s := ((s.setObj 0x230012 0).setObj 0x230015 (s.obj 0x230014)).setObj 0x230013 2
    (s.event 0x230019 1).noteCommitted
  else s

/-- The transfers that are pending complete at once, because no further line of the job fires (R121). -/
def State.releaseCommit (s : State) : State :=
  if s.obj 0x230012 = 1 then
    ((List.finRange 16).foldl (fun s n => if s.transferPending n then s.transfer n else s) s).commitDone
  else s

end Sys2Proof.Machine
end

