-- ==== Sys2Proof/Machine/Krt.lean ====
section
/-! DEFINITION. The KRT packet, the frames that carry it, STATUS and NAK packets, and the KTC tile code (R214 to R233). -/

namespace Sys2Proof.Machine

/-- Big-endian number of `n` bytes at `ofs`, as network headers hold it. -/
def beAt (l : Bytes) (ofs n : Nat) : Nat := leNat (sub l ofs n).reverse

/-- The one's complement sum of the 16-bit words of a string, odd lengths padded with a zero byte. -/
def onesSum : Bytes → Nat
  | [] => 0
  | [a] => a.toNat * 256
  | a :: b :: t => a.toNat * 256 + b.toNat + onesSum t

/-- A string with its checksum in place sums to all ones. -/
def checksumOk (sum : Nat) : Bool :=
  let f := fun (x : Nat) => x % 65536 + x / 65536
  f (f (f sum)) = 65535

/-- The UDP datagram that an accepted frame carries: source MAC, IPv4 address and port, and payload. -/
structure Datagram where
  mac : Nat
  ip : Nat
  port : Nat
  payload : Bytes
  deriving DecidableEq, Repr

/-- Offset of the type field that counts: after at most one 802.1Q tag (R214). -/
def typeOfs (f : Bytes) : Nat := if beAt f 12 2 = 0x8100 then 16 else 12

/-- The IPv4 and UDP headers of a frame hold what R214 asks for, the UDP checksum apart. -/
def krtHeaders (mac ip port : Nat) (f : Bytes) : Bool :=
  let o := typeOfs f
  let i := o + 2
  let u := i + 20
  f.length + 4 ≤ 9216 && beAt f 0 6 = mac && beAt f o 2 = 0x800 && beAt f i 1 = 0x45 &&
    checksumOk (onesSum (sub f i 20)) && !(beAt f (i + 6) 2).testBit 13 && beAt f (i + 6) 2 % 8192 = 0 &&
    beAt f (i + 9) 1 = 17 && beAt f (i + 16) 4 = ip && beAt f (u + 2) 2 = port && 8 ≤ beAt f (u + 4) 2 &&
    u + beAt f (u + 4) 2 ≤ f.length && 20 + beAt f (u + 4) 2 ≤ beAt f (i + 2) 2

/-- The UDP checksum of a frame is 0 or correct (R214). -/
def udpSumOk (f : Bytes) : Bool :=
  let i := typeOfs f + 2
  let u := i + 20
  let n := beAt f (u + 4) 2
  beAt f (u + 6) 2 = 0 ||
    checksumOk (onesSum (sub f (i + 12) 8) + 17 + n + onesSum (sub f u n))

/-- The datagram of a frame whose headers hold. -/
def datagramOf (f : Bytes) : Datagram :=
  let i := typeOfs f + 2
  let u := i + 20
  { mac := beAt f 6 6, ip := beAt f (i + 12) 4, port := beAt f u 2,
    payload := sub f (u + 8) (beAt f (u + 4) 2 - 8) }

/-- A frame is an ARP request for IPv4 over Ethernet: target address, sender hardware and protocol address. -/
def arpRequest (f : Bytes) : Option (Nat × Nat × Nat) :=
  let a := typeOfs f + 2
  if beAt f (typeOfs f) 2 = 0x806 ∧ beAt f a 2 = 1 ∧ beAt f (a + 2) 2 = 0x800 ∧ beAt f (a + 4) 2 = 0x604 ∧
      beAt f (a + 6) 2 = 1 ∧ a + 28 ≤ f.length then
    some (beAt f (a + 24) 4, beAt f (a + 8) 6, beAt f (a + 14) 4)
  else none

/-- MAGIC, VERSION and a TYPE stand at the start of a payload (R216). -/
def krtType (p : Bytes) (ty : Nat) : Bool := leAt p 0 2 = 0x544B && leAt p 2 1 = 1 && leAt p 3 1 = ty

/-- A payload is a status request (R215). -/
def isStatusRequest (p : Bytes) : Bool := 4 ≤ p.length && p.length ≤ 64 && krtType p 0x81

/-- MAGIC, VERSION and HDR_CRC of a packet are right (R218). -/
def headerTrusted (p : Bytes) : Bool :=
  32 ≤ p.length && leAt p 0 2 = 0x544B && leAt p 2 1 = 1 && leAt p 0x1E 2 = crc16 (sub p 0 0x1E)

/-- REPEAT of a packet. -/
def krtRepeat (p : Bytes) : Bool := (leAt p 6 1).testBit 0

/-- RETX of a packet. -/
def krtRetx (p : Bytes) : Bool := (leAt p 6 1).testBit 1

/-- Plane of a packet. -/
def krtPlane (p : Bytes) : Nat := leAt p 7 1 % 8

/-- Codec of a packet. -/
def krtCodec (p : Bytes) : Nat := field (leAt p 7 1) 4 2

/-- Tile row of a packet. -/
def krtRow (p : Bytes) : Nat := leAt p 8 4 % 2 ^ 24

/-- Tile column of a packet. -/
def krtCol (p : Bytes) : Nat := field (leAt p 8 4) 24 5

/-- SEQ of a packet. -/
def krtSeq (p : Bytes) : Nat := leAt p 0xC 4

/-- TILE_LEN of a packet. -/
def krtLen (p : Bytes) : Nat := leAt p 0x10 4

/-- FRAG_OFS of a packet. -/
def krtOfs (p : Bytes) : Nat := leAt p 0x14 4

/-- TILE_CRC of a packet. -/
def krtCrc (p : Bytes) : Nat := leAt p 0x18 4

/-- FRAG_LEN of a packet. -/
def krtFrag (p : Bytes) : Nat := leAt p 0x1C 2

/-- Reserved bits of a packet are 0 and its codec is 0 or 1 (R216, R218). -/
def krtReservedOk (p : Bytes) : Bool :=
  leAt p 6 1 < 4 && !(leAt p 7 1).testBit 3 && leAt p 7 1 < 32 && leAt p 8 4 < 2 ^ 29

/-- Lengths and offset of a packet keep R216 and R217 for a tile of `raw` bytes. -/
def krtLengthsOk (raw : Nat) (p : Bytes) : Bool :=
  let n := krtFrag p
  1 ≤ n && n ≤ 8960 && p.length = 32 + n && krtOfs p + n ≤ krtLen p &&
    (krtOfs p + n = krtLen p || n % 8 = 0) &&
    (if krtCodec p = 0 then krtLen p = raw else krtLen p ≤ raw)

/-- Output of one token over the bytes above the rest of a row, with the stream after it (R230, R232). -/
def ktcToken (above : Bytes) (tok : Nat) (rest : Bytes) : Option (Bytes × Bytes) :=
  if tok < 0x80 then
    if tok + 1 ≤ above.length then some (above.take (tok + 1), rest) else none
  else if tok < 0xC0 then
    let n := tok - 0x7F
    if n ≤ above.length ∧ n ≤ rest.length then some (rest.take n, rest.drop n) else none
  else if tok < 0xE0 then
    let n := tok - 0xBF
    let k := (n + 1) / 2
    if n ≤ above.length ∧ k ≤ rest.length ∧ (n % 2 = 0 ∨ leAt rest (k - 1) 1 < 16) then
      some ((List.range n).map fun i =>
        BitVec.ofInt 8 (leAt above i 1 + sx 4 (leAt rest (i / 2) 1 / 16 ^ (i % 2))), rest.drop k)
    else none
  else
    let n := tok - 0xDF
    match rest with
    | [] => none
    | b :: t => if n ≤ above.length then some (List.replicate n b, t) else none

/-- One row decoded against the row above, with the stream after it; every token yields a byte, so `fuel` is the width (R231). -/
def ktcRow : Nat → Bytes → Bytes → Option (Bytes × Bytes)
  | _, [], s => some ([], s)
  | 0, _ :: _, _ => none
  | _ + 1, _ :: _, [] => none
  | fuel + 1, a :: above, tok :: s =>
    match ktcToken (a :: above) tok.toNat s with
    | none => none
    | some (out, s) =>
      match ktcRow fuel ((a :: above).drop out.length) s with
      | none => none
      | some (r, s) => some (out ++ r, s)

/-- The rows of a tile decoded in order; the stream ends at the end of the last (R231, R232). -/
def ktcRows : Nat → Bytes → Bytes → Option Bytes
  | 0, _, s => if s.isEmpty then some [] else none
  | n + 1, above, s =>
    match ktcRow above.length above s with
    | none => none
    | some (row, s) =>
      match ktcRows n row s with
      | none => none
      | some t => some (row ++ t)

/-- Decodes a KTC stream of `rows` rows of `width` bytes (R230 to R232). -/
def ktcDecode (rows width : Nat) (s : Bytes) : Option Bytes := ktcRows rows (List.replicate width 0#8) s

/-- A packet closed by its CRC. -/
def withCrc (b : Bytes) : Bytes := b ++ leBytes 2 (crc16 b)

/-- A NAK entry (R227). -/
def nakEntry (e : Nak) : Bytes :=
  leBytes 4 e.seq ++ leBytes 1 (b2n e.rep) ++ leBytes 1 e.reason ++ leBytes 2 e.left

end Sys2Proof.Machine
end

