-- ==== Sys2Proof/Machine/IngestStore.lean ====
section
/-! DEFINITION. The contone store and the repeat store: tiles, sequence numbers, slots, presence and rows (R219, R220, R234 to R246). -/

namespace Sys2Proof.Machine

/-- Rows of a raw tile in an input mode (R219). -/
def tileRows (mode : Nat) : Nat := if mode = 0 then 128 else 256

/-- Bytes of a row of a raw tile of a tile column in an input mode; 0 where the mode has no such tile (R219). -/
def tileWidth (mode col : Nat) : Nat :=
  if col < 16 then (if mode = 0 then 512 else if mode = 1 then 1024 else 128)
  else if mode = 0 then 32 else if mode = 1 then 64 else 0

/-- Raw size of a tile (R219). -/
def rawSize (mode col : Nat) : Nat := tileRows mode * tileWidth mode col

/-- Input mode (0x2500:11). -/
def State.inputMode (s : State) : Nat := s.obj 0x250011

/-- The enabled planes in ascending order (R220). -/
def State.inkPlanes (s : State) : List Nat := (List.range 8).filter fun p => s.bit 0x250012 p

/-- The tile columns that a job has, in column order (R220). -/
def State.tileCols (s : State) : List Nat :=
  List.range 16 ++ (if s.inputMode = 2 then [] else [16, 17].filter fun c => s.bit 0x250013 (c - 16))

/-- C: tile columns of a row (R220). -/
def State.colCount (s : State) : Nat := s.tileCols.length

/-- T: tiles of a row (R220). -/
def State.rowTiles (s : State) : Nat := s.inkPlanes.length * s.colCount

/-- The sequence number of a tile, where the job has that tile (R220). -/
def State.tileSeq (s : State) (row plane col : Nat) : Option Nat :=
  if s.inkPlanes.contains plane && s.tileCols.contains col then
    some (row * s.rowTiles + s.inkPlanes.idxOf plane * s.colCount + s.tileCols.idxOf col)
  else none

/-- Row, plane and column of a sequence number (R220). -/
def State.tileOf (s : State) (g : Nat) : Nat × Nat × Nat :=
  let i := g % s.rowTiles
  (g / s.rowTiles, s.inkPlanes.getD (i / s.colCount) 0, s.tileCols.getD (i % s.colCount) 0)

/-- Bytes of a plane block: the image tiles, then both aprons (R234). -/
def State.planeBlock (s : State) : Nat :=
  16 * rawSize s.inputMode 0 + 2 * rawSize s.inputMode 16

/-- Slot size (R234). -/
def State.slotSize (s : State) : Nat := s.inkPlanes.length * s.planeBlock

/-- S: slots of the contone store (R234). -/
def State.slots (s : State) : Nat := s.obj 0x200011 / s.slotSize

/-- R_S: slots of the repeat store (R243). -/
def State.repSlots (s : State) : Nat := s.obj 0x200013 / s.slotSize

/-- Repeat is enabled (0x2500:20). -/
def State.repeatOn (s : State) : Bool := s.obj 0x250020 = 1

/-- Tile rows of the repeat (R243). -/
def State.repRows (s : State) : Nat := (s.obj 0x250021 + 255) / 256

/-- Tiles of the repeat (0x2500:3A). -/
def State.repRequired (s : State) : Nat := s.repRows * s.rowTiles

/-- A write of `n` bytes at an address lies in a store of the ingest or in its staging area, and is made (R3, R35, R37, R489, R491). -/
def State.ingestHolds (s : State) (a n : Nat) : Bool :=
  let within := fun (b size : Nat) => decide (b ≤ a ∧ a + n ≤ b + size)
  (within (s.obj 0x200010) (s.obj 0x200011) || within (s.obj 0x200012) (s.obj 0x200013) || within s.tables 0x1000000) &&
    s.writeOk a n

/-- Address of the slot that holds a tile row (R234, R243). -/
def State.slotAddr (s : State) (rep : Bool) (row : Nat) : Nat :=
  if rep then s.obj 0x200012 + row * s.slotSize
  else s.obj 0x200010 + row % max 1 s.slots * s.slotSize

/-- Address of a tile's place (R234). -/
def State.tileAddr (s : State) (rep : Bool) (row plane col : Nat) : Nat :=
  s.slotAddr rep row + s.inkPlanes.idxOf plane * s.planeBlock +
    (if col < 16 then col * rawSize s.inputMode 0
     else 16 * rawSize s.inputMode 0 + (col - 16) * rawSize s.inputMode 16)

/-- FREE_ROW (R238). -/
def State.freeRow (s : State) : Nat := s.obj 0x250035

/-- The highest row accepted now; the object reads it at every clock, also where its table gives a default of 0 (R237; DEDUCED, log entry 161). -/
def State.limitRow (s : State) : Nat := (s.freeRow + s.slots + 2 ^ 32 - 1) % 2 ^ 32

/-- The mark of a sequence number of the job series. -/
def State.mark (s : State) (g : Nat) : Option Mark := findKey s.ingest.marks g

/-- A job tile is present or lost. -/
def State.marked (s : State) (g : Nat) : Bool := (s.mark g).isSome

/-- A repeat tile is present. -/
def State.repMarked (s : State) (g : Nat) : Bool := (findKey s.ingest.rep g).isSome

/-- Every tile of a row is present or lost (R239); rows of the repeat store while repeat is enabled. -/
def State.rowComplete (s : State) (rep : Bool) (row : Nat) : Bool :=
  (List.range s.rowTiles).all fun i =>
    let g := row * s.rowTiles + i
    if rep then s.repMarked g else s.marked g

/-- The length of the run of `n` values from `i` that hold. -/
def runFrom (p : Nat → Bool) : Nat → Nat → Nat
  | 0, _ => 0
  | n + 1, i => if p i then 1 + runFrom p n (i + 1) else 0

/-- CUM_SEQ: the lowest sequence number neither present nor lost; tiles of released rows count as done (R229). -/
def State.cumSeq (s : State) : Nat :=
  let f := s.freeRow * s.rowTiles
  f + runFrom s.marked s.ingest.marks.length f

/-- REPEAT_CUM: the lowest repeat sequence number not present (R229). -/
def State.repeatCum (s : State) : Nat := runFrom s.repMarked s.repRequired 0

/-- Repeat tiles present (0x2500:39). -/
def State.repPresent (s : State) : Nat := s.ingest.rep.length

/-- The furthest of some lines, where there is one (R7). -/
def furthest : List Nat → Option Nat
  | [] => none
  | a :: t => some (t.foldl laterLine a)

/-- NEED_ROW: the row that render fetches next on the most advanced port (R229). -/
def State.needRow (s : State) : Nat := ((furthest (s.renderedPorts.map fun n => s.obj (0x240060 + n.val))).getD 0) / 256

/-- Complete row: the highest row up to which every row is complete; 0 while row 0 is not (R250). -/
def State.completeRow (s : State) : Nat :=
  s.freeRow + runFrom (s.rowComplete false) s.slots s.freeRow - 1

/-- Offsets of the enabled columns of enabled ports (R241). -/
def State.allOffsets (s : State) : List Nat :=
  (List.finRange 16).flatMap fun n => if s.portEnabled n.val then (s.columns n).map (s.offset n) else []

/-- Required slots (R241). -/
def State.requiredSlots (s : State) : Nat :=
  let o := s.allOffsets
  let span := o.foldl max 0 - (o.min?.getD 0)
  (span + 1 + s.obj 0x240001 + 255) / 256 + 2

/-- The store resets: presence bits, lost marks, contexts and NAKs are discarded, and FREE_ROW is 0 (R235). -/
def State.resetStore (s : State) : State :=
  (s.modIngest fun i => { i with ctx := [], marks := [], naks := [], repNaks := [], lost := 0 }).setObj 0x250035 0

/-- Every presence bit of the repeat store clears (R245). -/
def State.clearRepeat (s : State) : State := s.modIngest fun i => { i with rep := [], repNaks := [] }

/-- A link's state is changed. -/
def State.modLink (s : State) (l : Fin 2) (f : Link → Link) : State :=
  s.modIngest fun i => { i with link := i.link.set l (f (i.link.get l)) }

/-- State of a link: 0 OFF, 1 NO_SIGNAL, 2 LOCKING, 3 UP (R212). -/
def State.linkState (s : State) (l : Fin 2) : Nat := field (s.obj 0x250030) (2 * l.val) 2

/-- A link qualifies for NAK and STATUS: it is UP and has accepted a KRT packet (R227, R229). -/
def State.qualifies (s : State) (l : Fin 2) : Bool :=
  s.linkState l = 3 && (s.ingest.link.get l).peer.isSome

/-- A link sends a payload to its peer (R215). -/
def State.transmit (s : State) (l : Fin 2) (p : Bytes) : State :=
  s.modLink l fun k => match k.peer with
    | some (mac, ip, port) => { k with sent := some (.udp mac ip port p) }
    | none => k

/-- A STATUS packet of a link (R229). -/
def State.statusPacket (s : State) (l : Fin 2) : Bytes :=
  withCrc (leBytes 2 0x544B ++ leBytes 1 1 ++ leBytes 1 0x81 ++ leBytes 2 (s.obj 0x250010) ++
    leBytes 1 l.val ++ leBytes 1 s.engineState ++ leBytes 4 s.cumSeq ++ leBytes 4 s.freeRow ++
    leBytes 4 s.limitRow ++ leBytes 4 s.needRow ++ leBytes 4 s.repeatCum ++
    leBytes 4 (s.ingest.link.get l).statusSeq ++ leBytes 4 s.ingest.lost ++ List.replicate 26 0#8)

/-- A link sends a STATUS packet where it qualifies (R229). -/
def State.sendStatus (s : State) (l : Fin 2) : State :=
  if s.qualifies l then
    (s.transmit l (s.statusPacket l)).modLink l fun k => { k with statusSeq := (k.statusSeq + 1) % 2 ^ 32 }
  else s

/-- The NAK record of a sequence number of a series. -/
def State.nakRec (s : State) (rep : Bool) (g : Nat) : Option NakRec :=
  findKey (if rep then s.ingest.repNaks else s.ingest.naks) g

/-- The NAK record of a sequence number of a series is replaced. -/
def State.setNakRec (s : State) (rep : Bool) (g : Nat) (r : NakRec) : State :=
  s.modIngest fun i => if rep then { i with repNaks := putKey i.repNaks g r } else { i with naks := putKey i.naks g r }

/-- A link sends its open NAK packet; the NAK interval of an entry runs from the moment it is sent (R227). -/
def State.sendNak (s : State) (l : Fin 2) : State :=
  let k := s.ingest.link.get l
  if k.nak.isEmpty then s
  else
    let p := withCrc (leBytes 2 0x544B ++ leBytes 1 1 ++ leBytes 1 0x82 ++ leBytes 2 (s.obj 0x250010) ++
      leBytes 1 k.nak.length ++ leBytes 1 l.val ++ leBytes 4 k.nakSeq ++ leBytes 4 0 ++ k.nak.flatMap nakEntry)
    let s := (s.transmit l p).modLink l fun k => { k with nak := [], nakSeq := (k.nakSeq + 1) % 2 ^ 32 }
    let s := s.bumpN 0x250047 k.nak.length
    k.nak.foldl (fun s e => match s.nakRec e.rep e.seq with
      | some r => s.setNakRec e.rep e.seq { r with sentAt := some (r.sentAt.getD s.clk) }
      | none => s) s

/-- The link that a NAK goes out on (R227). -/
def State.nakLink (s : State) (pref : Option Nat) : Option (Fin 2) :=
  let pick := fun (l : Fin 2) => if s.qualifies l then some l else none
  match pref with
  | some 0 => (pick 0).orElse fun _ => pick 1
  | some 1 => (pick 1).orElse fun _ => pick 0
  | _ => (pick 0).orElse fun _ => pick 1

/-- A decided NAK joins the open packet of its link, or waits (R227). -/
def State.queueNak (s : State) (e : Nak) : State :=
  match s.nakLink e.link with
  | none => s.modIngest fun i => { i with waiting := i.waiting ++ [e] }
  | some l =>
    let s := s.modLink l fun k =>
      { k with nak := k.nak ++ [e], nakAt := if k.nak.isEmpty then s.clk else k.nakAt }
    if 64 ≤ (s.ingest.link.get l).nak.length then s.sendNak l else s

/-- NAKs that waited are decided again, as a link has come to qualify (R227). -/
def State.flushWaiting (s : State) : State :=
  let w := s.ingest.waiting
  w.foldl State.queueNak (s.modIngest fun i => { i with waiting := [] })

/-- NAKs of a series that have counted toward the budget of a sequence number. -/
def State.nakCount (s : State) (rep : Bool) (g : Nat) : Nat := ((s.nakRec rep g).map NakRec.count).getD 0

/-- Clock from which the NAK interval of a sequence number goes on running when one more NAK answers it: the budget's last NAK keeps its own (R226). -/
def State.nakKept (s : State) (rep : Bool) (g : Nat) : Option Nat :=
  match s.nakRec rep g with
  | some r => if s.obj 0x250017 ≤ r.count then r.sentAt else none
  | none => none

/-- The link that carried the latest fragment of a tile: the one given, else the one known (R227). -/
def State.latestLink (s : State) (rep : Bool) (g : Nat) (link : Option Nat) : Option Nat :=
  link.orElse fun _ => (s.nakRec rep g).bind NakRec.link

/-- Answers a sequence number by NAK, whose interval starts when it is sent; reasons FORMAT and STATE do not count (R226, R227). -/
def State.nak (s : State) (rep : Bool) (g reason : Nat) (link : Option Nat) : State :=
  let link := s.latestLink rep g link
  let counts := reason < 6
  let c := s.nakCount rep g + b2n counts
  let s := s.setNakRec rep g { count := c, sentAt := s.nakKept rep g, link := link }
  s.queueNak { rep := rep, seq := g, reason := reason, left := s.obj 0x250017 - c, link := link }

/-- The context of a tile, with its number. -/
def State.contextOf (s : State) (rep : Bool) (g : Nat) : Option (Nat × Context) :=
  s.ingest.ctx.find? fun c => c.2.rep = rep && c.2.seq = g

/-- A context is given up. -/
def State.dropContext (s : State) (i : Nat) : State := s.modIngest fun g => { g with ctx := dropKey g.ctx i }

/-- A context holds every byte of its tile. -/
def Context.full (c : Context) : Bool := (c.got.map Prod.snd).sum = c.len

/-- A context that lacks bytes is discarded, counted and answered (R221, R222). -/
def State.incomplete (s : State) (i : Nat) (c : Context) : State :=
  (((s.dropContext i).bump 0x250048).event 0x25003C 6).nak c.rep c.seq 5 (some c.link)

/-- Sequence number `g` is missing (R225). -/
def State.missing (s : State) (g : Nat) : Bool :=
  !s.marked g && (s.contextOf false g).isNone &&
    s.ingest.marks.any fun m => !m.2.lost && (decide (g + s.obj 0x250014 ≤ m.1) ||
      (decide (g < m.1) && decide (m.2.since + s.obj 0x250015 * 500 ≤ s.clk)))

/-- The sequence numbers found missing that no NAK has named yet are answered (R225). -/
def State.nakMissing (s : State) : State :=
  let f := s.freeRow * s.rowTiles
  let top := s.ingest.marks.foldl (fun a m => max a m.1) 0
  (List.range' f (top - f)).foldl (fun s g =>
    if s.missing g && s.nakCount false g = 0 then s.nak false g 1 none else s) s

/-- Fills the place of a tile with zeros, where a slot holds its row (R240). -/
def State.zeroTile (s : State) (g : Nat) : State :=
  let t := s.tileOf g
  let a := s.tileAddr false t.1 t.2.1 t.2.2
  if s.freeRow ≤ t.1 ∧ t.1 ≤ s.limitRow ∧ s.ingestHolds a (rawSize s.inputMode t.2.2) then
    s.clearBytes a (rawSize s.inputMode t.2.2)
  else s

/-- Declares a job tile lost; HOLD under action 1 is the caller's (R240). -/
def State.loseTile (s : State) (g : Nat) : State :=
  let t := s.tileOf g
  let s := match s.contextOf false g with
    | some (i, _) => s.dropContext i
    | none => s
  let s := (s.zeroTile g).modIngest fun i => { i with
    marks := putKey i.marks g { lost := true, since := s.clk }, naks := dropKey i.naks g, lost := i.lost + 1 }
  let s := ((s.bump 0x250049).event 0x25003C 7).raise 146 0xFF 0
  s.setObj 0x25003B (t.1 + t.2.2 <<< 24 + t.2.1 <<< 29)

/-- Releases the oldest row (R238). -/
def State.releaseRow (s : State) : State :=
  let top := (s.freeRow + 1) * s.rowTiles
  let s := s.modIngest fun i => { i with
    marks := i.marks.filter fun m => decide (top ≤ m.1),
    naks := i.naks.filter fun m => decide (top ≤ m.1),
    ctx := i.ctx.filter fun c => c.2.rep || decide (top ≤ c.2.seq) }
  let s := s.setObj 0x250035 ((s.freeRow + 1) % 2 ^ 32)
  (s.ingest.marks.filter fun m => m.2.lost && m.1 / max 1 s.rowTiles = s.limitRow).foldl (fun s m => s.zeroTile m.1) s

/-- Every column has fired or blanked the last line of a row, and under filter 1 in mode 0 render has passed the line that reads it (R238). -/
def State.rowDone (s : State) : Bool :=
  let r := s.freeRow
  let past := (List.finRange 16).all fun n => !s.portEnabled n.val || s.columnsPast n (256 * r + 255)
  let render := s.renderedPorts.all fun n =>
    decide (0 < lineDiff (s.obj (0x240060 + n.val)) (256 * (r + 1))) || match (s.render.port.get n).busy with
      | some l => l.line = 256 * (r + 1) % 2 ^ 32
      | none => false
  s.inJobState && past && (!(s.inputMode = 0 && s.obj 0x240002 = 1) || render)

end Sys2Proof.Machine
end

