-- ==== Sys2Proof/Machine/StackMap.lean ====
section
/-! DEFINITION. The stack's geometry, its address maps, and what a job boundary does to them (R461 to R465, R512 to R520). -/

namespace Sys2Proof.Machine

/-- Pages that a channel counts (R512). -/
def State.pageCount (s : State) : Nat := 8 * s.chanPages

/-- Page budget of a channel (R511). -/
def State.pageBudget (s : State) : Nat := s.pageCount / 100

/-- Pages of the populated stack for the channels in service (R515, R518). -/
def State.pagesFor (s : State) (chans : Nat) : Nat :=
  (chanList chans).length * s.chanPages - s.mram.repair.pages.length

/-- Channels in service (0x2000:03). -/
def State.inService (s : State) : Nat := s.obj 0x200003

/-- Reports the populated stack for the channels that the map is built for (R518). -/
def State.setPopulated (s : State) : State :=
  let q := s.pagesFor s.stack.mapped
  (s.setObj 0x520005 q).setObj 0x200002 (q * 0x80000)

/-- The bytes of a write under its mask (R467, R475). -/
def State.putMasked (s : State) (r : StackReq) : State :=
  let s := (List.range 64).foldl (fun s i =>
    if r.mask.testBit i then s.setByte (r.addr + i) (r.data.getD i 0) else s) s
  s.modStack fun m => { m with poison := m.poison.filter fun a =>
    !(decide (r.addr ≤ a ∧ a < r.addr + 64) && decide (field r.mask (4 * ((a - r.addr) / 4)) 4 = 15)) }

/-- What a requester is told (R468, R489). -/
def State.stackReply (s : State) (r : StackReply) : State := s.modStack fun m => { m with reply := r }

/-- The thermal throttle allows a class another access in this window (R485). -/
def State.thermalOk (s : State) (ch : Chan) (cls : Nat) : Bool :=
  !s.bit 0x50000E 1 ||
    (if cls = 1 then decide (ch.ingest < 300 * s.obj 0x500009)
     else if cls = 2 then decide (ch.capture < 300 * s.obj 0x50000A) else true)

/-- A throttled class waits in a channel (R485). -/
def State.thermalWaits (s : State) (c : Fin 8) : Bool :=
  let ch := s.stack.chan.get c
  (ch.reads ++ ch.writes ++ ch.waits).any fun r => !s.thermalOk ch r.cls

/-- A wait of a throttled class is noted for its 64 us window (R485). -/
def State.noteWait (s : State) (c : Fin 8) : State :=
  if s.thermalWaits c then s.modChan c fun ch => { ch with waited := true } else s

/-- A channel's queued and waiting requests complete with an error response (R488, R516). -/
def State.failQueue (s : State) (c : Fin 8) (refused : Bool) : State :=
  let s := s.noteWait c
  let ch := s.stack.chan.get c
  let n := ch.reads.length + ch.writes.length + ch.waits.length
  let s := if refused then s.bumpN (ck8 0x500044 c) n else s
  let s := if n = 0 then s else s.stackReply .error
  s.modChan c fun ch => { ch with reads := [], writes := [], waits := [], inOrder := [], writeMode := false }

/-- What a request asks for is done at once. -/
def State.serveNow (s : State) (r : StackReq) : State :=
  if r.write then s.putMasked r else s.stackReply (.data (s.bytes r.addr 64))

/-- A channel's queued and waiting requests are served before it leaves service: no data in flight is lost (R517). -/
def State.drainQueue (s : State) (c : Fin 8) : State :=
  let ch := s.stack.chan.get c
  let order := sortBy (fun (a b : StackReq) => decide (a.id ≤ b.id)) (ch.reads ++ ch.writes ++ ch.waits)
  (order.foldl State.serveNow s).modChan c fun ch => { ch with reads := [], writes := [], waits := [], inOrder := [], writeMode := false }

/-- A channel leaves service: reported, kept in MRAM, counted and raised (R516, R517, R525). -/
def State.channelOut (s : State) (c : Fin 8) : State :=
  let s := ((s.setObj (ck8 0x500020 c) 3).setBit 0x200003 c.val false).setObj (ck8 0x51001A c)
    (putBit (putBit (s.obj (ck8 0x51001A c)) 0 false) 1 true)
  let r := s.mram.repair
  let s := s.modMram fun mr => { mr with repair := { r with channels := r.channels ||| 1 <<< c.val } }
  (((s.setBit 0x520001 0 true).bump 0x520041).event 0x520002 4).raise 164 c.val 0

/-- A RETIRING channel is retired at the boundary, once its queue has been served (R517). -/
def State.retireAtBoundary (s : State) (c : Fin 8) : State :=
  if s.bit (ck8 0x51001A c) 0 then (s.drainQueue c).channelOut c else s

/-- A job boundary: RETIRING channels leave service, and a rebuild or page copy starts where the map or the pages have changed (R515, R517, R518, R520). -/
def State.stackBoundary (s : State) : State :=
  if s.bit 0x520001 1 then s
  else
    let s := (List.finRange 8).foldl State.retireAtBoundary s
    let changed := decide (s.inService ≠ s.stack.mapped)
    if !changed && s.stack.pending.isEmpty then s
    else
      let s := ((s.setBit 0x520001 1 true).setBit 0x520001 3 false).setObj 0x520004 0
      s.modStack fun k => { k with rebuild := changed, retiring := k.pending, pending := [] }

/-- Only the bytes that satisfy a predicate on their address are kept. -/
def State.keepBytes (s : State) (p : Nat → Bool) : State :=
  { s with mem := s.mem.filter fun c => p c.1, stack := { s.stack with poison := s.stack.poison.filter p } }

/-- Size of a fixed region (R30). -/
def State.fixedSize (s : State) : Nat := match s.variant with
  | .v32A => 0x10000000
  | .v16A => 0x8000000

/-- Moves the contents of a fixed region to a new base. -/
def State.moveRegion (s : State) (old new : Nat) : State :=
  if old = new then s
  else
    let n := s.fixedSize
    let inside := s.mem.filter fun c => decide (old ≤ c.1 ∧ c.1 < old + n)
    let lost := (s.stack.poison.filter fun a => decide (old ≤ a ∧ a < old + n)).map fun a => new + (a - old)
    let s := s.keepBytes fun a => !(decide (old ≤ a ∧ a < old + n) || decide (new ≤ a ∧ a < new + n))
    (inside.foldl (fun s c => s.setByte (new + (c.1 - old)) c.2) s).modStack fun k => { k with poison := k.poison ++ lost }

/-- Fixed regions that would lie outside the populated stack move to its top (R520). -/
def State.placeRegions (s : State) : State :=
  let top := 0x1000000000 + s.populated
  let n := s.fixedSize
  let fw := s.obj 0x200019
  if fw + n ≤ top then s
  else
    let s := (s.moveRegion s.tables (top - 2 * n)).setObj 0x200018 (top - 2 * n)
    (s.moveRegion fw (top - n)).setObj 0x200019 (top - n)

/-- A rebuild keeps only the fixed regions, and every presence bit is lost (R520). -/
def State.loseRegions (s : State) : State :=
  let n := s.fixedSize
  let t := s.tables
  let f := s.obj 0x200019
  (s.keepBytes fun a => decide (a < 0x1000000000) || decide (t ≤ a ∧ a < t + n) || decide (f ≤ a ∧ a < f + n)).resetStore.clearRepeat

/-- Pages whose retirement completes enter the lists and counts (R512, R515). -/
def State.retirePages (s : State) : State :=
  let new := s.stack.retiring
  let r := s.mram.repair
  let s := s.modMram fun mr => { mr with repair := { r with pages := r.pages ++ new } }
  let s := new.foldl (fun s p => s.setObj (0x510013 + p.1 % 8 * 0x100) (s.obj (0x510013 + p.1 % 8 * 0x100) + 1)) s
  (s.setObj 0x520003 s.mram.repair.pages.length).modStack fun k => { k with retiring := [] }

/-- The map and the pages of the boundary in progress come into force (R515, R518, R520). -/
def State.boundaryDone (s : State) : State :=
  let rebuilt := s.stack.rebuild
  let s := if rebuilt then ((s.modStack fun k => { k with mapped := s.inService, rebuild := false }).setBit 0x520001 0 false)
    else s
  let s := (if rebuilt then s.retirePages.loseRegions else s.retirePages).setPopulated.placeRegions
  let s := s.keepBytes fun a => decide (a < 0x1000000000 + s.populated)
  let s := s.setBit 0x520001 1 false
  if rebuilt then (s.bump 0x520044).event 0x520002 5 else s

end Sys2Proof.Machine
end

