-- ==== Sys2Proof/Machine/Hooks.lean ====
section
/-! DEFINITION. What blocks other than the scheduler do when the engine changes state. -/

namespace Sys2Proof.Machine


/-- A counter checkpoint is requested: it starts, or follows the one in progress (R638). -/
def State.requestCheckpoint (s : State) : State :=
  if s.health.ckBusy then s.modHealth fun hl => { hl with ckAgain := true }
  else s.modHealth fun hl => { hl with ckBusy := true }

end Sys2Proof.Machine
end

