-- ==== Sys2Proof/Machine/Ops.lean ====
section
/-! DEFINITION. Engine states and what every block does when the engine changes state (R25, R116, R165, R272, R330, R576 to R586). -/

namespace Sys2Proof.Machine

/-- Address of the queue descriptor of a job line (R273, R274). -/
def State.queueDesc (s : State) (n : Fin 16) (j : Nat) : Nat :=
  s.tables + 0x03000000 + n.val * 0x8000 + j % 2048 * 0x10

/-- Address of the queue bits of a job line (R273, R274). -/
def State.queueBits (s : State) (n : Fin 16) (j : Nat) : Nat :=
  s.tables + 0x01000000 + n.val * 0x200000 + j % 2048 * 0x400

/-- Render empties the queue and the checkpoints of a port (R272). -/
def State.emptyRender (s : State) (n : Fin 16) : State :=
  let s := (s.clearBytes (s.queueDesc n 0) 0x8000).setObj (0x240060 + n.val) 0
  s.modRenderPort n fun p => { p with row := [], busy := none, ckpts := [] }

/-- Jigsaw empties the column ring of a port, and the lines of its slots, which no cycle of the job will fire, are released (R28, R330). -/
def State.emptyJigsaw (s : State) (n : Fin 16) : State :=
  (s.modJigsaw n fun p => { p with next := 0, ring := [], stopAt := none, lost := [], unqueued := [] }).modPort n fun p =>
    { p with slots := p.slots.map fun ks => (ks.1, { ks.2 with ready := false, freed := none }) }

/-- Render queues, checkpoints and column rings are emptied (R272, R330). -/
def State.emptyLines (s : State) : State :=
  (List.finRange 16).foldl (fun s n => (s.emptyRender n).emptyJigsaw n) s

/-- A port that takes part in jobs owes a flush frame, where its state allows one (R165). -/
def State.oweFlush (s : State) (n : Fin 16) : State :=
  if 1 ≤ s.portState n.val && s.portState n.val ≤ 3 then s.modPort n fun p => { p with flushDue := true } else s

/-- A Wind-up of a port ends with a result, and its port owes a flush (R165, R170). -/
def State.endWindup (s : State) (n : Fin 16) (result : Nat) : State :=
  match (s.port.get n).windup with
  | none => s
  | some _ =>
    let s := (s.setObj (pk 0x31000E n) result).event (pk 0x310009 n) 4
    let s := if s.portState n.val = 3 then s.setObj (pk 0x310001 n) 1 else s
    (s.modPort n fun p => { p with windup := none }).oweFlush n

/-- Every Wind-up ends at once (R170). -/
def State.stopWindups (s : State) : State := (List.finRange 16).foldl (fun s n => s.endWindup n 3) s

/-- No job is current on a port: fire line and boundary are at none, and no column has a line (R25, R116). -/
def State.resetFireLine (s : State) (n : Fin 16) : State :=
  ((s.modPort n fun p => { p with lines := [], placed := none, firstAt := none, prevFirst := none, prevEnd := none }).setObj
    (pk 0x32001C n) 0xFFFFFFFF).setObj (pk 0x32001D n) 0xFFFFFFFF

/-- Every port ends the job: cap faults are recorded, no events, fire lines and boundaries at none, and a flush; strobes already queued are still issued (R116, R161, R165). -/
def State.endPort (s : State) (n : Fin 16) : State :=
  let s := ((s.recordCaps n).modPort n fun p => { p with
    next := none, blanked := [], cur := p.cur.map fun c => { c with events := [] } }).oweFlush n
  let s := s.resetFireLine n
  if s.portState n.val = 2 && (s.port.get n).cur.isNone then s.setObj (pk 0x310001 n) 1 else s

/-- The FE pair of a port is in the no-fire state from clock `t` on (R116, R129, R137). -/
def State.cutFe (t : Nat) (s : State) (n : Fin 16) : State := s.modPort n fun p => { p with pulseEnd := min p.pulseEnd t }

/-- A cycle that was still firing counts as fired, and its energy is owed to the model (R166, R178, R186, log entry 128). -/
def State.countFiring (s : State) (n : Fin 16) : State :=
  match (s.port.get n).cur with
  | some c => (s.oweHeat n c).countCycle n false
  | none => s

/-- A port's FE pair is held in the no-fire state, what it had queued is dropped, and no job is current (R25, R116, R137). -/
def State.haltPort (s : State) (n : Fin 16) : State :=
  let s := (((s.countFiring n).dropCycles n).cutFe s.clk n).resetFireLine n
  if s.portState n.val = 2 then s.setObj (pk 0x310001 n) 1 else s

/-- The engine enters a state: previous state, time and STATE_CHANGE; leaving a job releases every row of the contone store (R238, R587, R601). -/
def State.setEngine (s : State) (st : Nat) : State :=
  let s := if s.inJobState && (st ≤ 1 || st = 6) then s.resetStore else s
  let s := ((s.setObj 0x5F1007 s.engineState).setObj 0x5F1006 st).setObj 0x5F100A s.sysTime
  (s.event 0x5F100C 0).eventIf (st = 5) 0x5F100C 4

/-- The job ends: the pending transfers complete, the scheduler drops its events, and render and Jigsaw are emptied (R116, R121, R272, R330). -/
def State.endJob (s : State) : State :=
  let s := (List.finRange 16).foldl State.endPort s.releaseCommit
  let s := (s.modSched fun sch => { sch with margin := 0 }).modEngine fun eng => { eng with inJob := false }
  s.emptyLines.analyserJobEnd

/-- The engine enters HOLD from its present state (R578). -/
def State.enterHold (s : State) : State :=
  (s.modEngine fun eng => { eng with heldFrom := s.engineState }).setEngine 5

/-- A hold cause puts the engine into HOLD from ARMED, PRINTING or DRAINING (R582). -/
def State.holdCause (s : State) : State :=
  if 2 ≤ s.engineState ∧ s.engineState ≤ 4 then s.enterHold else s

/-- A cause that arises in the timing clock of the entry into FAULT is recorded where its source number is lower (R586, log entry 179). -/
def State.lowerCause (s : State) (cause : Nat) : State :=
  if s.timing && s.obj 0x5F100A = s.sysTime && decide (cause < s.obj 0x5F1008) then s.setObj 0x5F1008 cause else s

/-- The engine enters FAULT with an event source as its cause (R586); cycles in progress stop with `reason` (R692). -/
def State.enterFaultWith (s : State) (cause reason : Nat) : State :=
  if s.engineState = 6 then s.lowerCause cause
  else
    let job := s.inJobState
    let s := (List.finRange 16).foldl (fun s n => (s.stopCycles n reason)) s
    let s := ((s.setEngine 6).setObj 0x5F1008 cause).event 0x5F100C 3
    let s := (s.bump 0x5F1023).releaseCommit
    let s := if job then (List.finRange 16).foldl State.oweFlush s else s
    let s := s.modSched fun sch => { sch with margin := 0 }
    (s.emptyLines.stopWindups).analyserFault.axesFault

/-- The engine enters FAULT (R586); cycles in progress are recorded ENGINE_FAULT (R692). -/
def State.enterFault (s : State) (cause : Nat) : State := s.enterFaultWith cause 8

/-- Fewer than four channels in service: reported, raised, every queued access fails, and the engine enters FAULT (R519). -/
def State.checkChannels (s : State) : State :=
  if (chanList s.inService).length < 4 && !s.bit 0x520001 2 then
    let s := (List.finRange 8).foldl (fun s c => s.failQueue c false) s
    ((s.setBit 0x520001 2 true).raise 165 255 0).enterFault 165
  else s

/-- The engine enters STANDBY (R116, R272, R330, R515). -/
def State.enterStandby (s : State) : State := (s.endJob.setEngine 1).stackBoundary.checkChannels

/-- The engine enters DISABLED, and a counter checkpoint is requested (R515, R638). -/
def State.enterDisabled (s : State) : State :=
  (((List.finRange 16).foldl State.haltPort s).emptyLines.setEngine 0).stackBoundary.checkChannels.requestCheckpoint

/-- The last line of the job, where one is set (R580). -/
def State.lastLine (s : State) : Option Nat :=
  if s.obj 0x5F1009 = 0xFFFFFFFF then none else some (s.obj 0x5F1009)

/-- Every enabled column of every enabled port has fired or blanked line `l` (R582). -/
def State.allPast (s : State) (l : Nat) : Bool :=
  (List.finRange 16).all fun n => !s.portEnabled n.val || s.columnsPast n l

/-- The render line of every rendered port is beyond line `l` (R582). -/
def State.renderPast (s : State) (l : Nat) : Bool :=
  s.renderedPorts.all fun n => lineAtOrBeyond (s.obj (0x240060 + n.val)) (l + 1)

/-- Changes of engine state without a command: DRAINING, and the end of the job (R582). -/
def State.autoEngine (s : State) : State :=
  match s.lastLine with
  | none => s
  | some l =>
    let s := if s.engineState = 3 && s.renderPast l then s.setEngine 4 else s
    let job := s.engineState = 4 || (s.engineState = 5 && (s.engine.heldFrom = 3 || s.engine.heldFrom = 4))
    if job && s.allPast l then (s.enterStandby.event 0x5F100C 1).bump 0x5F1022 else s

end Sys2Proof.Machine
end

