-- ==== Sys2Proof/Machine/ThermalOps.lean ====
section
/-! DEFINITION. Die temperatures, the die model, warming and the staged response to heat (R184 to R194). -/

namespace Sys2Proof.Machine

/-- Number of dies of a port's head, 1 to 4 in every record (R138, R139). -/
def State.dies (s : State) (n : Fin 16) : Nat := min 4 (rb (s.record n) 0x14)

/-- Reference temperature in degrees C, and whether it falls back to the fixed value (R188). -/
def State.refTemp (s : State) (n : Fin 16) : Rat × Bool :=
  let fixed := sq 16 8 (s.obj (pk 0x340004 n))
  let src := s.obj (pk 0x340003 n)
  if h : src < 4 then
    if s.obj (0x49000F + src * 0x100) = 4 then (fixed, true)
    else match (s.heater.get ⟨src, h⟩).temp with
      | some t => (t, false)
      | none => (fixed, false)
  else (fixed, false)

/-- Reads the reference temperature, keeping REF_FALLBACK (R188). -/
def State.noteRef (s : State) (n : Fin 16) : State :=
  let fb := (s.refTemp n).2
  let s := s.eventIf (fb && !s.bit (pk 0x34001A n) 5) (pk 0x34001B n) 3
  s.setBit (pk 0x34001A n) 5 fb

/-- A signed Q8.8 field of the thermal block in degrees C. -/
def State.thermalField (s : State) (n : Fin 16) (ofs : Nat) : Rat := sq 16 8 (rw16 (s.record n) ofs)

/-- T_HYST in degrees C. -/
def State.hyst (s : State) (n : Fin 16) : Rat := uq 8 (rw16 (s.record n) 0x58)

/-- Temperature of a die: T_LIMIT in SENSE_FAULT, else the greater of model and latest valid measurement; none before the model is set (R185, R187). -/
def State.dieTemp (s : State) (n : Fin 16) (d : Nat) : Option Rat :=
  let p := s.port.get n
  if p.senseFault.testBit d then some (s.thermalField n 0x56)
  else match findKey p.model d, findKey p.meas d with
    | some m, some t => some (max m t)
    | some m, none => some m
    | none, _ => none

/-- Die temperatures that are known. -/
def State.dieTemps (s : State) (n : Fin 16) : List Rat := (List.range (s.dies n)).filterMap (s.dieTemp n)

/-- The mean die temperature of a port, none where no die has one (R415). -/
def State.meanDie (s : State) (n : Fin 16) : Option Rat :=
  let t := s.dieTemps n
  if t.isEmpty then none else some (t.sum / (t.length : Rat))

/-- A port is off its calibration temperature by more than the threshold (R415). -/
def State.offCalibration (s : State) (n : Fin 16) : Bool :=
  let cal := s.obj (0x420070 + n.val)
  s.obj 0x420011 ≠ 0 && cal ≠ 0x8000 && match s.meanDie n with
  | some t =>
    let d := t - sq 16 8 cal
    decide (uq 8 (s.obj 0x420011) < d ∨ d < -uq 8 (s.obj 0x420011))
  | none => false

/-- Keeps the clock since which a port has been off its calibration temperature without a break (R415). -/
def State.noteOff (s : State) (n : Fin 16) : State :=
  let off := s.offCalibration n
  s.modPort n fun p => { p with offAt := if off then some (p.offAt.getD s.clk) else none }

/-- Calibration temperature of a port: its mean die temperature now (R415). -/
def State.calibrate (s : State) (n : Fin 16) : State :=
  (s.setObj (0x420070 + n.val) (match s.meanDie n with
    | some t => toBits 16 (clampI (-32768) 32767 (roundQ 8 t))
    | none => 0x8000)).noteOff n

/-- Sets the model temperature of a die at the present clock. -/
def State.setModel (s : State) (n : Fin 16) (d : Nat) (t : Rat) : State :=
  s.modPort n fun p => { p with model := putKey p.model d t, modelAt := putKey p.modelAt d s.clk }

/-- The model temperature after energy `e` in nJ at the present clock (R186). -/
def State.modelStep (s : State) (n : Fin 16) (d : Nat) (t e : Rat) : Rat :=
  let r := s.record n
  let dt : Rat := ((s.clk - storeGet (fun _ => s.clk) (s.port.get n).modelAt d) * 2 : Nat)
  let rth := uq 8 (rw16 r 0x4C)
  t + (e - (t - (s.refTemp n).1) / rth * dt) / ((rw16 r 0x4E * 1000000 : Nat) : Rat)

/-- Reports the temperatures of a port's dies, and notes whether they are off the calibration (R207, R415). -/
def State.reportDies (s : State) (n : Fin 16) : State :=
  (List.range 4).foldl (fun s d => match s.dieTemp n d with
    | some t => if d < s.dies n then s.setObj (pk 0x34000A n + d) (toBits 16 (clampI (-32768) 32767 (roundQ 8 t))) else s
    | none => s) (s.noteOff n)

/-- The limit latch of a port sets (R194). -/
def State.limitLatch (s : State) (n : Fin 16) : State :=
  if s.bit (pk 0x34001A n) 3 then s
  else
    let s := ((s.setBit (pk 0x34001A n) 3 true).event (pk 0x34001B n) 1).bump (pk 0x340021 n)
    let s := s.raise 142 n.val 0
    if s.obj (pk 0x30000A n) = 0 then s.enterFault 142 else s

/-- The stages of the response to heat are entered and left (R191, R193). -/
def State.thermalStages (s : State) (n : Fin 16) : State :=
  let s := s.reportDies n
  let ts := s.dieTemps n
  let off := s.thermalField n 0x52
  let warn := s.thermalField n 0x54
  let lim := s.thermalField n 0x56
  let h := s.hyst n
  let st := pk 0x34001A n
  let s := if ts.any fun t => decide (off ≤ t) then s.setBit st 1 true
    else if ts.all fun t => decide (t < off - h) then s.setBit st 1 false else s
  let s := if ts.any fun t => decide (warn ≤ t) then
      (if s.bit st 2 then s else ((s.setBit st 2 true).event (pk 0x34001B n) 0).bump (pk 0x340020 n))
    else if ts.all fun t => decide (t < warn - h) then s.setBit st 2 false else s
  if (ts.any fun t => decide (lim ≤ t)) || (s.port.get n).senseFault ≠ 0 then s.limitLatch n else s

/-- Updates the models of every die of an enabled port with the energy in nJ of each die, and what stopped cycles have left (R186, R692). -/
def State.updateModels (s : State) (n : Fin 16) (fresh : Nat → Rat) : State :=
  let heat := (s.port.get n).heat
  let energy := fun d => fresh d + storeGet (fun _ => 0) heat d
  let s := (s.noteRef n).modPort n fun p => { p with heat := [] }
  let s := (List.range (s.dies n)).foldl (fun s d =>
    let s := s.modPort n fun p => { p with
      energy := if energy d = 0 then p.energy else p.energy ++ [(s.clk, d, energy d)] }
    match findKey (s.port.get n).model d with
    | some t => s.setModel n d (s.modelStep n d t (energy d))
    | none => s) s
  s.thermalStages n

/-- WARM of the next frame, decided from the die temperatures (R191). -/
def State.warmNext (s : State) (n : Fin 16) : Bool :=
  let ts := s.dieTemps n
  let set := s.thermalField n 0x50
  if s.obj (pk 0x340002 n) ≠ 1 || s.obj (pk 0x340001 n) = 0 || s.bit (pk 0x34001A n) 1 then false
  else if ts.any fun t => decide (t < set - s.hyst n) then true
  else if ts.all fun t => decide (set ≤ t) then false
  else (s.port.get n).warm

/-- A conversion of the sense input starts at the present clock (R172). -/
def State.startConversion (s : State) (n : Fin 16) : State :=
  s.modPort n fun p => { p with tsAt := some s.clk }

/-- The thermal block of a port starts afresh at an enable (R185, R189, R195). -/
def State.thermalEnable (s : State) (n : Fin 16) : State :=
  let s := s.setObj (pk 0x34001A n) 0
  let s := (List.range 4).foldl (fun s d => s.setObj (pk 0x34000E n + d) 0x8000) s
  s.modPort n fun p => { p with
    model := [], modelAt := [], meas := [], invalid := [], senseFault := 0, energy := [], heat := [], offAt := none,
    warm := false, enabledAt := s.clk, tsAt := none, die := s.dies n - 1 }

/-- The thermal block of a disabled port does not act: its stages end, but the limit latch and SENSE_FAULT stay until the next enable (R185, R193, R195, R204). -/
def State.thermalDisable (s : State) (n : Fin 16) : State :=
  s.setObj (pk 0x34001A n) (s.obj (pk 0x34001A n) &&& 0x18)

end Sys2Proof.Machine
end

