-- ==== Sys2Proof/Machine/Commit.lean ====
section
/-! DEFINITION. COMMIT of the shadow set, its images and CRCs, and the squash of render (R117 to R127, R276 to R281). -/

namespace Sys2Proof.Machine

/-- Input mode 2: screened bits (R219). -/
def State.bitMode (s : State) : Bool := s.obj 0x250011 = 2

/-- The shadow image of a port, objects in ascending index and sub-index (R126). -/
def State.shadowImage (s : State) (n : Fin 16) : Bytes :=
  s.bytes (s.gainShadow n) (s.gainLen n) ++
  leBytes 2 (s.obj (pk 0x300003 n)) ++ leBytes 2 (s.obj (pk 0x300004 n)) ++ leBytes 2 (s.obj (pk 0x300005 n)) ++
  (List.range 8).flatMap (fun k => leBytes 1 (s.obj (pk 0x320009 n + k))) ++ s.shadowMap n

/-- The in-force image of a port (R126). -/
def State.forceImage (s : State) (n : Fin 16) : Bytes :=
  s.bytes (s.gainForce n) (s.gainLen n) ++
  leBytes 2 (s.obj (pk 0x310006 n)) ++ leBytes 2 (s.obj (pk 0x310007 n)) ++ leBytes 2 (s.obj (pk 0x310008 n)) ++
  (List.range 8).flatMap (fun k => leBytes 1 (s.obj (pk 0x320011 n + k))) ++ s.forceMap n

/-- Shadow CRC (R126). -/
def State.shadowCrc (s : State) : Nat := crc32c ((List.finRange 16).flatMap s.shadowImage)

/-- In-force CRC (R126). -/
def State.forceCrc (s : State) : Nat := crc32c ((List.finRange 16).flatMap s.forceImage)

/-- Bytes of the error row of a checkpoint of a port (R276). -/
def State.rowBytes (s : State) (n : Fin 16) : Nat :=
  if s.bitMode then 0 else (3 * s.planes n * (s.spanWidth n + 128) + 127) / 128 * 64

/-- Address of the checkpoint slot of boundary `b` (R274, R276). -/
def State.ckptAddr (s : State) (n : Fin 16) (b : Nat) : Nat :=
  s.tables + 0x03080000 + n.val * 0x40000 + b / 256 % 16 * 0x4000

/-- Entries of an error row as signed 12-bit fields of a little-endian bit string (R276). -/
def packRow : List Int → Bytes
  | [] => []
  | [a] => leBytes 2 (toBits 12 a)
  | a :: b :: t => leBytes 3 (toBits 12 a + toBits 12 b <<< 12) ++ packRow t

/-- The first `n` entries of a packed error row. -/
def unpackRow (r : Bytes) (n : Nat) : List Int :=
  (List.range n).map fun i => sx 12 (field (leAt r (i / 2 * 3) 3) (12 * (i % 2)) 12)

/-- Entries of an error row of a port: each plane slot over the span and both warm-ups (R254). -/
def State.rowLen (s : State) (n : Fin 16) : Nat := s.planes n * (s.spanWidth n + 128)

/-- The checkpoint of boundary `b` can be used (R277, R278). -/
def State.ckptUsable (s : State) (n : Fin 16) (b : Nat) : Bool :=
  let a := s.ckptAddr n b
  (s.render.port.get n).ckpts.contains b && decide (lineDiff (s.obj (0x240060 + n.val)) b < 4096) &&
    s.num a 4 = b && s.num (a + 4) 1 = n.val &&
    s.num (a + 0x10) 4 = crc32c (s.bytes (a + 0x40) (s.num (a + 0xA) 2))

/-- Render restores the error row of boundary `b`, from zero where the checkpoint is unusable (R278). -/
def State.restoreRow (s : State) (n : Fin 16) (b : Nat) (readError : Bool) : State :=
  if s.ckptUsable n b && !readError then
    let row := if s.bitMode then [] else unpackRow (s.bytes (s.ckptAddr n b + 0x40) (s.rowBytes n)) (s.rowLen n)
    s.modRenderPort n fun p => { p with row := row }
  else
    ((s.modRenderPort n fun p => { p with row := [] }).bump 0x24008A).event 0x240013 9 |>.raise 147 n.val b

/-- Clears VALID in the queue descriptors of lines `b` to `b + k - 1` (R280). -/
def State.unqueue (s : State) (n : Fin 16) (b : Nat) : Nat → State
  | 0 => s
  | k + 1 =>
    let a := s.queueDesc n (b + k) + 9
    (s.setNum a 1 (putBit (s.num a 1) 0 false)).unqueue n b k

/-- Render has started a line at or beyond `b` (R279). -/
def State.startedBeyond (s : State) (n : Fin 16) (b : Nat) : Bool :=
  decide (0 < lineDiff (s.obj (0x240060 + n.val)) b) || match (s.render.port.get n).busy with
    | some l => lineAtOrBeyond l.line b
    | none => false

/-- The locked gain table or map of a port differs from its counterpart in force (R279). -/
def State.renderSetDiffers (s : State) (n : Fin 16) : Bool :=
  s.bytes (s.gainShadow n) (s.gainLen n) ≠ s.bytes (s.gainForce n) (s.gainLen n) ||
    s.shadowMap n ≠ s.forceMap n

/-- Render squashes a port at boundary `b` (R280). -/
def State.squashPort (s : State) (n : Fin 16) (b : Nat) (readError : Bool) : State :=
  let lines := (lineDiff (s.obj (0x240060 + n.val)) b).toNat
  let s := s.modRenderPort n fun p => { p with
    lastSquash := b, busy := p.busy.filter fun l => !lineAtOrBeyond l.line b }
  let s := ((s.unqueue n b (min lines 2048)).bumpN 0x240081 lines).setObj (0x240060 + n.val) b
  ((s.restoreRow n b readError).bump 0x240080).event 0x240013 0

/-- Boundary of a port whose fire line is the one of the arm clock (R118). -/
def State.newBoundary (s : State) (n : Fin 16) : Nat :=
  let d := s.obj 0x230005
  let f := s.obj (pk 0x32001C n)
  let x := if f = 0xFFFFFFFF then d - 1 else f + d
  256 * ((x + 255) / 256) % 2 ^ 32

/-- The commit is refused with a result (R124). -/
def State.refuseCommit (s : State) (result : Nat) : State :=
  ((s.setObj 0x230013 result).event 0x230019 2).bump 0x230026

/-- The transfer of a port becomes pending at its boundary, and render squashes it where R279 says so. -/
def State.armPort (ckptErr : Nat) (s : State) (n : Fin 16) : State :=
  let b := s.newBoundary n
  let s := (s.setObj (pk 0x32001D n) b).setBit (pk 0x32001F n) 3 true
  if s.renderSetDiffers n && s.startedBeyond n b then s.squashPort n b (ckptErr.testBit n.val) else s

/-- Ports whose gains the applied results that wait for a commit change: results with action 2 (R415, R416, R419). -/
def State.gainPorts (s : State) : List (Fin 16) :=
  let gains := s.analyser.awaiting.flatMap fun e =>
    if s.inRing e && s.num (s.resultAddr e + 0x13) 1 = 2 then ((findKey s.analyser.actions e).map Repair.gains).getD [] else []
  (List.finRange 16).filter fun n => gains.any fun g => g.1 = n.val

/-- The commit of a gain batch is armed: the ports whose gains it changes take their calibration temperature (R415). -/
def State.calibrateArmed (s : State) : State :=
  s.gainPorts.foldl (fun s n => (s.calibrate n).modAnalyser fun a => { a with batched := putBit a.batched n.val true }) s

/-- Locks the shadow set, and transfers it at once in STANDBY (R118, R123). -/
def State.lockSet (s : State) (ckptErr : Nat) : State :=
  let s := s.calibrateArmed
  let s := ((s.setObj 0x230012 1).setObj 0x230014 ((s.obj 0x230014 + 1) % 2 ^ 32)).setObj 0x230013 1
  if s.engineState = 1 then ((List.finRange 16).foldl State.transfer s.noteArmed).commitDone
  else ((List.finRange 16).foldl (State.armPort ckptErr) s).noteArmed

/-- The result that refuses a commit, with its abort (R124). -/
def State.commitRefusal (s : State) : Option (Nat × Nat) :=
  if s.engineState = 0 || s.engineState = 6 then some (5, 0x08000022)
  else if s.obj 0x230012 = 1 then some (3, 0x08000022)
  else if s.obj 0x230011 ≠ 0 && s.obj 0x230011 ≠ s.shadowCrc then some (4, 0x08000020)
  else none

/-- Arms COMMIT; `ckptErr` marks the ports whose checkpoint read ends with an error response (R118, R124, R278). -/
def commitOp (ckptErr : Nat) (s : State) : Answer :=
  match s.commitRefusal with
  | some (result, abort) => (some abort, s.refuseCommit result)
  | none => (none, s.lockSet ckptErr)

/-- Abort of a write to a field of the locked shadow set (R119). -/
def State.locked (s : State) : Bool := s.obj 0x230012 = 1

/-- Notes a write refused because the shadow set is locked (R119). -/
def State.lockedWrite (s : State) : State := (s.bump 0x230023).event 0x230019 0

end Sys2Proof.Machine
end

