-- ==== Sys2Proof/Machine/Walk.lean ====
section
/-! DEFINITION. The check of the bar against its walk plan (R292, R293). -/

namespace Sys2Proof.Machine

/-- The print has walked off its plan: counted, raised, and HOLD under walk error action 1 (R293). -/
def State.walkError (s : State) (detail : Nat) : State :=
  let s := ((s.event 0x240013 5).bump 0x240086).raise 148 0xFF detail
  if s.obj 0x240008 = 1 then s.holdCause else s

/-- The check of a good bar sample against the plan at the web position of its clock (R293). -/
def State.walkCheck (s : State) : State :=
  if s.obj 0x240005 = 1 && 3 ≤ s.engineState && s.engineState ≤ 5 && s.barValid then
    let y := s.position.barY
    if (sx 32 (s.obj 0x220040) - s.walkPlan y).natAbs > s.obj 0x240007 * 256 then s.walkError 0 else s
  else s

end Sys2Proof.Machine
end

