-- ==== Sys2Proof/Machine/CamTrig.lean ====
section
/-! DEFINITION. The camera triggers: targets, pulses and their latches (R345 to R347). -/

namespace Sys2Proof.Machine

/-- Key of instance `c` of a camera object. -/
def ck (k : Key) (c : Fin 2) : Key := k + c.val * 0x100

/-- A camera's hidden state is changed. -/
def State.modCamera (s : State) (c : Fin 2) (f : Camera → Camera) : State :=
  { s with camera := s.camera.set c (f (s.camera.get c)) }

/-- The latch of the present timing clock (R345). -/
def State.tagNow (s : State) : Tag :=
  { pos := s.extrapolated s.clk, time := s.sysTime, posValid := s.originValid && s.extrapValid,
    dcSync := s.obj 0x200021 = 2 }

/-- Target of trigger `k`, Q32.16 lines (R346). -/
def State.trigTarget (s : State) (c : Fin 2) (k : Nat) : Nat :=
  (s.obj (ck 0x40000D c) + k * s.obj (ck 0x40000C c)) % 2 ^ 48

/-- k restarts at the smallest value whose target is at or beyond the extrapolated web position (R346). -/
def State.restartTrigger (s : State) (c : Fin 2) : State :=
  let d := posDiff (s.extrapolated s.clk) (s.obj (ck 0x40000D c))
  let p := s.obj (ck 0x40000C c)
  s.modCamera c fun q => { q with trigK := if d ≤ 0 ∨ p = 0 then 0 else (d.toNat + p - 1) / p }

/-- Both cameras' triggers restart at a job origin (R346). -/
def State.restartTriggers (s : State) : State := (s.restartTrigger 0).restartTrigger 1

/-- A job origin is latched: the triggers restart, and the frames that have begun belong to the origin before (R346, R424). -/
def State.cameraOrigin (s : State) : State :=
  (List.finRange 2).foldl (fun s c => s.modCamera c fun q => { q with jobNo := q.frameNo }) s.restartTriggers

/-- A trigger is due: the pin rises, or a trigger is missed while it is high (R346). -/
def State.pulse (s : State) (c : Fin 2) : State :=
  if (s.camera.get c).trigEnd.isSome then (s.bump (ck 0x40004C c)).event (ck 0x400027 c) 10
  else s.modCamera c fun q => { q with
    trigEnd := some (s.clk + s.obj (ck 0x40000E c) * 500), edge := some s.tagNow, edges := q.edges + 1 }

/-- The extrapolated web position reaches the next target (R346). -/
def State.webTrigger (s : State) (c : Fin 2) : State :=
  let k := (s.camera.get c).trigK
  if s.timing && s.obj (ck 0x40000B c) = 1 && s.originValid && s.obj (ck 0x40000C c) ≠ 0 &&
      atOrBeyond (s.extrapolated s.clk) (s.trigTarget c k) then
    (s.modCamera c fun q => { q with trigK := k + 1 }).pulse c
  else s

end Sys2Proof.Machine
end

