-- ==== Sys2Proof/Machine/Position.lean ====
section
/-! DEFINITION. The position unit: web encoder, tracking loop, extrapolation, Yo-yo guard, latches and bar encoder (02_web_position.md, R41 to R93). -/

namespace Sys2Proof.Machine

/-- Brings the high-water mark and GUARD_ACTIVE to the present clock, counting a new guard episode (R68, R69). -/
def State.guardSync (s : State) : State :=
  let x := s.extrapolated s.clk
  if atOrBeyond x (s.obj 0x220013) then
    let s := (s.setObj 0x220013 x).setBit 0x220015 4 false
    s.modPosition fun pos => { pos with reversed := false }
  else if s.bit 0x220015 4 then s
  else (s.setBit 0x220015 4 true).bump 0x220052

/-- The objects that the passing of time may write: the high-water mark, the position status, the guard episodes, and each axis's step delays and events (R68, R434). -/
def timeKeys : List Key :=
  [0x220013, 0x220015, 0x220052, 0x480035, 0x480135, 0x480235, 0x480335, 0x480045, 0x480145, 0x480245, 0x480345]

/-- Time passes to clock `t` in the timing domain: the step generators run and the guard follows (R68, R434). -/
def State.tick (s : State) (t : Nat) : State := if s.timing then ((s.passSteps t).at t).guardSync else s.at t

/-- Records a latch of source `l` with a position and the system time of clock `t` (R71, R74). -/
def State.latch (s : State) (l pos t : Nat) : State :=
  let time := (s.sysTime + 2 ^ 64 - 2 * (s.clk - t)) % 2 ^ 64
  let s := (s.setObj (0x220020 + 2 * l) pos).setObj (0x220021 + 2 * l) time
  s.setObj (0x220028 + l) ((s.obj (0x220028 + l) + 1) % 2 ^ 32)

/-- Velocity 0, EXTRAP_VALID clear and no interval from the next edge (R64). -/
def State.unseed (s : State) : State :=
  let s := (s.setBit 0x220015 2 false).setObj 0x220014 0
  s.modPosition fun pos => { pos with vel := 0, seed := none, seeded := false, loops := 0 }

/-- Counting stops and the positions are held, as for a wire fault on A or B; the fault goes to the fault manager and a running engine enters FAULT (R45, R53). The velocity becomes 0, which the rules do not say (DESIGN CHOICE, log entry 118). -/
def State.stopCounting (s : State) (source inst : Nat) : State :=
  let s := s.mastersLost
  let raw := s.rawExtrap s.clk
  let before := s.extrapValid
  let s := if s.bit 0x220015 6 then s
    else ((s.keepTrack s.clk).unseed.modPosition fun pos => { pos with heldAt := some raw }).modeSync before
  let s := ((s.setBit 0x220015 5 false).setBit 0x220015 6 true).setBit 0x220015 0 false
  let s := s.raise source inst 0
  if s.inJobState then s.enterFault source else s

/-- A pair is in disagreement in a timing clock: its two single-ended samples are equal, or the differential receiver differs from the P pin (R43). -/
def disagrees (x : PairSample) : Bool := x.p == x.n || x.d != x.p

/-- A pair has been in disagreement for 200 consecutive timing clocks: its samples, latest last (R43). -/
def wireBroken (l : List PairSample) : Bool := 200 ≤ l.length && (l.drop (l.length - 200)).all disagrees

/-- WIRE_FAULT: the samples of a pair of ENC_A, or of ENC_B, up to clock `t`, in disagreement for 200 timing clocks (R43, R45). -/
def execWireFault (pairB : Bool) (samples : List PairSample) (t : Nat) (s : State) : Host.Outcome State Fault Refusal :=
  let i := b2n pairB
  let declared := if pairB then s.position.faultB else s.position.faultA
  .next <| State.settle <|
    if wireBroken samples && s.timing && s.obj 0x220001 = 1 && s.bit 0x220006 i && !declared then
      let s := s.tick t
      let s := s.modPosition fun pos => { pos with
        faultA := s.position.faultA || !pairB, faultB := s.position.faultB || pairB }
      ((s.event 0x220016 (1 + i)).bump 0x220051).stopCounting 134 i
    else s

/-- WIRE_Z: the samples of the pair of ENC_Z up to clock `t`, in disagreement for 200 timing clocks (R43, R46). -/
def execWireZ (samples : List PairSample) (t : Nat) (s : State) : Host.Outcome State Fault Refusal :=
  .next <| State.settle <|
    if wireBroken samples && s.timing && s.obj 0x220001 = 1 && s.bit 0x220006 2 && !s.position.faultZ then
      let s := s.tick t
      let s := s.modPosition fun pos => { pos with faultZ := true }
      (s.event 0x220016 3).bump 0x220051
    else s

/-- Refusal of an encoder or bar write, with CONFIG_ERR (R61, R62, R83). -/
def State.configErr (s : State) (code : Nat) : Answer := (some code, s.setBit 0x220015 10 true)

/-- The check of R60: writes are taken only in DISABLED and STANDBY. -/
def State.idleEngine (s : State) : Bool := s.engineState ≤ 1

/-- The pairs A, B and Z in disagreement, one bit each (R43, R47). -/
def badPairs (a b z : PairSample) : Nat := b2n (disagrees a) + 2 * b2n (disagrees b) + 4 * b2n (disagrees z)

/-- Enables counting from the levels `a` and `b`; `bad` marks the pairs A, B and Z in disagreement (R47, R51, R62, R64). The object 0x2200:01 counts as ENC_CTRL, so an accepted SDO write clears CONFIG_ERR too (DEDUCED, log entry 126). -/
def encoderEnableOp (a b : Bool) (bad : Nat) (s : State) : Answer :=
  if !s.idleEngine then s.refuse 0x08000022
  else if bad &&& s.obj 0x220006 ≠ 0 then s.configErr 0x08000022
  else if s.ratio = 0 then s.configErr 0x06090030
  else
    let clear := s.position.clearArmed
    let s := (s.keepTrack s.clk).unseed.modeSync s.extrapValid
    let p := s.position
    let s := s.modPosition fun pos => { pos with
      a := a, b := b, dir := none, edgeAt := s.clk, clearArmed := false,
      faultA := p.faultA && !clear, faultB := p.faultB && !clear, faultZ := p.faultZ && !clear,
      heldAt := if clear then none else p.heldAt }
    let s := if clear then s.setBit 0x220015 6 false else s
    let s := s.setObj 0x220001 1
    ((s.setBit 0x220015 0 (!s.bit 0x220015 6)).setBit 0x220015 10 false).accept

/-- ENCODER_ENABLE with the accepted levels of A and B and the samples of the three pairs (R62). -/
def execEncoderEnable (via : Via) (a b : Bool) (pairA pairB pairZ : PairSample) (t : Nat) (s : State) :
    Host.Outcome State Fault Refusal :=
  .next <| State.settle <| (s.tick t).access via 0x220001 (encoderEnableOp a b (badPairs pairA pairB pairZ))

/-- Stops the encoder; the next enable clears declared wire faults (R47). -/
def encoderDisableOp (s : State) : Answer :=
  if !s.idleEngine then s.refuse 0x08000022
  else
    let s := (s.setObj 0x220001 0).setBit 0x220015 0 false
    ((s.modPosition fun pos => { pos with clearArmed := true }).setBit 0x220015 10 false).accept

/-- ENCODER_DISABLE (R47). -/
def execEncoderDisable (via : Via) (t : Nat) (s : State) : Host.Outcome State Fault Refusal :=
  .next <| State.settle <| (s.tick t).access via 0x220001 encoderDisableOp

/-- The gain min(1, 2 zeta wn dt) of the loop in Q32 for a bandwidth in Hz and an interval in timing clocks (R63). -/
def loopGain (bw dt : Nat) : Nat :=
  min (2 ^ 32) (1414 * 2 * 3141592653589793 * bw * dt * 2 * 2 ^ 32 / (10 ^ 3 * 10 ^ 15 * 10 ^ 9))

/-- The gain min(1/dt, wn^2 dt) of the loop in Q32 per second (R63). -/
def loopVelGain (bw dt : Nat) : Nat :=
  min (500000000 * 2 ^ 32 / max dt 1)
    ((2 * 3141592653589793 * bw) ^ 2 * dt * 2 * 2 ^ 32 / (10 ^ 30 * 10 ^ 9))

/-- One correction of the tracking loop at an edge stamped `te`, after the accumulator has moved (R63). -/
def State.loopStep (s : State) (te : Nat) : State :=
  let p := s.position
  let dt := te - p.te
  let xp := (p.est : Int) + Int.fdiv (p.vel * dt * 2) 1000000000
  let e := sx 64 (toBits 64 ((p.acc : Int) - xp))
  let x := xp + floorShift (loopGain (s.obj 0x22000A) dt * e) 32
  let v := p.vel + floorShift (loopVelGain (s.obj 0x22000A) dt * e) 32
  let n := p.loops + 1
  let s := s.modPosition fun pos => { pos with est := toBits 64 x, vel := v, loops := n }
  s.setObj 0x220014 (toBits 32 (floorShift v 24 + clampI (-2) 2 (Config.velocityRound n)))

/-- What a counting edge stamped `te` in direction `back` does to the loop (R63, R64). -/
def State.trackEdge (s : State) (back : Bool) (te : Nat) : State :=
  let p := s.position
  let turned := match p.dir with
    | some d => d != back
    | none => false
  if turned then
    let s := s.unseed
    s.modPosition fun pos => { pos with seed := some te }
  else
    match p.seed, p.seeded with
    | none, false => s.modPosition fun pos => { pos with seed := some te }
    | some t0, false =>
      let v : Int := (s.ratio * 500000000 : Nat) / (max 1 (te - t0) : Nat)
      let v := if back then -v else v
      let s := s.modPosition fun pos => { pos with
        vel := v, est := p.acc, seeded := true, loops := 0 }
      (s.setObj 0x220014 (toBits 32 (floorShift v 24))).setBit 0x220015 2 (!back)
    | _, true => s.loopStep te

/-- The direction of an accepted transition from the reference levels: true for backward (R51). -/
def edgeBack (a b onA inv : Bool) : Bool :=
  let forward := if onA then (!a) != b else (!b) == a
  forward == inv

/-- Applies one counting edge on A or B accepted at clock `t`: count, accumulator, loop, peak error, reversal and the edge latch, and the step generators run in that clock (R51 to R71, R433).
The answer also tells whether the scheduler must check its pending events: a forward edge accepted while EXTRAP_VALID was 1 (R102). -/
def State.countEdge (s : State) (onA : Bool) (t : Nat) : Bool × State :=
  let moves := decide (s.clk < t) && !(List.finRange 4).all s.stepsQuiet
  let s := ((s.tick (t - 1)).at t).keepTrack t
  let te := t - (s.obj 0x220003 + 2)
  let p := s.position
  let back := edgeBack p.a p.b onA (s.obj 0x220002 = 1)
  let checked := s.extrapValid && !back
  let before := s.extrapolated (te - 1)
  let s := s.setObj 0x220017 ((s.obj 0x220017 + if back then 0xFFFFFFFF else 1) % 0x100000000)
  let acc := if back then (p.acc + 2 ^ 64 - s.ratio) % 2 ^ 64 else (p.acc + s.ratio) % 2 ^ 64
  let s := s.modPosition fun pos => { pos with
    acc := acc, a := p.a != onA, b := p.b != !onA, edgeAt := t }
  let s := (s.setBit 0x220015 3 false).setBit 0x220015 1 back
  let s := s.trackEdge back te
  let s := s.modPosition fun pos => { pos with te := te, dir := some back }
  let s := if s.position.sync0At = some t ∧ s.bit 0x220007 3 then s.setObj 0x220026 (s.extrapolated t) else s
  let s := if checked then
      let err := (posDiff s.measured before).natAbs
      s.setObj 0x220019 (max (s.obj 0x220019) (min (2 ^ 32 - 1) err))
    else s
  let s := s.guardSync
  let behind := posDiff (s.obj 0x220013) s.measured
  let s := if behind > (s.obj 0x22000B * 65536 : Nat) && !s.position.reversed then
      let s := s.modPosition fun pos => { pos with reversed := true }
      ((s.event 0x220016 6).bump 0x220053).raise 136 0xFF 0
    else s
  let s := s.latch 0 s.measured te
  let s := (List.finRange 4).foldl State.renewAnchor s
  (checked, if moves then s.stepAll else s)

/-- The illegal transition budget is judged (R53). -/
def State.illegalBudget (s : State) : State :=
  if s.position.illegal > s.obj 0x22000C then (s.event 0x220016 4).stopCounting 135 0xFF else s

/-- An illegal transition in the clock `t`; axes that lose their master by it stop from the velocity they have (R52, R53, R451). -/
def State.illegalStep (s : State) (t : Nat) : State :=
  let before := s.extrapValid
  let s := s.tick t
  let s := if s.obj 0x22000C ≤ s.position.illegal then s.mastersLost else s
  let s := (s.keepTrack t).unseed.modeSync before
  let s := s.modPosition fun pos => { pos with
    a := !s.position.a, b := !s.position.b, illegal := s.position.illegal + 1 }
  ((s.event 0x220016 0).bump 0x220050).guardSync.illegalBudget

/-- The filter accepts a level that its synchronised line has held for `held` timing clocks after the clock in which it first appeared (R48). -/
def State.accepts (s : State) (held : Nat) : Bool := s.obj 0x220003 ≤ held

/-- ILLEGAL_TRANSITION: A and B accepted at new levels in one timing clock, each held for `held` clocks (R48, R52, R53). -/
def execIllegalTransition (held t : Nat) (s : State) : Host.Outcome State Fault Refusal :=
  .next (State.settle (if s.counting && s.accepts held then s.illegalStep t else s))

/-- The clock in which a level accepted at clock `t` reached the synchroniser input (R49). -/
def State.stamp (s : State) (t : Nat) : Nat := t - (s.obj 0x220003 + 2)

/-- The clock in which an edge of LATCH_IN accepted at clock `t` reached the synchroniser input: two stages and a filter of 2 clocks earlier (R73). -/
def latchInStamp (t : Nat) : Nat := t - 4

/-- The fixed filter of LATCH_IN accepts a level held for 2 timing clocks (R73). -/
def latchInAccepts (held : Nat) : Bool := 2 ≤ held

/-- The raw count `n` at a Z event differs from that at the Z event before by another number than counts per Z (R54). The event before may lie before a Z_EN of 0, a fault on ENC_Z or an enable (DESIGN CHOICE, log entry 119). -/
def State.zMismatch (s : State) (n : Nat) : Bool :=
  let per := s.obj 0x220005
  match s.position.zCount with
  | some z => !(per = 0 || (n + 4294967296 - z) % 4294967296 = per || (z + 4294967296 - n) % 4294967296 = per)
  | none => false

/-- Z_EVENT: a rising edge of the Z level accepted at clock `t`, held for `held` clocks (R48, R49, R54, R71). -/
def execZEvent (held t : Nat) (s : State) : Host.Outcome State Fault Refusal :=
  .next <| State.settle <|
    if s.timing && s.bit 0x220007 0 && !s.position.faultZ && s.accepts held then
      let s := s.tick t
      let s := s.latch 1 (s.extrapolatedAt (s.stamp t)) (s.stamp t)
      let n := s.obj 0x220017
      let bad := s.zMismatch n
      let s := s.modPosition fun pos => { pos with zCount := some n }
      if bad then (s.event 0x220016 7).bump 0x220054 else s
    else s

/-- STALL: no counting edge within the stall time (R66), which is counted from the enable where no edge has come since, and judged only while the encoder counts (DESIGN CHOICE, log entry 121). -/
def execStall (t : Nat) (s : State) : Host.Outcome State Fault Refusal :=
  .next <| State.settle <|
    if s.counting && !s.bit 0x220015 3 && s.position.edgeAt + s.obj 0x220009 * 500000 ≤ t then
      let s := ((s.tick t).keepTrack t).unseed.modeSync s.extrapValid
      ((s.setBit 0x220015 3 true).event 0x220016 5).guardSync
    else s

/-- Latches an origin: a raw position in Q32.16, in force from clock `t`; the mark is the web position of that clock, and R68 then applies (R59); trigger mode 1 restarts from it (R346). -/
def State.setOrigin (s : State) (raw t : Nat) : State :=
  let s := s.setObj 0x220018 (raw % 2 ^ 48)
  let s := (s.setBit 0x220015 5 true).event 0x220016 14
  let s := s.modPosition fun pos => { pos with illegal := 0, await := none, reversed := false }
  ((s.setObj 0x220013 (s.extrapolatedAt t)).setBit 0x220015 4 false).guardSync.cameraOrigin

/-- Latches an origin at the raw extrapolated position of clock `t` (R57). -/
def State.latchOriginAt (s : State) (t : Nat) : State := s.setOrigin (s.rawExtrapAt t / 2 ^ 16) t

/-- ORIGIN_LATCH: an edge of LATCH_IN in the direction of LIN_FALL, or a rising edge of Z, which a START awaits, accepted at clock `t` after its level was held for `held` clocks (R48, R49, R57 to R59, R73). It is awaited until it comes, also past the end of its job (R58; DESIGN CHOICE, log entry 129). -/
def execOriginLatch (edge : PinEdge) (t : Nat) (s : State) : Host.Outcome State Fault Refusal :=
  .next <| State.settle <|
    match s.position.await with
    | none => s
    | some src =>
      let c := if src = 2 then s.stamp t else latchInStamp t
      let taken := if src = 2 then !edge.falling && s.accepts edge.held && !s.position.faultZ
        else latchInAccepts edge.held && s.bit 0x220007 2 == edge.falling
      if s.timing && taken then ((s.tick t).latchOriginAt c).placeFirst else s

/-- LATCH_IN_EDGE: an edge of LATCH_IN accepted at clock `t` after its level was held for `held` clocks (R71, R73). -/
def execLatchInEdge (falling : Bool) (held t : Nat) (s : State) : Host.Outcome State Fault Refusal :=
  .next <| State.settle <|
    if s.timing && s.bit 0x220007 1 && s.bit 0x220007 2 == falling && latchInAccepts held then
      let s := s.tick t
      s.latch 2 (s.extrapolatedAt (latchInStamp t)) (latchInStamp t)
    else s

/-- A SYNC0 event at clock `t`: the clock is noted, and an enabled SYNC0 latch takes it with the bar position of the last good sample (R71, R72, R82). -/
def State.sync0Latch (s : State) (t : Nat) : State :=
  if s.timing then
    let s := s.modPosition fun pos => { pos with sync0At := some t }
    if s.bit 0x220007 3 then (s.latch 3 (s.extrapolated t) t).setObj 0x22002C (s.obj 0x220040) else s
  else s

/-- The shortest frame period of a bar mode, in ns (R83). -/
def State.barShortest (s : State) (mode : Nat) : Nat :=
  let bits := if mode = 1 then s.obj 0x220032 + 11 else s.obj 0x220032 + s.obj 0x220036
  bits * 1000000 / max 1 (s.obj 0x220031) + b2n (bits * 1000000 % max 1 (s.obj 0x220031) ≠ 0) +
    s.obj 0x220034 * 1000 + 2000

/-- A write of the bar mode (R76, R83). BAR_VALID, BAR_STALE, the runs of samples and the last good sample stay as they are, a change of mode drops the frame in progress and starts the period anew, and a write of the mode in force drops nothing (DESIGN CHOICE, log entry 124); the object counts as BAR_CTRL for CONFIG_ERR (DEDUCED, log entry 126). -/
def barModeOp (mode : Nat) (s : State) : Answer :=
  if !s.idleEngine then s.refuse 0x08000022
  else if 2 < mode then s.refuse 0x06090030
  else if mode ≠ 0 ∧ s.obj 0x220033 ≠ 0 ∧ s.obj 0x220033 * 1000 < s.barShortest mode then
    s.configErr 0x06090030
  else
    let same := s.obj 0x220030 = mode
    let s := (s.setObj 0x220030 mode).setBit 0x220015 10 false
    (if same then s else s.modPosition fun pos => { pos with barFrame := none, barStart := none } : State).accept

/-- BAR_MODE_WRITE (R83). -/
def execBarModeWrite (via : Via) (mode : Nat) (s : State) : Host.Outcome State Fault Refusal :=
  .next <| State.settle <| s.access via 0x220030 (barModeOp mode)

/-- A bar sample is rejected: BAR_STALE, and BAR_LOST when the failure budget is reached (R84, R85). -/
def State.barReject (s : State) : State :=
  let n := s.position.barBad + 1
  let s := s.modPosition fun pos => { pos with barBad := n, barGood := 0, barFrame := none }
  let s := s.setBit 0x220015 9 true
  if s.obj 0x220039 ≤ n && !s.position.barLost then
    let s := s.modPosition fun pos => { pos with barLost := true }
    ((s.event 0x220016 13).setBit 0x220015 8 false).raise 137 0xFF 0
  else s

/-- A frame falls due at clock `t`: a frame period after the one before, or with a period of 0 at a SYNC0 event (R82). -/
def State.barDue (s : State) (t : Nat) : Bool :=
  if s.obj 0x220033 = 0 then s.position.sync0At = some t
  else match s.position.barStart with
    | some a => a + s.obj 0x220033 * 500 ≤ t
    | none => true

/-- BAR_FRAME_START: a frame falls due at clock `t`, with the level of BAR_SL; one that starts while another is in progress replaces it (R79, R80, R82; DESIGN CHOICE, log entry 123). -/
def execBarFrameStart (slLow : Bool) (t : Nat) (s : State) : Host.Outcome State Fault Refusal :=
  .next <| State.settle <|
    if s.timing && s.obj 0x220030 ≠ 0 && s.barDue t then
      let s := s.tick t
      let s := s.modPosition fun pos => { pos with barStart := some s.clk }
      if slLow then ((s.event 0x220016 11).bump 0x220058).barReject
      else s.modPosition fun pos => { pos with barFrame := some s.sysTime, barY := s.extrapolated s.clk }
    else s

/-- CRC-6 of a bar frame over position, nE and nW (R78). -/
def barCrc (d word : Nat) (nE nW : Bool) : Nat := crcBits 6 0x43 0 (msbBits d word ++ [nE, nW])

/-- Binary value of a Gray code of at most 64 bits (R80). -/
def grayToBinary (g : Nat) : Nat :=
  let g := g ^^^ g >>> 1
  let g := g ^^^ g >>> 2
  let g := g ^^^ g >>> 4
  let g := g ^^^ g >>> 8
  let g := g ^^^ g >>> 16
  g ^^^ g >>> 32

/-- The step from the last good sample exceeds the maximum step (R81). -/
def State.barJumps (s : State) (raw : Nat) : Bool :=
  match s.position.barRaw with
  | none => false
  | some r =>
    s.obj 0x22003A ≠ 0 &&
      decide ((sx (s.obj 0x220032) (raw + 2 ^ s.obj 0x220032 - r % 2 ^ s.obj 0x220032)).natAbs > s.obj 0x22003A)

/-- Bar position of a raw word, signed Q16.16 pixels (R84); the product is rounded down and taken modulo 2^32 (DESIGN CHOICE, log entry 122). -/
def State.barPosition (s : State) (raw : Nat) : Nat :=
  let d := s.obj 0x220032
  let diff := sx d (raw + 2 ^ d - s.obj 0x220038 % 2 ^ d)
  toBits 32 (floorShift (diff * sx 64 (s.obj 0x220037)) 16)

/-- A good bar sample is used, and render checks the walk against it (R84, R85, R293). -/
def State.barAccept (s : State) (raw time : Nat) : State :=
  let n := min 8 (s.position.barGood + 1)
  let s := s.modPosition fun pos => { pos with
    barRaw := some raw, barGood := n, barBad := 0, barFrame := none, barLost := false }
  let s := ((s.setObj 0x220040 (s.barPosition raw)).setObj 0x220041 raw).setObj 0x220042 time
  let s := s.setBit 0x220015 9 false
  let s := if n = 8 then s.setBit 0x220015 8 true else s
  s.walkCheck.autoEngine

/-- BAR_SAMPLE: a frame has been received; `word` as sent, `check` the received CRC-6 as sent (BiSS-C) or the parity bit (SSI) (R77 to R84). -/
def execBarSample (word : Nat) (nE nW : Bool) (check t : Nat) (s : State) :
    Host.Outcome State Fault Refusal :=
  .next <| State.settle <|
    match if s.timing then s.position.barFrame else none with
    | none => s
    | some time =>
      let s := s.tick t
      let d := s.obj 0x220032
      let biss := s.obj 0x220030 = 1
      let raw := if !biss && s.obj 0x220035 = 1 then grayToBinary (word % 2 ^ d) else word % 2 ^ d
      let crcBad := if biss then barCrc d word nE nW ≠ (check ^^^ 0x3F) % 64
        else s.obj 0x220036 = 1 && (popCount d word + check) % 2 = 1
      let errBad := biss && !nE
      let s := if crcBad then (s.event 0x220016 8).bump 0x220055 else s
      let s := if errBad then (s.event 0x220016 9).bump 0x220056 else s
      let s := if biss && !nW then (s.event 0x220016 10).bump 0x220057 else s
      let jump := s.barJumps raw
      let s := if jump then (s.event 0x220016 12).bump 0x220059 else s
      if crcBad || errBad || jump then s.barReject else s.barAccept raw time

/-- BAR_FRAME_TIMEOUT: at clock `t` the frame timeout has passed since the first BAR_MA edge with no Start bit, or since the last CRC bit, at `crcEnd`, with BAR_SL still low (R79). -/
def execBarFrameTimeout (crcEnd : Option Nat) (t : Nat) (s : State) : Host.Outcome State Fault Refusal :=
  .next <| State.settle <|
    match if s.timing then s.position.barFrame else none with
    | none => s
    | some _ =>
      let from_ := crcEnd.getD (s.position.barStart.getD 0)
      if s.obj 0x220030 = 1 && decide (from_ + s.obj 0x220034 * 500 ≤ t) then
        (((s.tick t).event 0x220016 11).bump 0x220058).barReject
      else s

end Sys2Proof.Machine
end

