-- ==== Sys2Proof/Machine/Units.lean ====
section
/-! DEFINITION. Failures and retirement of lockstep pairs and render lanes (R642, R645, R647). -/

namespace Sys2Proof.Machine

/-- The latest three failure times of a unit with one more at operating second `now`. -/
def failTimes (l : List (Nat × List Nat)) (u now : Nat) : List (Nat × List Nat) :=
  putKey l u ((now :: storeGet (fun _ => []) l u).take 3)

/-- Failures of a unit within a window of operating seconds. -/
def failsWithin (l : List (Nat × List Nat)) (u now window : Nat) : Nat :=
  ((storeGet (fun _ => []) l u).filter fun t => decide (now ≤ t + window)).length

/-- A lockstep pair is retired for good (R647). -/
def State.retirePair (s : State) (p : Nat) : State :=
  if s.mram.pairsRetired.testBit p then s
  else
    let r := s.mram.pairsRetired ||| 1 <<< p
    (((s.modMram fun mr => { mr with pairsRetired := r } : State).setObj 0x5E0021 r).raise 171 p 0).event 0x5E0004 2

/-- A mismatch of a pair is recorded; the third within 100 operating hours retires it (R642). -/
def State.pairMismatch (s : State) (p : Nat) : State :=
  let t := failTimes s.mram.pairTimes p s.vbat.hours
  let s := s.modMram fun mr => { mr with pairTimes := t }
  if 3 ≤ failsWithin t p s.vbat.hours 360000 then s.retirePair p else s

/-- A render lane is retired for good (R645). -/
def State.retireLane (s : State) (l : Nat) : State :=
  if s.mram.lanesRetired.testBit l then s
  else
    let r := s.mram.lanesRetired ||| 1 <<< l
    let s := ((s.modMram fun mr => { mr with lanesRetired := r } : State).setObj 0x5E0020 r).setBit 0x240010 l false
    (((s.raise 170 l 0).bump 0x240089).event 0x240013 8).event 0x5E0004 1

/-- A failure of a lane is recorded in MRAM (R644). -/
def State.laneFailure (s : State) (l : Nat) : State :=
  let t := failTimes s.mram.laneTimes l s.vbat.hours
  let n := min 65535 (storeGet (fun _ => 0) s.mram.laneFails l + 1)
  s.modMram fun mr => { mr with laneTimes := t, laneFails := putKey s.mram.laneFails l n }

/-- The latest failure of a lane is its third within 24 operating hours (R642). -/
def State.laneSpent (s : State) (l : Nat) : Bool :=
  3 ≤ failsWithin s.mram.laneTimes l s.vbat.hours 86400

/-- The lanes in service, ascending (R286). -/
def State.lanesIn (s : State) : List Nat := (List.range 17).filter fun l => s.bit 0x240010 l

/-- Lane of a port; 0xFF: none. -/
def State.laneOf (s : State) (n : Fin 16) : Nat := s.obj (0x240070 + n.val)

/-- The lane under test; 0xFF: none. -/
def State.testLane (s : State) : Nat := s.obj 0x240011

/-- Place, among the lanes that serve, of the lane of the `i`-th of `p` rendered ports when `l` lanes are in service (R289). -/
def lanePlace (l p i : Nat) : Nat :=
  let own := if p ≤ l then p else 2 * l - p
  if i < own then i else own + (i - own) / 2

/-- Rendered ports that lanes serve: none where the start-up self-test has not passed (R295). -/
def State.servedPorts (s : State) : List (Fin 16) := if s.obj 0x5E0002 = 4 then [] else s.renderedPorts

/-- The lane that is under test after an assignment, none where the rotation is stopped (R287, R289). -/
def State.nextTest (s : State) : Option Nat :=
  let svc := s.lanesIn
  let p := s.servedPorts.length
  if svc.length < p + 1 then none
  else if svc.contains s.testLane then some s.testLane
  else match s.render.leaving with
    | some (_, m) => if svc.contains m then some m else svc[p]?
    | none => svc[p]?

/-- A port moves to a lane: a line in progress starts again there, and a move between lanes is counted (R289, R291). -/
def State.moveLane (s : State) (n : Fin 16) (l : Nat) : State :=
  let old := s.laneOf n
  if old = l then s
  else
    let s := (s.setObj (0x240070 + n.val) l).modRenderPort n fun p => { p with busy := none }
    if old ≠ 0xFF ∧ l ≠ 0xFF then s.bump 0x240087 else s

/-- Reports shared ports, unserved ports and the self-test (R289, R298). -/
def State.reportLanes (s : State) : State :=
  let ports := s.renderedPorts
  let shared := ports.filter fun n => s.laneOf n ≠ 0xFF && ports.any fun m => m ≠ n && s.laneOf m = s.laneOf n
  let none_ := ports.filter fun n => s.laneOf n = 0xFF
  let mask := fun (l : List (Fin 16)) => l.foldl (fun a n => a ||| 1 <<< n.val) 0
  let s := (s.setObj 0x240014 (mask shared)).setObj 0x240015 (mask none_)
  ((s.setBit 0x240012 0 (s.render.started && decide (ports.length < s.lanesIn.length))).setBit 0x240012 1
    (!shared.isEmpty)).setBit 0x240012 2 (!none_.isEmpty)

/-- The lane under test becomes `l`, 0xFF for none; the window of a new one begins (R287, R661). -/
def State.setTestLane (s : State) (l : Nat) : State :=
  (s.modRender fun ren => { ren with
    windowAt := if l = s.testLane then s.render.windowAt else s.clk } : State).setObj 0x240011 l

/-- The assignment of ports to lanes is made again (R289); before the start-up self-test has ended no lane serves (R295). -/
def State.assignLanes (s : State) : State :=
  let ports := s.servedPorts
  if !s.render.started then ((List.finRange 16).foldl (fun s n => s.moveLane n 0xFF) s).reportLanes
  else
    let test := s.nextTest
    let svc := s.lanesIn.filter fun l => some l ≠ test
    let s := s.modRender fun ren => { ren with leaving := none, handOver := [] }
    let s := s.setTestLane (test.getD 0xFF)
    let place := fun (n : Fin 16) =>
      if ports.contains n then (svc[lanePlace s.lanesIn.length ports.length (ports.idxOf n)]?).getD 0xFF else 0xFF
    ((List.finRange 16).foldl (fun s n => s.moveLane n (place n)) s).reportLanes

/-- The assignment is made again where the ports rendered or the lanes in service have changed from `before` (R289). -/
def State.lanesSync (before s : State) : State :=
  if before.renderedPorts = s.renderedPorts ∧ before.lanesIn = s.lanesIn then s else s.assignLanes

end Sys2Proof.Machine
end

