-- ==== Sys2Proof/Machine/Scheduler.lean ====
section
/-! DEFINITION. The fire scheduler's commands: counting edges with their check of pending events, line events, withdrawals, SLOW_REQ_L, COMMIT and lockstep (03_fire_scheduling.md). -/

namespace Sys2Proof.Machine

/-- A gated cycle held under STRETCH is judged again at an edge, and a stretched cycle notes the events that fall due (R111). -/
def State.judgeHeld (s : State) (n : Fin 16) : State :=
  s.modPort n fun p => { p with
    next := p.next.map (s.heldSlip n), cur := p.cur.map (s.heldSlip n), blanked := p.blanked.map (s.heldSlip n) }

/-- What follows an accepted counting edge in the scheduler (R102, R105, R111). -/
def State.afterEdge (before : Bool) (r : Bool × State) : State :=
  let s := r.2.modeSync before
  let s := if r.1 then (List.finRange 16).foldl State.checkPort s else s
  (List.finRange 16).foldl State.judgeHeld s

/-- COUNTING_EDGE: a legal transition of A, or of B, accepted at clock `t` after its level was held for `held` clocks (R48, R55, R102). -/
def execCountingEdge (onA : Bool) (held t : Nat) (s : State) : Host.Outcome State Fault Refusal :=
  .next (State.settle (if s.counting && s.accepts held then State.afterEdge s.extrapValid (s.countEdge onA t) else s))

/-- The first event of a cycle held under STRETCH waits for its clock (R111). -/
def Cycle.mayStart (c : Cycle) (clk : Nat) : Bool :=
  c.firstAt.isSome || match c.delayed with
    | some d => decide (d ≤ clk)
    | none => true

/-- The event of column `k` of a cycle is due at the present clock (R101, R104, R111). -/
def State.eventDue (s : State) (n : Fin 16) (c : Cycle) (k : Nat) : Bool :=
  match c.events.find? fun kt => kt.1 = k with
  | none => false
  | some (_, some e) =>
    decide (e + c.shift ≤ s.clk) && c.mayStart s.clk &&
      atOrBeyond (s.guarded s.clk + s.obj 0x230001 * 256) (s.target n c.m k)
  | some (_, none) =>
    (!s.extrapValid || c.withdrawn.testBit k) && atOrBeyond (s.guarded s.clk) (s.target n c.m k) && c.mayStart s.clk &&
      (c.delayed.isNone || match findKey c.ripe k with
        | some e => decide (e + c.shift ≤ s.clk)
        | none => false)

/-- Dies of a port whose model temperature has not been set (R189). -/
def State.modelUnset (s : State) (n : Fin 16) : Bool :=
  (List.range (rb (s.record n) 0x14)).any fun d => (findKey (s.port.get n).model d).isNone

/-- Reason that blanks a cycle at its first event, other than overspeed in gated mode; 0 where none does. A reason that has blanked it already stands (R116, R159, R161, R167, R189, R194). -/
def State.firstReason (s : State) (n : Fin 16) (c : Cycle) : Nat :=
  if c.blank ≠ 0 && c.blank ≠ 2 then c.blank
  else if s.portState n.val = 4 then 6
  else if (s.bit (pk 0x34001A n) 3 || s.modelUnset n) && !c.latched then 5
  else if s.engineState = 5 then 3
  else c.blank

/-- Counters of a cycle blanked for a reason (R178). -/
def State.countReason (s : State) (n : Fin 16) (reason : Nat) : State :=
  if reason = 3 then s.bump (pk 0x33000C n)
  else if reason = 5 then s.bump (pk 0x33000D n)
  else s

/-- Counts an overspeed or load-slip cycle at its first event (R107, R110, R111, R113). -/
def State.countOver (s : State) (n : Fin 16) (c : Cycle) (blanked : Bool) : State :=
  if !c.fast && !c.slip then s
  else
    let s := s.eventIf (c.fast || blanked) 0x230019 3
    let s := if c.slip then ((s.event 0x230019 4).bump 0x230022).bump (pk 0x330006 n) else s
    let s := s.bump (pk (if blanked then 0x330004 else 0x330005) n)
    let s := s.modSched fun sch => { sch with overAt := some s.clk }
    if s.bit 0x230006 0 && !s.slowQuiet then
      (s.modSched fun sch => { sch with holdOther := some s.slowHold }).setDrive true
    else s

/-- Notes the first event of a cycle (R134). -/
def State.noteFirst (s : State) (n : Fin 16) (c : Cycle) (fired : Bool) : State :=
  let s := match (s.port.get n).firstAt with
    | some f => s.setObj (pk 0x32001B n) (2 * (s.clk - f))
    | none => s
  let s := (s.setBit (pk 0x32001F n) 1 (c.fast || c.slip)).setBit (pk 0x32001F n) 2 (fired && c.shift ≠ 0)
  s.modPort n fun p => { p with firstAt := some s.clk }

/-- Releases the slots of a cycle's columns without counting LATE (R159). -/
def State.releaseSlots (s : State) (n : Fin 16) (c : Cycle) : State :=
  (List.range 8).foldl (fun s k =>
    if c.part.testBit k then
      let j := s.lineOf n c.m k
      s.modPort n fun p => { p with
        slots := match findKey p.slots (16 * k + j % 16) with
          | some d => putKey p.slots (16 * k + j % 16)
              { d with ready := false, freed := some j }
          | none => putKey p.slots (16 * k + j % 16) { line := 0, cap := 0, ready := false, readyAt := 0, freed := some j } }
    else s) s

/-- The nozzles of column `k` whose bit in the load is 1 add to their firing counters (R327). -/
def State.countNozzles (s : State) (n : Fin 16) (k bits : Nat) : State :=
  let r := s.record n
  (List.range (recNoz r)).foldl (fun s j =>
    if bits.testBit (rankOf r j) then
      let a := s.firingAddr n (k * recNoz r + j)
      s.setNum a 5 (min (2 ^ 40 - 1) (s.num a 5 + 1))
    else s) s

/-- Column `k` fires or blanks its line of a cycle: status byte, counters and fire line (R94, R98, R160, R327). -/
def State.columnEvent (s : State) (n : Fin 16) (c : Cycle) (k : Nat) : State :=
  let j := s.lineOf n c.m k
  if !s.takesPart n c.m k then s
  else
    let reason := if c.blank ≠ 0 then c.blank else b2n (c.late.testBit k)
    let s := (s.writeStatus n k j reason).lineDone n k j
    if reason = 0 then s.countNozzles n k (storeGet (fun _ => 0) c.data k) else s

/-- Removes the event of column `k`. -/
def dropEvent (c : Cycle) (k : Nat) : Cycle := { c with events := c.events.filter fun kt => kt.1 ≠ k }

/-- A blanked cycle's column event after its first (R110, R159). -/
def State.blankEvent (s : State) (n : Fin 16) (c : Cycle) (k : Nat) : State :=
  (s.columnEvent n c k).modPort n fun p => { p with
    blanked := (p.blanked.map fun d => if d.m = c.m then dropEvent d k else d).filter fun d => !d.events.isEmpty }

/-- A blanked cycle leaves the place of the next cycle, which is placed in the same clock (R100; DESIGN CHOICE, log entry 120). -/
def State.blankPlace (s : State) (n : Fin 16) (c : Cycle) : State :=
  let s := if c.released then s else s.releaseSlots n c
  let s := if s.portState n.val = 2 && (s.port.get n).cur.isNone then s.setObj (pk 0x310001 n) 1 else s
  let s := s.modPort n fun p => { p with
    next := none, blanked := if c.events.isEmpty then p.blanked else p.blanked ++ [c] }
  ((s.setObj (pk 0x31000A n) c.m).cyclePassed n c.m).placeOn n

/-- The first event of a cycle blanks it (R110, R116, R159, R161, R167, R194). -/
def State.blankFirst (s : State) (n : Fin 16) (c : Cycle) (k reason : Nat) : State :=
  let c := { c with blank := reason, firstAt := some s.clk }
  let s := if reason = 2 then s.countOver n c true else s.countReason n reason
  (((s.noteFirst n c false).countCycle n true).columnEvent n c k).blankPlace n (dropEvent c k)

/-- Place of a column's slots in the strobe queue: by the clock of its event, a column already strobing first, then by COL_ORDER (R97, R154). -/
def slotKey (order : List Nat) (c : Cycle) (ki : Nat × Nat) : Nat :=
  let turn := if storeGet (fun _ => 0) c.pulses ki.1 ≠ 0 then 0 else 1 + order.findIdx (· = ki.1)
  (storeGet (fun _ => 0) c.fired ki.1 * 16 + turn) * 64 + ki.2

/-- Column `k` of a fired cycle fires: its groups join the strobe queue; columns that fire in one clock follow COL_ORDER (R97, R154). -/
def State.fireEvent (s : State) (n : Fin 16) (c : Cycle) (k : Nat) : State :=
  let s := s.columnEvent n c k
  let slots := if s.takesPart n c.m k then (List.range (recGroups (s.record n))).map fun i => (k, i) else []
  let c := { dropEvent c k with fired := storePut (fun _ => 0) c.fired k s.clk }
  let order := s.strobeOrder n c
  s.modPort n fun p => { p with
    cur := some c
    queue := sortBy (fun a b => decide (slotKey order c a ≤ slotKey order c b)) (p.queue ++ slots) }

/-- The first event of a cycle fires it (R94, R111). -/
def State.fireFirst (s : State) (n : Fin 16) (c : Cycle) (k : Nat) : State :=
  let pos := if s.extrapValid && !c.withdrawn.testBit k then s.extrapolated s.clk else s.guarded s.clk
  let slip := posDiff pos (s.target n c.m k)
  let c := { c with firstAt := some s.clk }
  let s := (s.countOver n c false).noteFirst n c true
  let s := s.setObj (pk 0x32001E n) (if c.shift = 0 then 0 else min 65535 (slip.toNat / 256))
  ((s.cyclePassed n c.m).modPort n fun p => { p with next := none }).fireEvent n c k

/-- Clock at which the event of column `k` fell due before any delay, at the latest the present one. -/
def State.dueClock (s : State) (c : Cycle) (k : Nat) : Nat :=
  match c.events.find? fun kt => kt.1 = k, findKey c.ripe k with
  | some (_, some e), _ => e
  | _, some e => e
  | _, none => s.clk

/-- The first event of an overspeed or load-slip cycle falls due: the cycle is held to the earliest clock allowed under STRETCH, or blanked (R107, R109 to R111). -/
def State.overFirst (s : State) (n : Fin 16) (c : Cycle) (k : Nat) (fast : Bool) : State :=
  let fast := c.fast || fast
  let c := { c with fast := fast, slip := !fast }
  let gated := c.events.any fun kt => kt.1 = k && kt.2.isNone
  let need := max (s.clk + 1) (max (s.firstAllowed n) (s.loadEndOf n c + (if gated then 0 else 60)))
  let pos := if gated then s.guarded s.clk else s.extrapolated need
  if s.obj 0x230002 = 0 || (c.released && c.loadAt.isNone) || posDiff pos (s.target n c.m k) > (s.obj 0x230003 * 65536 : Nat) then s.blankFirst n c k 2
  else
    let due := s.dueClock c k
    let ripe := if gated && (findKey c.ripe k).isNone then (k, s.clk) :: c.ripe else c.ripe
    s.modPort n fun p => { p with
      next := some (s.ripen n { c with delayed := some need, shift := need - due, ripe := ripe }) }

/-- The first event of the port's next cycle falls due (R94, R107, R109, R116). -/
def State.firstEvent (s : State) (n : Fin 16) (c : Cycle) (k : Nat) : State :=
  let reason := s.firstReason n c
  let fast := decide (s.clk < s.firstAllowed n) || (s.port.get n).cur.isSome
  let gated := c.events.any fun kt => kt.1 = k && kt.2.isNone
  let late := !c.loaded || (!gated && decide (s.clk < s.loadEndOf n c + 60))
  if reason ≠ 0 then s.blankFirst n c k reason
  else if fast || late then s.overFirst n c k fast
  else s.fireFirst n c k

/-- The event of column `k` of the port's next cycle, where it is due; one held under STRETCH too long is blanked (R111). -/
def State.nextEvent (s : State) (n : Fin 16) (c : Cycle) (k : Nat) : State :=
  if s.heldPast n c && (c.heldBy.map (·.1)) = some k then s.blankFirst n c k 2
  else if s.eventDue n c k then s.firstEvent n c k
  else s

/-- The event of column `k` of a port, where it is due. -/
def State.lineEvent (s : State) (n : Fin 16) (k : Nat) : State :=
  let p := s.port.get n
  match p.cur.filter (s.eventDue n · k), p.blanked.find? (s.eventDue n · k), p.next with
  | some c, _, _ => s.fireEvent n c k
  | none, some c, _ => s.blankEvent n c k
  | none, none, some c => s.nextEvent n c k
  | none, none, none => s

/-- The scheduler acts: the timing domain runs and the engine places cycles (R116). -/
def State.schedulerOn (s : State) : Bool := s.timing && 3 ≤ s.engineState && s.engineState ≤ 5

/-- LINE_EVENT: the web reaches the target of column `k` of port `n` at clock `t` (R94). -/
def execLineEvent (n : Fin 16) (k : Fin 8) (t : Nat) (s : State) : Host.Outcome State Fault Refusal :=
  .next (State.settle (if s.schedulerOn then ((s.tick t).lineEvent n k.val).autoEngine else s))

/-- Withdraws the event of column `k` from a cycle; a cycle whose first event is pending is judged anew (R104, R109). -/
def withdraw (c : Cycle) (k : Nat) : Cycle :=
  let c := if c.firstAt.isSome then c else unjudged c
  { c with
    events := c.events.map fun kt => if kt.1 = k then (k, none) else kt
    withdrawn := c.withdrawn ||| 1 <<< k }

/-- The event of column `k` of a cycle is pending at the present clock with the guarded position short of its target (R104). -/
def State.mustWithdraw (s : State) (n : Fin 16) (c : Cycle) (k : Nat) : Bool :=
  c.events.any fun kt => kt.1 = k && match kt.2 with
    | some e => decide (e + c.shift ≤ s.clk) &&
        !atOrBeyond (s.guarded s.clk + s.obj 0x230001 * 256) (s.target n c.m k)
    | none => false

/-- The event of column `k` of a port is withdrawn to gated mode (R104). -/
def State.withdrawEvent (s : State) (n : Fin 16) (k : Nat) : State :=
  let p := s.port.get n
  if (p.cur.any fun c => s.mustWithdraw n c k) then
    ((s.modPort n fun p => { p with cur := p.cur.map fun c => withdraw c k }).bump 0x230021).bump (pk 0x330007 n)
  else if (p.blanked.any fun c => s.mustWithdraw n c k) then
    ((s.modPort n fun p => { p with
      blanked := p.blanked.map fun c => if s.mustWithdraw n c k then withdraw c k else c }).bump 0x230021).bump (pk 0x330007 n)
  else if (p.next.any fun c => s.mustWithdraw n c k) then
    ((s.modPort n fun p => { p with next := p.next.map fun c => withdraw c k }).bump 0x230021).bump (pk 0x330007 n)
  else s

/-- EVENT_WITHDRAWAL (R104). -/
def execEventWithdrawal (n : Fin 16) (k : Fin 8) (t : Nat) (s : State) : Host.Outcome State Fault Refusal :=
  .next (State.settle (if s.schedulerOn then (s.tick t).withdrawEvent n k.val else s))

/-- A hold time has ended at the present clock. -/
def State.holdOver (s : State) (h : Option Nat) : Bool :=
  match h with
  | some e => decide (e ≤ s.clk)
  | none => true

/-- The drive ends where no cause is present and every hold time has ended (R113). -/
def State.releaseDrive (s : State) : State :=
  let f := s.holdOver s.sched.holdForce
  let o := s.holdOver s.sched.holdOther
  let s := s.modSched fun sch => { sch with
    holdForce := if f then none else s.sched.holdForce,
    holdOther := if o then none else s.sched.holdOther }
  if s.obj 0x230009 ≠ 1 && !s.slowOther && f && (o || s.slowQuiet) then s.setDrive false else s

/-- SLOW_REQ_RELEASE: the hold time after the last cause has ended (R113). -/
def execSlowReqRelease (t : Nat) (s : State) : Host.Outcome State Fault Refusal :=
  .next (State.settle (if s.timing then (s.tick t).slowSync.releaseDrive else s))

/-- SLOW_REQ_PIN_CHANGE: another device drives or releases SLOW_REQ_L (R114). -/
def execSlowReqPinChange (low : Bool) (t : Nat) (s : State) : Host.Outcome State Fault Refusal :=
  .next (State.settle
    (let s := s.tick t
     s.modSched fun sch => { sch with external := low }))

/-- ARM_COMMIT: a write of 1 to 0x2300:10 (R118, R124). -/
def execArmCommit (via : Via) (ckptErr t : Nat) (s : State) : Host.Outcome State Fault Refusal :=
  .next (State.settle ((s.tick t).access via 0x230010 (commitOp ckptErr)))

/-- PORT_TRANSFER: every enabled column of the port has fired or blanked the boundary (R121). -/
def execPortTransfer (n : Fin 16) (s : State) : Host.Outcome State Fault Refusal :=
  .next (State.settle
    (if s.transferPending n && s.columnsPast n (s.boundary n) then (s.transfer n).commitDone else s))

/-- The fire line of a port has reached a line. -/
def State.fireLineAt (s : State) (n : Fin 16) (l : Nat) : Bool :=
  s.obj (pk 0x32001C n) ≠ 0xFFFFFFFF && lineAtOrBeyond (s.obj (pk 0x32001C n)) l

/-- The engine enters HOLD for the unmaskable map of a port, where the fire line has reached the stop (R324). -/
def State.cannotMaskStop (s : State) (n : Fin 16) : State :=
  match (s.jigsaw.get n).stopAt with
  | none => s
  | some l =>
    if s.fireLineAt n l then ((s.modJigsaw n fun p => { p with stopAt := none }).holdCause).autoEngine else s

/-- CANNOT_MASK_STOP (R324). -/
def execCannotMaskStop (n : Fin 16) (t : Nat) (s : State) : Host.Outcome State Fault Refusal :=
  .next (State.settle ((s.tick t).cannotMaskStop n))

/-- A scheduler pair has mismatched: every strobe is cut from the next clock on and the engine enters FAULT (R129, R692). -/
def State.lockstepMismatch (s : State) (pair : Nat) : State :=
  let s := (List.finRange 16).foldl (fun s n => ((s.cutPulse (s.clk + 1) n).stopCycles n 4).cutFe (s.clk + 1) n) s
  let s := (s.modSched fun sch => { sch with lockstep := true }).modHealth
    fun hl => { hl with pairsSuspect := hl.pairsSuspect ||| 1 <<< pair }
  let s := (((s.event 0x230019 6).bump 0x230024).raise 133 pair 0).pairMismatch pair
  let s := s.enterFaultWith 133 4
  (List.finRange 16).foldl (fun s n => s.modPort n fun p => { p with flushDue := false }) s

/-- LOCKSTEP_MISMATCH: the copies of a pair differ in clock `t` (R129). -/
def execLockstepMismatch (pair : Fin 5) (t : Nat) (s : State) : Host.Outcome State Fault Refusal :=
  .next (State.settle (if s.timing then (s.tick t).lockstepMismatch pair.val else s))

end Sys2Proof.Machine
end

