-- ==== Sys2Proof/Machine/SramOps.lean ====
section
/-! DEFINITION. Errors of SRAM words and their outcomes (R531, R536, R537). -/

namespace Sys2Proof.Machine

/-- Bank of a byte address of SRAM (R531). -/
def bankOf (a : Nat) : Nat := a / 8 % 32

/-- A read found a double-bit error in the word at `a` (R537). -/
def State.sramUncorrectable (s : State) (a : Nat) : State :=
  let s := (s.bump 0x58000E).event 0x580009 1
  let s := if s.obj 0x58000A = 0xFFFFFFFF then s.setObj 0x58000A a else s
  s.raise 169 (bankOf a) (a / 16 % 2 ^ 32)

/-- A read found a single-bit error (R536). -/
def State.sramCorrected (s : State) : State := (s.bump 0x58000D).event 0x580009 0

/-- Reads found single-bit errors in `n` words (R536). -/
def State.sramCorrectedN (s : State) (n : Nat) : State := (s.bumpN 0x58000D n).eventIf (n ≠ 0) 0x580009 0

/-- The first word with an uncorrectable error among `n` bytes from `a`. -/
def State.badWord (s : State) (a n : Nat) : Option Nat :=
  s.sram.bad.find? fun w => decide (a < w + 8) && decide (w < a + n)

/-- The word at `a` has an uncorrectable error from now on, or has none (R537). -/
def State.markWord (s : State) (a : Nat) (bad : Bool) : State :=
  let w := a / 8 * 8
  let l := s.sram.bad.filter (· ≠ w)
  s.modSram fun sr => { sr with bad := if bad then (l.filter (· < w)) ++ w :: (l.filter (w < ·)) else l }

/-- Words written whole from `a` over `n` bytes hold no error any more (R537). -/
def State.clearBad (s : State) (a n : Nat) : State :=
  s.modSram fun sr => { sr with bad := s.sram.bad.filter fun w => !(decide (a ≤ w) && decide (w + 8 ≤ a + n)) }

/-- Words of the ranges read that a read finds in error, true for one that cannot be corrected: corrected and counted, or bad from now on (R536, R537). -/
def State.findErrors (s : State) (ranges : List (Nat × Nat)) (finds : List (Nat × Bool)) : State :=
  let read := fun (f : Nat × Bool) => ranges.any fun r => decide (r.1 < f.1 / 8 * 8 + 8 ∧ f.1 / 8 * 8 < r.1 + r.2)
  (finds.filter read).foldl (fun s f =>
    if f.2 then s.markWord f.1 true else if s.sram.bad.contains (f.1 / 8 * 8) then s else s.sramCorrected) s

/-- An address lies in MAINT's staging area (R532). -/
def inStaging (a : Nat) : Bool := 0x02600000 ≤ a && a < 0x02800000

/-- MAINT has overwritten the staging area, with words that hold no error (R520, R532). -/
def State.stageLost (s : State) : State :=
  s.modSram fun sr => { sr with staged := true, restaged := [], bad := sr.bad.filter fun w => !inStaging w }

/-- A byte that holds what MAINT left there, which the spec does not state (R532). -/
def State.stagedByte (s : State) (a : Nat) : Bool := s.sram.staged && inStaging a && !s.sram.restaged.contains a

/-- Bytes of the staging area written since hold what was written (R532). -/
def State.restage (s : State) (a n : Nat) : State :=
  if s.sram.staged then
    s.modSram fun sr => { sr with restaged := (sr.restaged ++ ((List.range n).map (a + ·)).filter inStaging).eraseDups }
  else s

/-- Byte `i` of a read, at address `a` of SRAM: free where MAINT left it (R532). -/
def State.sramByte (s : State) (i a : Nat) : Byte := if s.stagedByte a then Config.freeByte (s.draws + i) else s.byte a

/-- What a read of `n` bytes of SRAM returns. -/
def State.sramRead (s : State) (a n : Nat) : Bytes × State :=
  ((List.range n).map fun i => s.sramByte i (a + i),
    if (List.range n).any fun i => s.stagedByte (a + i) then { s with draws := s.draws + n } else s)

end Sys2Proof.Machine
end

