-- ==== Sys2Proof/Machine/HeadPort.lean ====
section
/-! DEFINITION. The head ports: records, enabling, loads, strobes, echo, flush and Wind-up (04_head_ports.md). -/

namespace Sys2Proof.Machine

/-- A field of a record lies in a range. -/
def fieldIn (v lo hi : Nat) : Bool := lo ≤ v && v ≤ hi

/-- The thermal block of a record keeps its ranges and its ordering (R181). -/
def thermalValid (r : Bytes) : Bool :=
  let sq8 := fun o => sx 16 (rw16 r o)
  rw16 r 0x40 ≠ 0 && sx 16 (rw16 r 0x40) ≤ 32768 && rw16 r 0x42 ≤ 4095 && rb r 0x44 ≤ 100 && 1 ≤ rb r 0x45 &&
    ((List.range (recCols r)).all fun k => field (rw16 r 0x46) (2 * k) 2 < rb r 0x14) &&
    fieldIn (rw16 r 0x48) 1 10000 && fieldIn (rw16 r 0x4A) 250 4000 && rw16 r 0x4A % 2 = 0 &&
    1 ≤ rw16 r 0x4C && 1 ≤ rw16 r 0x4E && sq8 0x50 < sq8 0x52 && sq8 0x52 ≤ sq8 0x54 && sq8 0x54 < sq8 0x56 &&
    sq8 0x56 ≤ 32000 && fieldIn (rw16 r 0x58) 64 2048 && (sub r 0x5A 38).all (· = 0#8)

/-- A record keeps the geometry and limit ranges of R138. -/
def geometryValid (r : Bytes) : Bool :=
  fieldIn (rb r 0x0C) 1 8 && fieldIn (rb r 0x0D) 1 32 && fieldIn (rb r 0x0C * rb r 0x0D) 4 32 &&
    fieldIn (rw16 r 0x0E) 1 4096 && rb r 0x0C * rw16 r 0x0E ≤ 16384 && rb r 0x10 ≤ 1 && rb r 0x11 ≤ 2 &&
    rb r 0x12 ≤ 1 && rb r 0x13 ≤ 15 && fieldIn (rb r 0x14) 1 4 && fieldIn (rb r 0x15) 5 200 &&
    fieldIn (rb r 0x16) 40 200 && rb r 0x17 = 0 && fieldIn (rw16 r 0x18) 250 4000 && rw16 r 0x18 % 2 = 0 &&
    fieldIn (rw16 r 0x1A) (rw16 r 0x18) 4000 && rw16 r 0x1A % 2 = 0 &&
    fieldIn (rw16 r 0x1C) (rw16 r 0x18) (rw16 r 0x1A) && rw16 r 0x1C % 2 = 0 &&
    fieldIn (rw16 r 0x1E) 40 2000 && rw16 r 0x1E % 2 = 0 && fieldIn (rw16 r 0x20) 1 4096 &&
    rw16 r 0x22 ≤ rw16 r 0x18 - 2 && (List.range (recCols r)).all fun k => rb r (0x34 + k) ≤ 7

/-- A head description record is acceptable (R138, R139, R181). -/
def recordValid (r : Bytes) : Bool :=
  leAt r 0 4 = 0x52444842 && rw16 r 4 = 0x100 && rw16 r 6 = 256 && geometryValid r && thermalValid r &&
    (sub r 0x3C 4).all (· = 0#8) && (sub r 0x80 124).all (· = 0#8) && leAt r 0xFC 4 = crc32c (sub r 0 252)

/-- Reports the load time of a port (R150). -/
def State.reportLoadTime (s : State) (n : Fin 16) : State := s.setObj (pk 0x310005 n) (s.loadTime n)

/-- Width, gap and cap come into force at once, with the minimum fire period (R108, R139). -/
def State.forceLimits (s : State) (n : Fin 16) : State :=
  let s := ((s.setObj (pk 0x310006 n) (s.obj (pk 0x300003 n))).setObj (pk 0x310007 n)
    (s.obj (pk 0x300004 n))).setObj (pk 0x310008 n) (s.obj (pk 0x300005 n))
  s.setObj (pk 0x32001A n) (pMin (s.record n) (s.obj (pk 0x310006 n)) (s.obj (pk 0x310007 n)))

/-- An accepted record comes into force (R139, R192, R297, R306). -/
def State.takeRecord (s : State) (n : Fin 16) (r : Bytes) : State :=
  let s := s.setDomain (pk 0x300020 n) r
  let s := ((s.setObj (pk 0x300003 n) (rw16 r 0x1C)).setObj (pk 0x300004 n) (rw16 r 0x1E)).setObj
    (pk 0x300005 n) (rw16 r 0x20)
  let s := (s.forceLimits n).reportLoadTime n
  let s := if rw16 r 0x22 < s.obj (pk 0x340001 n) then s.setObj (pk 0x340001 n) 0 else s
  let s := if rw16 r 0x22 = 0 then s.setObj (pk 0x340002 n) 0 else s
  (s.emptyMaps n).unityGains n

/-- A write of a head description record (R139). -/
def hdrWriteOp (n : Fin 16) (r : Bytes) (s : State) : Answer :=
  if r.length ≠ 256 then s.refuse 0x06070010
  else if s.portState n.val ≠ 0 then s.refuse 0x08000022
  else if s.locked then s.lockedWrite.refuse 0x08000021
  else if !recordValid r then (s.event (pk 0x310009 n) 8).refuse 0x06090030
  else (s.takeRecord n r).accept

/-- HDR_WRITE (R139). -/
def execHdrWrite (via : Via) (n : Fin 16) (record : Bytes) (s : State) : Host.Outcome State Fault Refusal :=
  .next (State.settle (s.access via (pk 0x300020 n) (hdrWriteOp n record)))

/-- A write of 1 to the port enable (R143). -/
def portEnableOp (n : Fin 16) (s : State) : Answer :=
  if (s.idleEngine || s.engineState = 6) && s.portState n.val = 0 then
    let s := (s.setObj (pk 0x300001 n) 1).setObj (pk 0x310001 n) 5
    (s.modPort n fun p => { p with enabledAt := s.clk, flushDue := false }).accept
  else (s.setObj (pk 0x310002 n) 8).refuse 0x08000022

/-- PORT_ENABLE (R143). -/
def execPortEnable (via : Via) (n : Fin 16) (t : Nat) (s : State) : Host.Outcome State Fault Refusal :=
  .next (State.settle (s.lanesSync ((s.tick t).access via (pk 0x300001 n) (portEnableOp n))))

/-- Width, gap and cap lie within the record's limits (R143). -/
def withinLimits (r : Bytes) (w g cap : Nat) : Bool :=
  fieldIn w (rw16 r 0x18) (rw16 r 0x1A) && rw16 r 0x1E ≤ g && cap ≤ rw16 r 0x20

/-- The enable result: the first check of R143 that fails, or 1. -/
def State.enableResult (s : State) (n : Fin 16) (absent : Bool) (crcFails type : Nat) : Nat :=
  let r := s.record n
  if r.isEmpty then 2
  else if absent then 3
  else if 2 ≤ crcFails then 5
  else if type ≠ leAt r 8 4 then 4
  else if 13770 < s.loadTime n then 6
  else if s.obj (pk 0x300002 n) < rb r 0x15 ||
      !withinLimits r (s.obj (pk 0x300003 n)) (s.obj (pk 0x300004 n)) (s.obj (pk 0x300005 n)) ||
      !withinLimits r (s.obj (pk 0x310006 n)) (s.obj (pk 0x310007 n)) (s.obj (pk 0x310008 n)) then 7
  else 1

/-- Writes firing counters, given as pairs of nozzle and count, into the stack. -/
def State.loadFiring (s : State) (n : Fin 16) (l : List (Nat × Nat)) : State :=
  l.foldl (fun s uc => s.setNum (s.firingAddr n uc.1) 8 uc.2) s

/-- Every firing counter of a port is 0 (R329). -/
def State.clearFiring (s : State) (n : Fin 16) : State := s.clearBytes (s.firingAddr n 0) 0x20000

/-- The nozzle bin counters of a port are 0 (R329, R636). -/
def State.clearBins (s : State) (n : Fin 16) : State :=
  s.modHealth fun hl => { hl with bins := hl.bins.filter fun b => b.1 / 256 ≠ n.val }

/-- The health map entry, as `m` reads it, meets the head serial read at an enable; an entry that fails its CRC counts as a changed head (R329, R651). -/
def State.restoreHealth (s : State) (n : Fin 16) (m : MramRead) : State :=
  let s := s.mramRead 2 m
  match findKey s.mram.health n.val with
  | some e =>
    if readFails m = false ∧ e.serial = s.obj (pk 0x310003 n) then
      let s := (s.clearFiring n).loadFiring n e.firing
      let s := (s.setDomain (pk 0x380011 n) e.states).setObj (pk 0x380012 n) e.serial
      let bins := e.bins.foldl (fun l b => storePut (fun _ => 0) l (n.val * 256 + b.1) b.2)
        (s.health.bins.filter fun b => b.1 / 256 ≠ n.val)
      { s.setBit (pk 0x380007 n) 5 true with health := { s.health with bins := bins } }
    else
      let s := ((s.clearFiring n).event (pk 0x380008 n) 5).setBit (pk 0x380007 n) 5 false
      let s := (s.setDomain (pk 0x380011 n) []).setObj (pk 0x380012 n) 0
      (s.modMram fun mr => { mr with health := dropKey mr.health n.val }).clearBins n
  | none =>
    ((s.clearFiring n).event (pk 0x380008 n) 5).setBit (pk 0x380007 n) 5 false

/-- The port enters IDLE after its enable checks (R143, R163, R166, R189). -/
def State.enterIdle (s : State) (n : Fin 16) (m : MramRead) : State :=
  let s := ((s.setObj (pk 0x310001 n) 1).setObj (pk 0x310010 n) 0).modPort n fun p => { p with
    window := 0, errors := 0, sentHead := none, sentData := none, sentSerial := none, echoDue := [],
    frameAt := s.clk, frameEnd := s.clk, next := none, cur := none, blanked := [], queue := [] }
  (s.thermalEnable n).restoreHealth n m

/-- CRC-8 of polynomial x^8 + x^5 + x^4 + 1 over the bits of a one-wire transfer in the order of the wire, initial value 0; a transfer with its CRC leaves 0 (R142, log entry 127). -/
def wireCrc (width v : Nat) : Nat := crcBits 8 0x31 0 (bitList width v)

/-- Both transfers of an attempt pass their CRC-8: 64 bits of the ROM identifier, and the 4-byte head type with its CRC (R142, log entry 127). -/
def idGood (r : IdAttempt) : Bool := wireCrc 64 (r.rom % 2 ^ 64) = 0 && wireCrc 40 (r.mem % 2 ^ 40) = 0

/-- The ID read of an enabling port has ended: a failed attempt is made once more (R142, R143). -/
def State.idRead (s : State) (n : Fin 16) (absent : Bool) (first second : IdAttempt) (m : MramRead) : State :=
  let crcFails := if idGood first then 0 else if idGood second then 1 else 2
  let r := if idGood first then first else second
  let serial := r.rom % 2 ^ 64
  let type := r.mem % 2 ^ 32
  let s := if absent || crcFails = 0 then s else (s.bumpN (pk 0x33000E n) crcFails).event (pk 0x310009 n) 7
  let s := if absent || 2 ≤ crcFails then s else (s.setObj (pk 0x310003 n) serial).setObj (pk 0x310004 n) type
  let res := s.enableResult n absent crcFails type
  let s := s.setObj (pk 0x310002 n) res
  if res = 1 then s.enterIdle n m
  else ((((s.setObj (pk 0x310001 n) 0).setObj (pk 0x300001 n) 0).event (pk 0x310009 n) 6).bump (pk 0x33000F n))

/-- ID_READ_DONE: no presence pulse, or what the first attempt read and what the second reads where the first fails its CRC-8; an enable then reads the health map entry (R142, R143, R329). -/
def execIdReadDone (n : Fin 16) (absent : Bool) (first second : IdAttempt) (t : IdEnd) (s : State) :
    Host.Outcome State Fault Refusal :=
  .next (State.settle (s.lanesSync
    (if s.portState n.val = 5 then (s.tick t.t).idRead n absent first second t.health else s)))

/-- The firing counters of a port that are not 0. -/
def State.firingList (s : State) (n : Fin 16) : List (Nat × Nat) :=
  ((List.range (s.nozzles n)).map fun u => (u, s.num (s.firingAddr n u) 5)).filter fun uc => uc.2 ≠ 0

/-- Stores the firing and nozzle bin counters of a port in its health map entry (R328, R638). -/
def State.storeHealth (s : State) (n : Fin 16) : State :=
  let e := (findKey s.mram.health n.val).getD { serial := 0, states := [], bins := [], firing := [] }
  let bins := (s.health.bins.filter fun b => b.1 / 256 = n.val).map fun b => (b.1 % 256, b.2)
  s.modMram fun mr => { mr with health := putKey s.mram.health n.val { e with
      serial := s.obj (pk 0x310003 n), bins := bins, firing := s.firingList n } }

/-- FE flushes are barred: lockstep mismatch with no ARM since, SAFE_L low, or PORT_FAULTED (R165). -/
def State.flushBarred (s : State) (n : Fin 16) : Bool :=
  s.clocks.safeLow || s.portState n.val = 4 || s.health.pairsSuspect ≠ 0

/-- The port takes part in no cycle any more: a cycle that was firing counts as fired, a cap fault is recorded, and what waits is dropped (R144, R161, R178, log entry 128). -/
def State.leaveCycles (s : State) (n : Fin 16) : State :=
  (((s.recordCaps n).countFiring n).dropCycles n).noteMargin n

/-- The lanes, CK and LD of a port rest from clock `t` on; a frame that is cut has no echo verdict (R137, R144, R174). -/
def State.cutFrame (t : Nat) (s : State) (n : Fin 16) : State :=
  s.modPort n fun p => { p with
    ldAt := if t < p.frameEnd ∨ p.ldAt.any (fun a => decide (t < a + 20)) then none else p.ldAt
    echoDue := if t < p.frameEnd then [] else p.echoDue, frameEnd := min p.frameEnd t }

/-- A port is turned off: it takes part in no cycle, stores its counters, and owes a flush of data its latches hold; its outputs rest at the end of a strobe in progress, or after the flush (R144, R165, R328). -/
def State.portOff (s : State) (n : Fin 16) : State :=
  let s := s.leaveCycles n
  let enabled := s.portState n.val ≠ 5
  let due := enabled && (s.port.get n).dirty && !s.flushBarred n
  let s := if enabled then (s.storeHealth n).thermalDisable n else s
  let s := (s.setObj (pk 0x300001 n) 0).setObj (pk 0x310001 n) 0
  let s := s.modPort n fun p => { p with flushDue := due, windup := none }
  if due then s else s.cutFrame (max s.clk (s.port.get n).pulseEnd) n

/-- A write of 0 to the port enable (R144). -/
def portDisableOp (n : Fin 16) (s : State) : Answer :=
  if s.idleEngine || s.engineState = 6 || (s.engineState = 5 && (s.port.get n).windup.isNone) then
    (if s.portState n.val = 0 then s else (s.endWindup n 3).portOff n).accept
  else s.refuse 0x08000022

/-- PORT_DISABLE (R144). -/
def execPortDisable (via : Via) (n : Fin 16) (t : Nat) (s : State) : Host.Outcome State Fault Refusal :=
  .next (State.settle (s.lanesSync ((s.tick t).access via (pk 0x300001 n) (portDisableOp n))))

/-- A port is enabled and past its ENABLING (R152). -/
def State.portOn (s : State) (n : Fin 16) : Bool :=
  s.portState n.val = 1 || s.portState n.val = 2 || s.portState n.val = 3 || s.portState n.val = 4

/-- CRC-8 of a header over H[55] down to H[0] (R147). -/
def headerCrc (h : Nat) : Nat := crcBits 8 0x07 0 (msbBits 56 h)

/-- The eight entries of COL_ORDER for a list of columns. -/
def colOrder : List Nat → Nat
  | [] => 0
  | k :: t => k % 8 + 8 * colOrder t

/-- The 64-bit frame header (R147). -/
def frameHeader (mask : Nat) (warm : Bool) (die : Nat) (serial : Bool) (order : List Nat) (m : Nat) : Nat :=
  let h := mask % 256 + b2n warm <<< 12 + (die % 4) <<< 13 + b2n serial <<< 15 + (colOrder order % 2 ^ 24) <<< 16 +
    (m % 256) <<< 40
  h + headerCrc h <<< 56

/-- Timing clocks of a number of bit times at divisor `d` and spread depth `ss` (R146, R150, R171), rounded up. -/
def bitClocks (bits d ss : Nat) : Nat := (bits * d * 500 + 2 * (1000 - ss) - 1) / (2 * (1000 - ss))

/-- Header bits that lane `l` sends in a four-lane frame, in the order of the wire: H[16 l + 15] first (R148). -/
def laneHeader (h l : Nat) : List Bool := msbBits 16 (h >>> (16 * l))

/-- Header bits of a Wind-up load on lane 0, in the order of the wire (R148). -/
def serialHeader (h : Nat) : List Bool := laneHeader h 0 ++ laneHeader h 1 ++ laneHeader h 2 ++ laneHeader h 3

/-- Data positions of a four-lane load (R146). -/
def lanePositions (r : Bytes) : Nat := (recCols r * recNoz r + 3) / 4

/-- Data bits that lane `l` sends in a four-lane load: chain bit 4 p + l at position p, 0 beyond the end of the chain (R149). -/
def laneData (r : Bytes) (chain l : Nat) : List Bool :=
  (List.range (lanePositions r)).map fun p => decide (4 * p + l < recCols r * recNoz r) && chain.testBit (4 * p + l)

/-- Exclusive-or of the four lanes, bit for bit (R162). -/
def foldLanes (lane : Nat → List Bool) : Nat :=
  ofBitList (List.zipWith xor (List.zipWith xor (lane 0) (lane 1)) (List.zipWith xor (lane 2) (lane 3)))

/-- What the head returns of a frame's header part in the next four-lane or header-only frame; on a Wind-up load lanes 1 to 3 stay low (R148, R162). -/
def headFold (p : Port) (cycle : Nat) (lines : List (Nat × Nat)) : EchoFold :=
  { cycle := cycle, lines := lines, len := 16
    bits := match p.kind with
      | .serial => ofBitList (laneHeader p.header 0)
      | .headerOnly => foldLanes (laneHeader p.header)
      | .fourLane => foldLanes (laneHeader p.header) }

/-- What the head returns of a frame's data part in the next four-lane load (R149, R162). -/
def dataFold (r : Bytes) (p : Port) (cycle : Nat) (lines : List (Nat × Nat)) : EchoFold :=
  { cycle := cycle, lines := lines, len := lanePositions r
    bits := match p.kind with
      | .serial => p.chain % 2 ^ lanePositions r
      | .headerOnly => 0
      | .fourLane => foldLanes (laneData r p.chain) }

/-- What the head returns of a Wind-up load in the next one: the load bit for bit (R162). -/
def serialFold (r : Bytes) (p : Port) : EchoFold :=
  let len := recCols r * recNoz r
  { cycle := 0xFFFFFFFF, lines := [], len := 64 + len
    bits := ofBitList (serialHeader p.header) + (p.chain % 2 ^ len) <<< 64 }

/-- Echo check is on and the head returns an echo (R163). -/
def State.echoOn (s : State) (n : Fin 16) : Bool := s.obj (pk 0x300006 n) = 1 && rb (s.record n) 0x12 = 1

/-- Parts of earlier frames whose echo returns with a frame of a kind (R162, R163). -/
def echoParts (p : Port) : FrameKind → List EchoFold
  | .headerOnly => p.sentHead.toList
  | .fourLane => p.sentHead.toList ++ p.sentData.toList
  | .serial => p.sentSerial.toList

/-- The folded bits of the frame just started are kept for its own echo (R163). -/
def keepFolds (r : Bytes) (cycle : Nat) (lines : List (Nat × Nat)) (p : Port) : Port :=
  { p with
    sentHead := some (headFold p cycle lines)
    sentData := if p.kind = .headerOnly then p.sentData else some (dataFold r p cycle lines)
    sentSerial := match p.kind with
      | .headerOnly => p.sentSerial
      | .fourLane => none
      | .serial => some (serialFold r p) }

/-- A frame of a cycle starts at clock `a`: DIE_SEL steps on, header and chain stand, the echo of earlier frames begins to return, and the frame's folded bits are kept (R146, R147, R152, R162, R163, R182, R191). -/
def State.startFrame (s : State) (n : Fin 16) (kind : FrameKind) (a d bits : Nat) (warm : Bool) (chain : Nat)
    (cycle : Nat) (lines : List (Nat × Nat)) (header : Nat → Nat) : State :=
  let die := if s.dies n ≤ 1 then 0 else ((s.port.get n).die + 1) % s.dies n
  let ss := s.obj (pk 0x300008 n)
  let r := s.record n
  let echo := s.echoOn n
  let s := s.setBit (pk 0x34001A n) 0 warm
  s.modPort n fun p => keepFolds r cycle lines { p with
    die := die, kind := kind, frameAt := a, frameEnd := a + bitClocks bits d ss, dieAt := a + bitClocks 16 d ss
    chain := chain, header := header die, echoDue := if echo then echoParts p kind else [] }

/-- WARM of a frame of an enabled port, which the port keeps for the decision of the next (R191). -/
def State.decideWarm (s : State) (n : Fin 16) : State :=
  let warm := s.portState n.val ≠ 0 && s.warmNext n
  s.modPort n fun p => { p with warm := warm }

/-- Shift time of a Wind-up load in ns, rounded up: 64 header bits and C Nc data bits on one lane (R148, R149, R168). -/
def State.windupShift (s : State) (n : Fin 16) : Nat :=
  let r := s.record n
  let bits := 64 + recCols r * recNoz r
  (bits * s.obj (pk 0x300012 n) * 1000 + 2 * (1000 - s.obj (pk 0x300008 n)) - 1) / (2 * (1000 - s.obj (pk 0x300008 n)))

/-- Timing clocks from the start of a Wind-up load to its FE pulse: the load and the latch transfer (R153, R169). -/
def State.windupLoad (s : State) (n : Fin 16) : Nat := (s.windupShift n + 121) / 2

/-- A load of a Wind-up has started, and its shot is still to come (R152, R169). -/
def State.windupLoading (s : State) (n : Fin 16) : Bool :=
  match (s.port.get n).windup with
  | some w => w.shots ≠ 0 && decide (w.due ≤ s.clk + s.windupLoad n)
  | none => false

/-- HEADER_ONLY_FRAME: 100 µs have passed since the latest frame of an enabled port (R152). -/
def execHeaderOnlyFrame (n : Fin 16) (t : Nat) (s : State) : Host.Outcome State Fault Refusal :=
  .next (State.settle
    (if s.timing && s.portOn n && decide ((s.port.get n).frameAt + 50000 ≤ t) && !(s.tick t).windupLoading n then
      let s := (s.tick t).decideWarm n
      let p := s.port.get n
      s.startFrame n .headerOnly s.clk (s.obj (pk 0x300002 n)) (16 + rb (s.record n) 0x13) p.warm p.chain 0xFFFFFFFF []
        fun die => frameHeader 0 p.warm die false (List.range 8) (field p.header 40 8)
    else s))

/-- Descriptor of slot `i` of column `k`. -/
def State.slot (s : State) (n : Fin 16) (k i : Nat) : Slot :=
  (findKey (s.port.get n).slots (16 * k + i)).getD { line := 0, cap := 0, ready := false, readyAt := 0, freed := none }

/-- SRAM address of slot `i` of column `k` of a port (R157). -/
def lineSlotAddr (n : Fin 16) (k i : Nat) : Nat := n.val * 0x10000 + k * 0x2000 + i * 0x200

/-- A column's slot is read LATE (R158, R504). -/
def State.lateColumn (s : State) (n : Fin 16) (k j : Nat) : State :=
  let s := ((s.bump (pk 0x330003 n)).bump (pk 0x330010 n + k)).event (pk 0x310009 n) 0
  let s := (s.setObj (pk 0x31000C n) j).setObj (pk 0x31000D n) k
  if (s.jigsaw.get n).lost.contains j then
    let s := if s.obj (0x520020 + n.val) = 0xFFFFFFFF then s.setObj (0x520020 + n.val) j else s
    let last := s.obj (0x520030 + n.val)
    if last = 0xFFFFFFFF ∨ lineAtOrBeyond j last then s.setObj (0x520030 + n.val) j else s
  else s

/-- Reads the slot of column `k` for a load: the cycle with its data or LATE, and an uncorrectable word; a READY written in the present clock comes too late (R28, R158, R180, R537). -/
def State.readSlot (n : Fin 16) (r : State × Cycle) (k : Nat) : State × Cycle :=
  let s := r.1
  let c := r.2
  if !c.part.testBit k then r
  else
    let j := s.lineOf n c.m k
    let d := s.slot n k (j % 16)
    if d.ready && d.line = j && decide (d.readyAt < s.clk) then
      let a := lineSlotAddr n k (j % 16)
      match s.badWord a ((recNoz (s.record n) + 7) / 8) with
      | some w => (s.sramUncorrectable w, { c with blank := 6 })
      | none =>
        let bits := s.num a ((recNoz (s.record n) + 7) / 8) % 2 ^ recNoz (s.record n)
        (s, { c with data := c.data ++ [(k, bits)], caps := c.caps ++ [(k, d.cap)] })
    else (s.lateColumn n k j, { c with late := c.late ||| 1 <<< k })

/-- The load of a cycle starts: header, chain and deadline stand (R106, R146 to R149, R156, R191). -/
def State.startLoad (s : State) (n : Fin 16) (c : Cycle) : State :=
  let r := s.record n
  let s := s.decideWarm n
  let warm := (s.port.get n).warm
  let c := { c with loadAt := some s.clk, released := true, warm := warm, warmWidth := s.obj (pk 0x340001 n) }
  let s := (s.setObj (pk 0x310001 n) 2).setObj (pk 0x310006 n) c.width
  let s := (s.setObj (pk 0x310007 n) c.gap).setObj (pk 0x32001A n) (pMin r c.width c.gap)
  let order := s.strobeOrder n c
  let lines := ((List.range 8).filter fun k => c.part.testBit k).map fun k => (k, s.lineOf n c.m k)
  let s := s.startFrame n .fourLane s.clk (s.obj (pk 0x300002 n)) (16 + lanePositions r + rb r 0x13) warm
    (chainBits r c.data) c.m lines fun die => frameHeader c.part warm die false order c.m
  s.modPort n fun p => { p with next := some c }

/-- The cycle is blanked at its load deadline: its slots are released, no load is made, and it keeps its reason to its first event (R159, R189, R194). -/
def State.loadBlanked (s : State) (n : Fin 16) (c : Cycle) (reason : Nat) : State :=
  (s.releaseSlots n c).modPort n fun p => { p with next := some { c with released := true, blank := reason } }

/-- Slot words that the load of a cycle reads: address and bytes of each slot (R157, R180). -/
def State.slotReads (s : State) (n : Fin 16) (c : Cycle) : List (Nat × Nat) :=
  ((List.range 8).filter fun k => c.part.testBit k).map fun k =>
    (lineSlotAddr n k (s.lineOf n c.m k % 16), (recNoz (s.record n) + 7) / 8)

/-- The load deadline of the port's next cycle; `finds` holds the slot words that the reads find in error (R106, R158, R159, R536, R537). -/
def State.loadStart (s : State) (n : Fin 16) (finds : List (Nat × Bool)) : State :=
  match (s.port.get n).next with
  | none => s
  | some c =>
    if c.loadAt.isSome || c.released then s
    else if s.firstReason n c ≠ 0 then s.loadBlanked n c (s.firstReason n c)
    else
      let r := (List.range 8).foldl (State.readSlot n) (s.findErrors (s.slotReads n c) finds, c)
      let t := r.1.releaseSlots n r.2
      if r.2.blank = 6 then t.modPort n fun p => { p with next := some { r.2 with released := true } }
      else t.startLoad n r.2

/-- The load of a cycle may start at the present clock: the latch transfer before it has ended, and in predicted mode its first event is no further than the load time and the load margin (R106). -/
def State.loadDue (s : State) (n : Fin 16) : Bool :=
  let p := s.port.get n
  let free := match p.cur with
    | none => true
    | some c => match c.latchAt with
      | some a => decide (a + 60 ≤ s.clk)
      | none => false
  free && match p.next with
    | none => true
    | some c => match earliest c.events with
      | some e => decide (2 * c.delayed.getD e ≤ 2 * s.clk + s.loadTime n + s.obj 0x230004)
      | none => true

/-- LOAD_START: the load deadline at clock `t` (R106, R158). -/
def execLoadStart (n : Fin 16) (reads : ReadAt) (s : State) : Host.Outcome State Fault Refusal :=
  .next (State.settle
    (if s.schedulerOn && (s.tick reads.t).loadDue n then (s.tick reads.t).loadStart n reads.finds else s))

/-- Some group of a cycle's load exceeds the cap of its column line (R161). -/
def State.overCap (s : State) (n : Fin 16) (c : Cycle) : Bool :=
  let r := s.record n
  c.data.any fun kb => (List.range (recGroups r)).any fun i =>
    decide (storeGet (fun _ => 0) c.caps kb.1 < groupCount r kb.2 i)

/-- The next cycle of a port that has stopped its cycles: one not in progress stays, to be blanked; else the one after those stopped is placed (R167, R692). -/
def State.resumePlacing (s : State) (n : Fin 16) (next cur : Option Cycle) : State :=
  match next, cur with
  | some c, _ => if c.waits then s.placeOn n else s.modPort n fun p => { p with next := some c }
  | none, some _ => s.placeOn n
  | none, none => s

/-- The port enters PORT_FAULTED: FE is held in the no-fire state, cycles in progress stop, and a Wind-up ends. Under action 0 the engine enters FAULT in the same clock, and that reason prevails (R167, R692). -/
def State.faultPort (s : State) (n : Fin 16) : State :=
  let p := s.port.get n
  let stays := p.next.filter fun c => !c.waits
  let s := s.cutPulse s.clk n
  let s := if stays.isSome then s.modPort n fun p => { p with next := none } else s
  let s := (s.stopCycles n (if s.obj (pk 0x30000A n) = 0 then 8 else 6)).cutFe s.clk n
  let s := ((s.setObj (pk 0x310001 n) 4).event (pk 0x310009 n) 3).raise 140 n.val 0
  let s := (s.endWindup n 3).modPort n fun p => { p with flushDue := false }
  if s.obj (pk 0x30000A n) = 0 then (s.modPort n fun p => { p with next := stays }).enterFault 140
  else s.resumePlacing n p.next p.cur

/-- The port counts an error in the window of R166 and enters PORT_FAULTED past its budget (R166, R167). -/
def State.portError (s : State) (n : Fin 16) : State :=
  let e := (s.port.get n).errors + 1
  let s := (s.modPort n fun p => { p with errors := e }).setObj (pk 0x310010 n) (min 255 e)
  if s.obj (pk 0x300007 n) < e && s.portState n.val ≠ 4 then s.faultPort n else s

/-- The load of the port's next cycle has ended (R146, R161). -/
def State.loadEnd (s : State) (n : Fin 16) : State :=
  match (s.port.get n).next with
  | none => s
  | some c =>
    match c.loadAt with
    | none => s
    | some a =>
      if c.loaded || s.clk < a + s.loadTime n / 2 then s
      else if s.overCap n c then
        let s := s.modPort n fun p => { p with next := some { c with loaded := true, blank := 7 } }
        let s := ((s.event (pk 0x310009 n) 2).bump (pk 0x330009 n)).raise 138 n.val c.m
        (if s.portState n.val = 2 && (s.port.get n).cur.isNone then s.setObj (pk 0x310001 n) 1 else s).portError n
      else s.modPort n fun p => { p with next := some { c with loaded := true } }

/-- LOAD_END: the load frame has ended at clock `t` (R146, R161). -/
def execLoadEnd (n : Fin 16) (t : Nat) (s : State) : Host.Outcome State Fault Refusal :=
  .next (State.settle (if s.schedulerOn then (s.tick t).loadEnd n else s))

/-- A latch transfer starts: the head copies chain and header (R153). -/
def State.latchNow (s : State) (n : Fin 16) : State :=
  s.modPort n fun p => { p with latches := p.chain, active := p.header, ldAt := some s.clk, dirty := true }

/-- The latch transfer of the next cycle is due: its load has ended, nothing blanks it, and its predicted first event is no more than 120 ns ahead (R153, R194). -/
def State.latchDue (s : State) (n : Fin 16) (d : Cycle) : Bool :=
  d.loaded && !d.latched && d.blank = 0 && s.firstReason n d = 0 && match earliest d.events with
    | some e => decide (d.delayed.getD e ≤ s.clk + 60)
    | none => false

/-- The latch transfer of the next cycle, where it is due. -/
def State.latchNext (s : State) (n : Fin 16) (d : Cycle) : State :=
  if s.latchDue n d then
    (s.latchNow n).modPort n fun p => { p with next := some { d with latchAt := some s.clk } }
  else s

/-- The latch transfer of a cycle: of one that has fired its first event, or ahead of the first event in predicted mode (R106, R112, R153, R194). -/
def State.latchTransfer (s : State) (n : Fin 16) : State :=
  match (s.port.get n).cur, (s.port.get n).next with
  | some c, nx =>
    if !c.latched then (s.latchNow n).modPort n fun p => { p with cur := some { c with latchAt := some s.clk } }
    else match nx with
      | some d =>
        if c.events.isEmpty && (s.port.get n).queue.isEmpty && decide ((s.port.get n).slotEnd ≤ s.clk) then s.latchNext n d
        else s
      | none => s
  | none, some d => s.latchNext n d
  | none, none => s

/-- LATCH_TRANSFER: LD pulses for a cycle whose load has ended (R153). -/
def execLatchTransfer (n : Fin 16) (t : Nat) (s : State) : Host.Outcome State Fault Refusal :=
  .next (State.settle (if s.timing && s.portState n.val ≠ 4 then (s.tick t).latchTransfer n else s))

/-- The front group slot of the queue issues its pulse, 120 ns after the latch transfer at the earliest (R97, R100, R153 to R155). -/
def State.strobe (s : State) (n : Fin 16) : State :=
  let p := s.port.get n
  match p.cur, p.queue with
  | some c, (k, i) :: rest =>
    if (c.latchAt.any fun a => decide (a + 60 ≤ s.clk)) && decide (p.slotEnd ≤ s.clk) then
      let first := c.pulses.isEmpty
      let empty := groupCount (s.record n) (storeGet (fun _ => 0) c.data k) i = 0
      let w := if c.warm && empty then c.warmWidth else c.width
      let c := { c with pulses := storePut (fun _ => 0) c.pulses k (storeGet (fun _ => 0) c.pulses k + 1) }
      let s := s.modPort n fun p => { p with
        cur := some c, queue := rest, pulseCol := k,
        pulseEnd := s.clk + w / 2, slotEnd := s.clk + (c.width + c.gap) / 2 }
      if first && p.next.isNone then s.placeOn n else s
    else s
  | _, _ => s

/-- STROBE (R154). -/
def execStrobe (n : Fin 16) (t : Nat) (s : State) : Host.Outcome State Fault Refusal :=
  .next (State.settle (if s.timing && s.engineState ≠ 6 then (s.tick t).strobe n else s))

/-- The cycle being strobed has ended (R97, R172, R178, R186). -/
def State.cycleEnd (s : State) (n : Fin 16) : State :=
  let p := s.port.get n
  match p.cur with
  | none => s
  | some c =>
    if c.events.isEmpty && p.queue.isEmpty && decide (p.slotEnd ≤ s.clk) then
      let s := (s.countCycle n false).setObj (pk 0x31000A n) c.m
      let s := s.modPort n fun p => { p with cur := none, prevFirst := c.firstAt, prevEnd := some p.slotEnd }
      let s := if s.portState n.val = 2 && !(p.next.any fun d => d.loadAt.isSome) then s.setObj (pk 0x310001 n) 1 else s
      let s := if p.next.isNone then s.placeOn n else s
      (s.startConversion n).updateModels n (cycleEnergy (s.record n) c)
    else s

/-- CYCLE_END (R97). -/
def execCycleEnd (n : Fin 16) (t : Nat) (s : State) : Host.Outcome State Fault Refusal :=
  .next (State.settle (if s.timing then (s.tick t).cycleEnd n else s))

/-- Rewrites the status bytes of a cycle's lines with the ECHO flag (R164, R396). -/
def State.markEcho (s : State) (n : Fin 16) (lines : List (Nat × Nat)) : State :=
  lines.foldl (fun s kj =>
    let a := s.histEntry n kj.2 + 0x10 + kj.1
    s.stackPut a (leBytes 1 (putBit (s.num a 1) 4 true))) s

/-- The parts of an echo that differ from the bits received, in the order in which they return (R163). -/
def echoBad : List EchoFold → Nat → List EchoFold
  | [], _ => []
  | f :: t, bits => if bits % 2 ^ f.len = f.bits then echoBad t (bits >>> f.len) else f :: echoBad t (bits >>> f.len)

/-- Port cycle number of the first part that belongs to a cycle; none reads 0xFFFFFFFF (R164). -/
def foldCycle (l : List EchoFold) : Nat :=
  match l.find? fun f => f.cycle ≠ 0xFFFFFFFF with
  | some f => f.cycle
  | none => 0xFFFFFFFF

/-- The echo bits that have returned are compared with the folded bits kept: the verdict for the previous frame (R163, R164). -/
def State.echoVerdict (s : State) (n : Fin 16) (bits : Nat) : State :=
  let bad := echoBad (s.port.get n).echoDue bits
  let s := s.modPort n fun p => { p with echoDue := [] }
  if bad.isEmpty then s
  else
    let m := foldCycle bad
    let s := bad.foldl (fun s f => s.markEcho n f.lines) s
    let s := (s.event (pk 0x310009 n) 1).bump (pk 0x330008 n)
    let s := (s.setObj (pk 0x31000B n) m).raise 139 n.val m
    if s.portOn n then s.portError n else s

/-- ECHO_VERDICT: 32 ns after the last trailing bit the verdict on the echo bits received, the first in bit 0, is available (R163, R164). -/
def execEchoVerdict (n : Fin 16) (bits t : Nat) (s : State) : Host.Outcome State Fault Refusal :=
  .next (State.settle
    (if s.timing && !(s.port.get n).echoDue.isEmpty && decide ((s.port.get n).frameEnd + 16 ≤ t) then
      (s.tick t).echoVerdict n bits
    else s))

/-- A Wind-up whose shots are over has been flushed: it ends with its result (R169, R170). -/
def State.flushWindup (s : State) (n : Fin 16) : State :=
  match (s.port.get n).windup with
  | some w => if w.shots = 0 then (s.endWindup n w.ending).modPort n fun p => { p with flushDue := false } else s
  | none => s

/-- The flush frame: all chain bits 0, then a latch transfer without FE (R165). -/
def State.flushFrame (s : State) (n : Fin 16) : State :=
  let r := s.record n
  let s := s.decideWarm n
  let warm := (s.port.get n).warm
  let s := s.startFrame n .fourLane s.clk (s.obj (pk 0x300002 n)) (16 + lanePositions r + rb r 0x13) warm 0 0xFFFFFFFF []
    fun die => frameHeader 0 warm die false (List.range 8) 0
  (s.modPort n fun p => { p with
    latches := 0, active := p.header, ldAt := some p.frameEnd, dirty := false, flushDue := false }).flushWindup n

/-- A flush that the port owes may be sent: every strobe in progress has completed (R165). -/
def State.flushReady (s : State) (n : Fin 16) : Bool :=
  let p := s.port.get n
  s.timing && p.flushDue && p.cur.isNone && !s.clocks.safeLow && s.portState n.val ≠ 4 && decide (p.pulseEnd ≤ s.clk)

/-- FLUSH_FRAME (R165). -/
def execFlushFrame (n : Fin 16) (t : Nat) (s : State) : Host.Outcome State Fault Refusal :=
  .next (State.settle (if (s.tick t).flushReady n then (s.tick t).flushFrame n else s))

/-- A refused Wind-up start (R168). -/
def State.windupRefused (s : State) (n : Fin 16) (result code : Nat) : Answer :=
  (((s.setObj (pk 0x31000E n) result).event (pk 0x310009 n) 5).bump (pk 0x33000B n)).refuse code

/-- A Wind-up start is within the limits of R168. -/
def State.windupLimits (s : State) (n : Fin 16) : Bool :=
  let r := s.record n
  rb r 0x16 ≤ s.obj (pk 0x300012 n) &&
    fieldIn (s.obj (pk 0x300011 n)) (rw16 r 0x18) (rw16 r 0x1A) &&
    s.windupShift n + 120 + s.obj (pk 0x300011 n) ≤ s.obj (pk 0x300014 n) * 1000

/-- A write of 1 to the Wind-up command; `finds` holds the source words that the reads find in error (R168, R532, R536, R537). -/
def windupStartOp (n : Fin 16) (finds : List (Nat × Bool)) (s : State) : Answer :=
  let len := (recCols (s.record n) * recNoz (s.record n) + 7) / 8
  let src := s.obj (pk 0x300010 n)
  let data := leNat (s.sramRead src len).1 % 2 ^ (recCols (s.record n) * recNoz (s.record n))
  let bits := popCount (8 * len) data
  if !((s.engineState = 1 || s.engineState = 5) && s.portState n.val = 1 && (s.port.get n).cur.isNone &&
      (s.port.get n).next.all (·.loadAt.isNone)) then s.windupRefused n 5 0x08000022
  else
    let s := (s.sramRead src len).2.findErrors [(src, len)] finds
    match s.badWord src len with
    | some w => if s.windupLimits n then (s.sramUncorrectable w).windupRefused n 6 0x06060000 else s.windupRefused n 6 0x06090030
    | none =>
      let s := s.setObj (pk 0x31000F n) bits
      if 512 < bits then s.windupRefused n 4 0x06090030
      else if !s.windupLimits n then s.windupRefused n 6 0x06090030
      else
        let s := (s.setObj (pk 0x31000E n) 1).setObj (pk 0x310001 n) 3
        let w := { data := data, shots := s.obj (pk 0x300013 n), due := s.clk + s.windupLoad n, ending := 2 }
        (s.modPort n fun p => { p with windup := some w }).accept

/-- WINDUP_START (R168). -/
def execWindupStart (via : Via) (n : Fin 16) (reads : ReadAt) (s : State) : Host.Outcome State Fault Refusal :=
  .next (State.settle ((s.tick reads.t).access via (pk 0x300015 n) (windupStartOp n reads.finds)))

/-- Column bits of chain data for one column. -/
def chainColumn (r : Bytes) (chain k : Nat) : Nat :=
  (List.range (recNoz r)).foldl (fun acc q => if chain.testBit (chainPos r k q) then acc ||| 1 <<< q else acc) 0

/-- Set bits of Wind-up data on die `d`. -/
def dieBits (r : Bytes) (chain d : Nat) : Nat :=
  ((List.range (recCols r)).map fun k =>
    if colDie r k = d then popCount (recNoz r) (chainColumn r chain k) else 0).sum

/-- A Wind-up makes no further shot: the flush is owed, and it reports the result (R165, R169, R170). -/
def State.closeWindup (s : State) (n : Fin 16) (result : Nat) : State :=
  s.modPort n fun p => { p with
    flushDue := true, windup := p.windup.map fun w => { w with shots := 0, ending := result } }

/-- The serial load of a Wind-up shot whose FE pulse starts at the present clock (R148, R149, R169). -/
def State.windupFrame (s : State) (n : Fin 16) (w : Windup) : State :=
  let r := s.record n
  s.startFrame n .serial (s.clk - s.windupLoad n) (s.obj (pk 0x300012 n)) (64 + recCols r * recNoz r + rb r 0x13) false
    w.data 0xFFFFFFFF [] fun die => frameHeader (2 ^ recCols r - 1) false die true (List.range 8) 0

/-- The transfer and the pulse of a Wind-up shot, with its counters, nozzle counts and heat (R153, R166, R169, R186). -/
def State.windupPulse (s : State) (n : Fin 16) (w : Windup) : State :=
  let r := s.record n
  let width := s.obj (pk 0x300011 n)
  let s := s.modPort n fun p => { p with pulseEnd := s.clk + width / 2, slotEnd := s.clk + width / 2 }
  let s := (s.latchNow n).modPort n fun p => { p with ldAt := some (s.clk - 60) }
  let s := (s.bump (pk 0x33000A n)).windowStep n
  let s := (List.range (recCols r)).foldl (fun s k => s.countNozzles n k (chainColumn r w.data k)) s
  s.updateModels n fun d => pulseEnergy r (dieBits r w.data d) width

/-- One Wind-up shot: serial load, transfer and one pulse; under the limit latch the Wind-up ends before it (R165, R166, R169, R170, R194). -/
def State.windupShot (s : State) (n : Fin 16) (w : Windup) : State :=
  if s.bit (pk 0x34001A n) 3 then s.closeWindup n 3
  else
    let s := s.windupFrame n w
    let next := { w with shots := w.shots - 1, due := s.clk + s.obj (pk 0x300014 n) * 500 }
    let s := (s.modPort n fun p => { p with windup := some next }).windupPulse n w
    if w.shots ≤ 1 then s.closeWindup n w.ending else s

/-- WINDUP_SHOT: the FE pulse of a shot starts, the Wind-up interval after the one before it (R169). -/
def execWindupShot (n : Fin 16) (t : Nat) (s : State) : Host.Outcome State Fault Refusal :=
  .next (State.settle
    (match (s.port.get n).windup with
     | some w =>
       if s.timing && s.portState n.val = 3 && decide (w.shots ≠ 0) && decide (w.due ≤ t) then (s.tick t).windupShot n w else s
     | none => s))

/-- A write of 2 to the Wind-up command: the Wind-up ends after the shot whose load has started, or with none in progress at its flush (R170). -/
def windupStopOp (n : Fin 16) (s : State) : Answer :=
  match (s.port.get n).windup with
  | none => s.accept
  | some w =>
    if s.windupLoading n then
      (s.modPort n fun p => { p with windup := some { w with shots := 1, ending := 3 } }).accept
    else (s.closeWindup n 3).accept

/-- WINDUP_STOP (R170). -/
def execWindupStop (via : Via) (n : Fin 16) (t : Nat) (s : State) : Host.Outcome State Fault Refusal :=
  .next (State.settle ((s.tick t).access via (pk 0x300015 n) (windupStopOp n)))

/-- A write of the word with DESC_CAP and READY (R180). -/
def slotDescOp (n : Fin 16) (k i cap : Nat) (ready : Bool) (s : State) : Answer :=
  let d := s.slot n k i
  (s.modPort n fun p => { p with
    slots := putKey p.slots (16 * k + i) { d with cap := cap % 2 ^ 13, ready := ready, readyAt := s.clk } }).accept

/-- SLOT_DESC_WRITE (R180). -/
def execSlotDescWrite (n : Fin 16) (k : Fin 8) (i : Fin 16) (cap : Nat) (ready : Bool) (t : Nat) (s : State) :
    Host.Outcome State Fault Refusal :=
  .next (State.settle ((s.tick t).access .reg (pk 0x300000 n) (slotDescOp n k.val i.val cap ready)))

end Sys2Proof.Machine
end

