-- ==== Sys2Proof/Machine/Screen.lean ====
section
/-! DEFINITION. The stages that turn contone into screened bits: fetch, upscale, linearise, gain, error diffusion, sideways diffusion and bit mode (R255 to R269). -/

namespace Sys2Proof.Machine

/-- The line fetched for a job line: of the repeat while repeat is enabled (R243, R258). -/
def State.fetchLine (s : State) (j : Nat) : Nat := if s.repeatOn then j % max 1 (s.obj 0x250021) else j

/-- The byte of the stored tile of plane `p` and tile column `col`, at row `i` of the tile and byte `b` of the row (R219, R234). -/
def State.tileByte (s : State) (row p col i b : Nat) : Nat :=
  (s.byte (s.tileAddr s.repeatOn row p col + i * tileWidth s.inputMode col + b)).toNat

/-- Contone byte at column `k` of a row of `w`-byte tiles; aprons of `e` columns on each side, 0 beyond or where an apron is not enabled (R242, R255, R258, R259). -/
def State.contoneByte (s : State) (row p i w e : Nat) (k : Int) : Nat :=
  if k < -(e : Int) then 0
  else if k < 0 then (if s.bit 0x250013 0 then s.tileByte row p 16 i (k + e).toNat else 0)
  else if k < (16 * w : Nat) then s.tileByte row p (k.toNat / w) i (k.toNat % w)
  else if k < (16 * w + e : Nat) then (if s.bit 0x250013 1 then s.tileByte row p 17 i (k.toNat - 16 * w) else 0)
  else 0

/-- 600 dpi source code of plane `p` at source column `k`, in the source row of job line `j` (R259). -/
def State.src (s : State) (p j : Nat) (k : Int) : Nat :=
  let l := s.fetchLine j
  s.contoneByte (l / 256) p (l % 256 / 2) 512 32 k

/-- The job line whose source row filter 1 takes beside that of line `j`: the line before an even one or after an odd one, within the job (R259). -/
def State.otherLine (s : State) (j : Nat) : Nat :=
  if j % 2 = 0 then j - 1
  else match s.lastLine with
    | some l => if l < j + 1 then j else j + 1
    | none => j + 1

/-- The 8-bit code of plane `p` at image position `x` on job line `j` (R258, R259). -/
def State.code (s : State) (p j : Nat) (x : Int) : Nat :=
  if x < -64 ∨ 16447 < x then 0
  else if s.inputMode = 0 then
    let k := floorShift x 1
    if s.obj 0x240002 = 0 then s.src p j k
    else
      let k' := if x % 2 = 0 then k - 1 else k + 1
      let j' := s.otherLine j
      (9 * s.src p j k + 3 * s.src p j' k + 3 * s.src p j k' + s.src p j' k' + 8) / 16
  else
    let l := s.fetchLine j
    s.contoneByte (l / 256) p (l % 256) 1024 64 x

/-- The input bit of plane `p` at image position `x` on job line `j` in mode 2 (R219, R262). -/
def State.inputBit (s : State) (p j : Nat) (x : Int) : Bool :=
  if x < 0 ∨ 16383 < x then false
  else
    let l := s.fetchLine j
    (s.tileByte (l / 256) p (x.toNat / 1024) (l % 256) (x.toNat % 1024 / 8)).testBit (x.toNat % 8)

/-- The rows that a job line needs are complete (R258, R260). -/
def State.rowsReady (s : State) (j : Nat) : Bool :=
  let ready := fun (j : Nat) => s.rowComplete s.repeatOn (s.fetchLine j / 256)
  ready j && (!(s.inputMode = 0 && s.obj 0x240002 = 1) || ready (s.otherLine j))

/-- Entry `u` of the LUT of plane `p`, the identity where none has been written (R261, R298). -/
def State.lut (s : State) (p u : Nat) : Nat :=
  let d := s.domain (0x240030 + p)
  if d.isEmpty then (4095 * u + 127) / 255 else leAt d (2 * u) 2 % 4096

/-- The gained value of a code (R261). -/
def gained (lut g : Nat) : Nat := min 4095 ((lut * g + 512) >>> 10)

/-- Threshold jitter (R267). -/
def jitter (j x p a : Nat) : Int :=
  let h := (j * 0x9E3779B1 + x * 0x85EBCA6B + p * 0xC2B2AE35) % 2 ^ 32
  let h := h ^^^ h >>> 16
  let h := h * 0x7FEB352D % 2 ^ 32
  let h := h ^^^ h >>> 15
  (((h % 65536) * (2 * a + 1)) >>> 16 : Nat) - (a : Int)

/-- One position of a plane on its way through screening: gained value, error row entry, threshold, dead pair, and the receivers that remain to its right (R265, R269). -/
structure Pos where
  a : Nat
  row : Int
  thr : Int
  dead : Bool
  right : Nat

/-- What screening carries from position to position: the carry to the right, the sideways carries of the next two receivers, the outputs and shares so far, latest first, and the counts (R265, R266, R269). -/
structure Carry where
  right : Int
  side1 : Int
  side2 : Int
  dots : List Bool
  shares : List (Int × Int × Int)
  clamps : Nat
  lost : Nat

/-- Clamps and counts each change. -/
def clampCount (lo hi v : Int) (n : Nat) : Int × Nat := (clampI lo hi v, if v < lo ∨ hi < v then n + 1 else n)

/-- A dead pair passes its sum sideways (R269). -/
def Carry.dead (c : Carry) (p : Pos) : Carry :=
  let v := p.a + p.row + c.right
  let c := { c with right := 0, dots := false :: c.dots, shares := (0, 0, 0) :: c.shares }
  if p.right = 0 then { c with lost := c.lost + 1 }
  else
    let first := if p.right = 1 then v else floorShift (10 * v) 4
    let s1 := clampCount (-16384) 16383 (c.side1 + first) c.clamps
    let s2 := clampCount (-16384) 16383 (c.side2 + (v - first)) s1.2
    { c with side1 := s1.1, side2 := s2.1, clamps := s2.2 }

/-- A live position is screened (R265, R266); `first` and `last` mark the ends of the range, `span` a position that receives sideways shares. -/
def Carry.live (c : Carry) (wts : Nat) (first last span : Bool) (p : Pos) : Carry :=
  let side := if span then c.side1 else 0
  let v := p.a + p.row + c.right + side
  let dot := decide (p.thr ≤ v)
  let e := clampCount (-2048) 2047 (v - (if dot then 4095 else 0)) c.clamps
  let share := fun (w : Nat) => floorShift (w * e.1) 4
  let sr := share (field wts 0 4)
  let sdl := share (field wts 4 4)
  let sdr := share (field wts 12 4)
  let sd := e.1 - sr - sdl - sdr
  let sd := sd + (if first then sdl else 0) + (if last then sr + sdr else 0)
  { right := if last then 0 else sr,
    side1 := if span then c.side2 else c.side1, side2 := if span then 0 else c.side2,
    dots := dot :: c.dots,
    shares := (if first then 0 else sdl, sd, if last then 0 else sdr) :: c.shares,
    clamps := e.2, lost := c.lost }

/-- One position of `w` + 128, counted from the left end of the range. -/
def Carry.step (wts w : Nat) (c : Carry) (ip : Nat × Pos) : Carry :=
  let i := ip.1
  if ip.2.dead then c.dead ip.2
  else c.live wts (i = 0) (i + 1 = w + 128) (64 ≤ i && i < w + 64) ip.2

/-- The next line's row entries, from the shares of the positions in order (R266). -/
def nextRow (sh : List (Int × Int × Int)) : List Int :=
  (List.range sh.length).map fun i =>
    (if i = 0 then 0 else (sh.getD (i - 1) (0, 0, 0)).2.2) + (sh.getD i (0, 0, 0)).2.1 +
      (sh.getD (i + 1) (0, 0, 0)).1

/-- The result of screening one plane of a line: bits of the span, row for the next line, clamps and sideways losses. -/
structure Screened where
  bits : List Bool
  row : List Int
  clamps : Nat
  lost : Nat

/-- One plane screened from its positions in order (R254, R265 to R269). -/
def screenPlane (wts w : Nat) (ps : List Pos) : Screened :=
  let c := (List.zip (List.range ps.length) ps).foldl (Carry.step wts w)
    { right := 0, side1 := 0, side2 := 0, dots := [], shares := [], clamps := 0, lost := 0 }
  let raw := nextRow c.shares.reverse
  { bits := (c.dots.reverse.drop 64).take w, row := raw.map (clampI (-2048) 2047),
    clamps := c.clamps + (raw.filter fun v => decide (v < -2048 ∨ 2047 < v)).length, lost := c.lost }

/-- The map that applies to job line `j` of a port (R120, R281). -/
def State.mapFor (s : State) (n : Fin 16) (j : Nat) : Bytes :=
  if s.usesShadow n j then s.shadowMap n else s.forceMap n

/-- Address of the gain table that applies to job line `j` of a port (R281). -/
def State.gainFor (s : State) (n : Fin 16) (j : Nat) : Nat :=
  if s.usesShadow n j then s.gainShadow n else s.gainForce n

/-- Commit sequence of the set that applies to job line `j` of a port (R273). -/
def State.setSeqFor (s : State) (n : Fin 16) (j : Nat) : Nat :=
  if s.usesShadow n j then s.obj 0x230014 else storeGet (fun _ => 0) s.sched.setSeq n.val

/-- Image position of head position `q` under walk shift `sh` (R255). -/
def State.imagePos (s : State) (q : Int) (sh : Int) : Int := if s.obj 0x240006 = 0 then q + sh else q - sh

/-- The positions of plane slot `ps` of job line `j`, over the span and both warm-ups (R254, R261, R265, R267). -/
def State.positions (s : State) (n : Fin 16) (j : Nat) (sh : Int) (ps : Nat) : List Pos :=
  let w := s.spanWidth n
  let f := s.spanFirst n
  let p := s.planeOf n ps
  let m := s.mapFor n j
  let row := (s.render.port.get n).row
  let dead := fun (i : Nat) => 64 ≤ i && i < w + 64 && deadPair m (ps * w + (i - 64))
  (List.range (w + 128)).map fun (i : Nat) =>
    let q : Int := ((f + i : Nat) : Int) - 64
    let x := s.imagePos q sh
    let g := if 64 ≤ i ∧ i < w + 64 then s.num (s.gainFor n j + 2 * (ps * w + (i - 64))) 2 % 4096 else 0x400
    { a := gained (s.lut p (s.code p j x)) g, row := row.getD (ps * (w + 128) + i) 0,
      thr := 2048 + jitter j (toBits 32 x) p (s.obj 0x240004), dead := dead i,
      right := ((List.range (w + 64)).filter fun k => decide (i < k) && decide (64 ≤ k) && !dead k).length }

/-- A set bit on a dead pair at `q` moves to one of the next two positions, or is dropped (R264). -/
def moveBit (dead : Nat → Bool) (st : List Bool × Nat) (q : Nat) : List Bool × Nat :=
  let b := st.1
  let free := fun (k : Nat) => decide (k < b.length) && !dead k && !(b.getD k true)
  if b.getD q false && dead q then
    let b' := setNth b q false
    if free (q + 1) then (setNth b' (q + 1) true, st.2)
    else if free (q + 2) then (setNth b' (q + 2) true, st.2)
    else (b', st.2 + 1)
  else st

/-- One plane of a line in mode 2: bits of the span and bits dropped (R262, R264). -/
def State.bitPlane (s : State) (n : Fin 16) (j : Nat) (sh : Int) (ps : Nat) : List Bool × Nat :=
  let w := s.spanWidth n
  let m := s.mapFor n j
  let bits := (List.range w).map fun i => s.inputBit (s.planeOf n ps) j (s.imagePos ((s.spanFirst n + i : Nat) : Int) sh)
  (List.range w).foldl (moveBit fun q => deadPair m (ps * w + q)) (bits, 0)

/-- Bits packed eight to a byte, bit i of the line in bit i mod 8 (R273). -/
def packBits (b : List Bool) : Bytes := leBytes ((b.length + 7) / 8) (ofBitList b)

/-- The band that job line `j` belongs to: 189 lines from its start (R409). -/
def State.bandAt (s : State) (j : Nat) : Option Band :=
  s.analyser.bands.find? fun b => decide ((j + 2 ^ 32 - b.start % 2 ^ 32) % 2 ^ 32 < 189)

/-- The tests that a band prints on its line `r`: those of the rung whose lines 2 to 13 it is (R410). -/
def Band.testsOn (b : Band) (r : Nat) : List BandTest :=
  let i := r - 13
  if 13 ≤ r ∧ r < 173 ∧ 2 ≤ i % 16 ∧ i % 16 ≤ 13 then
    (b.tests.filter fun t => t.1 = i / 16).map fun t => t.2.2
  else []

/-- A test prints plane `p` at head position `q` of job line `j` (R410, R413). -/
def BandTest.prints (t : BandTest) (j p q : Nat) : Bool :=
  t.plane = p && (if t.geometry then q % 32 = 0 else decide (t.first ≤ q) && decide (q ≤ t.first + 32) && (j + q) % 2 = 0)

/-- The test that prints plane `p` at head position `q` of job line `j` of a band. -/
def Band.testFor (b : Band) (j p q : Nat) : Option BandTest := (b.testsOn ((j + 2 ^ 32 - b.start % 2 ^ 32) % 2 ^ 32)).find? fun t => t.prints j p q

/-- The bits of a band line of a port (R410). -/
def State.bandBits (s : State) (n : Fin 16) (b : Band) (j : Nat) : List Bool :=
  (List.range (s.planes n)).flatMap fun ps => (List.range (s.spanWidth n)).map fun i =>
    (b.testFor j (s.planeOf n ps) (s.spanFirst n + i)).isSome

/-- Job line `j` of a port screened with walk shift `sh` (R257, R273); a band's bits stand in place of screening, and the error row passes unchanged (R410). -/
def State.screenLine (s : State) (n : Fin 16) (j : Nat) (sh : Int) : RenderLine :=
  let base : RenderLine :=
    { line := j, setSeq := s.setSeqFor n j, shift := sh, lane := s.laneOf n, bits := [], row := [],
      clamps := 0, lost := 0, dropped := 0 }
  match s.bandAt j with
  | some b => { base with bits := packBits (s.bandBits n b j), row := (s.render.port.get n).row }
  | none =>
  if s.inputMode = 2 then
    let out := (List.range (s.planes n)).map (s.bitPlane n j sh)
    { base with bits := packBits (out.flatMap Prod.fst), dropped := (out.map Prod.snd).sum }
  else
    let out := (List.range (s.planes n)).map fun p =>
      screenPlane (s.obj 0x240003) (s.spanWidth n) (s.positions n j sh p)
    { base with bits := packBits (out.flatMap Screened.bits), row := out.flatMap Screened.row,
                clamps := (out.map Screened.clamps).sum, lost := (out.map Screened.lost).sum }

end Sys2Proof.Machine
end

