-- ==== Sys2Proof/Machine/Render.lean ====
section
/-! DEFINITION. Render: starting, skipping and completing port lines, checkpoints, and the rotation of lanes (07_render_pipeline.md; R643 to R645). -/

namespace Sys2Proof.Machine

/-- Next job line to screen of a port (0x2400:60+n). -/
def State.renderLine (s : State) (n : Fin 16) : Nat := s.obj (0x240060 + n.val)

/-- Engine states in which render takes lines (R272). -/
def State.renderRuns (s : State) : Bool := 2 ≤ s.engineState && s.engineState ≤ 5

/-- Job line `j` lies within the job's last line, which DRAINING alone looks at (R272). -/
def State.withinJob (s : State) (j : Nat) : Bool :=
  s.engineState ≠ 4 || match s.lastLine with
    | some l => lineAtOrBeyond l j
    | none => true

/-- Fire line of a port, none at -1 (R25). -/
def State.fireLine (s : State) (n : Fin 16) : Option Nat :=
  if s.obj (pk 0x32001C n) = 0xFFFFFFFF then none else some (s.obj (pk 0x32001C n))

/-- Line `j` has been reached by the fire line (R271). -/
def State.behind (s : State) (n : Fin 16) (j : Nat) : Bool :=
  match s.fireLine n with
  | some f => lineAtOrBeyond f j
  | none => false

/-- Distance of line `j` beyond the fire line of a port, whose code of -1 is line -1 modulo 2^32 (R7, R25). -/
def State.beyondFire (s : State) (n : Fin 16) (j : Nat) : Int := lineDiff j (s.obj (pk 0x32001C n))

/-- Line `j` lies within the run-ahead depth (R270). -/
def State.withinDepth (s : State) (n : Fin 16) (j : Nat) : Bool := s.beyondFire n j ≤ s.obj 0x240001

/-- Lead of a port: its next line minus its fire line (R290). -/
def State.lead (s : State) (n : Fin 16) : Int := s.beyondFire n (s.renderLine n)

/-- A port could start its next line: within job and depth, with its rows complete (R270). -/
def State.canStart (s : State) (n : Fin 16) : Bool :=
  let j := s.renderLine n
  s.withinJob j && s.withinDepth n j && s.rowsReady j

/-- The port's lane is free, and on a shared lane it is the port's turn (R290). -/
def State.laneFree (s : State) (n : Fin 16) : Bool :=
  s.renderedPorts.all fun m =>
    m = n || s.laneOf m ≠ s.laneOf n ||
      ((s.render.port.get m).busy.isNone &&
        (!s.canStart m || s.behind m (s.renderLine m) || s.lead n < s.lead m ||
          (s.lead n = s.lead m && n.val < m.val)))

/-- The walk shift of line `j` before it is clamped (R292). -/
def State.walkShift (s : State) (n : Fin 16) (j : Nat) : Int :=
  if s.obj 0x240005 = 0 then 0
  else match s.firstColumn n with
    | none => 0
    | some k =>
      let y := (j * 65536 + s.offset n k * 65536 + s.trim n k j * 256) % 2 ^ 48
      floorShift (s.walkPlan y + 0x8000) 16

/-- The header of the checkpoint of boundary `b` (R276). -/
def State.ckptHeader (s : State) (n : Fin 16) (b : Nat) (row : Bytes) : Bytes :=
  let seq := if b = 0 then storeGet (fun _ => 0) s.sched.setSeq n.val else s.setSeqFor n (b - 1)
  leBytes 4 b ++ leBytes 1 n.val ++ leBytes 1 (s.planeMask n) ++ leBytes 2 (s.spanWidth n) ++
    leBytes 2 (s.spanFirst n) ++ leBytes 2 row.length ++ leBytes 4 seq ++ leBytes 4 (crc32c row) ++
    List.replicate 44 0#8

/-- The error row of a port as a checkpoint holds it (R276). -/
def State.rowImage (s : State) (n : Fin 16) : Bytes :=
  if s.bitMode then []
  else
    let r := (s.render.port.get n).row
    padTo (s.rowBytes n) (packRow ((List.range (s.rowLen n)).map fun i => r.getD i 0))

/-- At a tile boundary the error row entering the line is written to its checkpoint (R276, R277). -/
def State.checkpoint (s : State) (n : Fin 16) (j : Nat) : State :=
  let s := s.modRenderPort n fun p => { p with ckpts := p.ckpts.filter fun b => decide (lineDiff j b < 4096) }
  if j % 256 = 0 then
    let row := s.rowImage n
    let s := s.stackPut (s.ckptAddr n j) (s.ckptHeader n j row ++ row)
    s.modRenderPort n fun p => { p with ckpts := j :: p.ckpts }
  else s

/-- The line's queue entry could not be written: Jigsaw passes it over, its history entry stays unwritten, and it blanks for it (R503, R504). -/
def State.loseEntry (s : State) (n : Fin 16) (j : Nat) : State :=
  s.modJigsaw n fun p => { p with unqueued := j :: p.unqueued, lost := j :: p.lost }

/-- The queue descriptor of a line (R273, R503). -/
def State.writeDesc (s : State) (n : Fin 16) (j seq : Nat) (sh : Int) (skipped : Bool) : State :=
  let shared := s.bit 0x240014 n.val
  let flags := 1 + 2 * b2n skipped + 4 * b2n s.bitMode + 8 * b2n (shared && !skipped)
  if s.writeOk (s.queueDesc n j) 16 then
    s.setBytes (s.queueDesc n j)
      (leBytes 4 j ++ leBytes 4 seq ++ leBytes 1 (toBits 8 sh) ++ leBytes 1 flags ++ leBytes 1 (s.laneOf n) ++
        List.replicate 5 0#8)
  else s.loseEntry n j

/-- The port's next line moves past line `j`. -/
def State.advanceRender (s : State) (n : Fin 16) (j : Nat) : State := s.setObj (0x240060 + n.val) ((j + 1) % 2 ^ 32)

/-- The port's next line is skipped (R271, R276). -/
def State.skipLine (s : State) (n : Fin 16) : State :=
  let j := s.renderLine n
  let sh := clampI (-64) 64 (s.walkShift n j)
  let s := (s.checkpoint n j).writeDesc n j (s.setSeqFor n j) sh true
  (((s.advanceRender n j).bump 0x240082).event 0x240013 1).autoEngine

/-- The port's next line starts: its checkpoint, its walk shift, and its bits as its lane will have screened them (R270, R276, R292). -/
def State.startLine (s : State) (n : Fin 16) : State :=
  let j := s.renderLine n
  let sh := s.walkShift n j
  let s := s.checkpoint n j
  let l := s.screenLine n j (clampI (-64) 64 sh)
  let s := s.modRenderPort n fun p => { p with busy := some l }
  if sh < -64 ∨ 64 < sh then (s.walkError j).autoEngine else s

/-- Tile columns, aprons among them, that a port's line can read: those within its span with both warm-ups and the widest walk shift (R242, R254, R255, R292). -/
def State.fetchCols (s : State) (n : Fin 16) : List Nat :=
  let lo : Int := (s.spanFirst n : Int) - 192
  let hi : Int := (s.spanFirst n : Int) + s.spanWidth n + 192
  s.tileCols.filter fun c =>
    if c < 16 then decide ((c : Int) * 1024 < hi ∧ lo < (c : Int) * 1024 + 1024) else if c = 16 then decide (lo < 0) else decide (16384 < hi)

/-- The rows of tiles that job line `j` of a port reads: address and bytes of each (R219, R234, R258, R259). -/
def State.fetchReads (s : State) (n : Fin 16) (j : Nat) : List (Nat × Nat) :=
  let rows := fun (j : Nat) =>
    let l := s.fetchLine j
    (s.planeList n).flatMap fun p => (s.fetchCols n).map fun c =>
      let w := tileWidth s.inputMode c
      (s.tileAddr s.repeatOn (l / 256) p c + (if s.inputMode = 0 then l % 256 / 2 else l % 256) * w, w)
  rows j ++ (if s.inputMode = 0 && s.obj 0x240002 = 1 then rows (s.otherLine j) else [])

/-- Every fetch for the line is made (R489, R491, R503, R513). -/
def State.fetchOk (s : State) (n : Fin 16) (j : Nat) : Bool := (s.fetchReads n j).all fun r => s.readOk r.1 r.2

/-- A line whose fetch ends with an error response is skipped, and blanks for it (R503, R504). -/
def State.loseLine (s : State) (n : Fin 16) : State :=
  let j := s.renderLine n
  (s.skipLine n).modJigsaw n fun p => { p with lost := j :: p.lost }

/-- A port whose lane is leaving for test passes to the lane that leaves test, at the start of its next line (R287). -/
def State.handOver (s : State) (n : Fin 16) : State :=
  match findKey s.render.handOver n.val with
  | none => s
  | some l =>
    let s := s.moveLane n l
    (s.modRender fun ren => { ren with handOver := dropKey s.render.handOver n.val } : State).reportLanes

/-- Render takes the next line of a port: it is skipped, started, or waits (R270, R271, R290). -/
def State.takeLine (s : State) (n : Fin 16) (fetchErr : Bool) : State :=
  if !s.renderRuns || !s.rendered n || (s.render.port.get n).busy.isSome || !s.withinJob (s.renderLine n) then s
  else if s.behind n (s.renderLine n) then s.skipLine n
  else if !s.canStart n then s
  else
    let h := s.handOver n
    if h.laneOf n = 0xFF || !h.laneFree n then s
    else if fetchErr || !s.fetchOk n (s.renderLine n) then h.loseLine n
    else h.startLine n

/-- RENDER_LINE_START: `fetchErr` where a fetch for the line ends with an error response (R270, R271, R503). -/
def execRenderLineStart (n : Fin 16) (fetchErr : Bool) (t : Nat) (s : State) : Host.Outcome State Fault Refusal :=
  .next (State.settle ((s.tick t).takeLine n fetchErr))

/-- A screened line is written to its queue entry: the bits, then the descriptor (R273, R503). -/
def State.queueLine (s : State) (n : Fin 16) (l : RenderLine) (wrErr : Bool) : State :=
  if wrErr || !s.writeOk (s.queueBits n l.line) l.bits.length then s.loseEntry n l.line
  else (s.setBytes (s.queueBits n l.line) l.bits).writeDesc n l.line l.setSeq l.shift false

/-- A screened line enters the queue, and the error row becomes the port's (R273, R291). -/
def State.finishLine (s : State) (n : Fin 16) (l : RenderLine) (wrErr : Bool) : State :=
  let s := s.queueLine n l wrErr
  let s := s.modRenderPort n fun p => { p with busy := none, row := if s.bitMode then p.row else l.row }
  let s := (s.advanceRender n l.line).bumpN 0x240083 l.clamps
  let s := (s.bumpN 0x240084 l.lost).bumpN 0x240085 l.dropped
  let s := (s.eventIf (l.clamps ≠ 0) 0x240013 2).eventIf (l.lost ≠ 0) 0x240013 3
  (s.eventIf (l.dropped ≠ 0) 0x240013 4).autoEngine

/-- RENDER_LINE_DONE (R273, R503). -/
def execRenderLineDone (n : Fin 16) (ends : LineEnd) (s : State) : Host.Outcome State Fault Refusal :=
  .next (State.settle (match (s.render.port.get n).busy with
    | some l => if s.renderRuns then (s.tick ends.t).finishLine n l ends.wrErr else s
    | none => s))

/-- The next lane in service after `l` in ascending cyclic order (R287). -/
def State.laneAfter (s : State) (l : Nat) : Option Nat :=
  let svc := s.lanesIn
  (svc.find? fun m => l < m).orElse fun _ => svc.head?

/-- The ports that a lane serves. -/
def State.portsOf (s : State) (l : Nat) : List (Fin 16) := s.renderedPorts.filter fun n => s.laneOf n = l

/-- The lane leaving test takes over the ports of the next lane, and that lane enters test once it serves none (R287). -/
def State.rotate (s : State) (l : Nat) : State :=
  match s.laneAfter l with
  | none => s
  | some m =>
    if m = l then s.modRender fun ren => { ren with windowAt := s.clk }
    else
      let ports := s.portsOf m
      if ports.isEmpty then s.setTestLane m
      else
        (s.modRender fun ren => { ren with
            leaving := some (l, m), handOver := ports.map fun n => (n.val, l) } : State).setTestLane 0xFF

/-- The lane under test has failed (R288, R644); the next lane in service is taken as under test before the ports are assigned again. -/
def State.failLane (s : State) (l : Nat) : State :=
  let next := (s.laneAfter l).filter fun m => m ≠ l
  let s := (((s.setBit 0x240010 l false).bump 0x240088).event 0x240013 7).raise 149 l 0
  let s := s.laneFailure l
  let s := (s.setTestLane (next.getD 0xFF)).assignLanes
  if s.laneSpent l then s.retireLane l
  else s.modRender fun ren => { ren with retest := l :: s.render.retest }

/-- LANE_TEST_WINDOW: the window of the lane under test ends with its verdict (R287, R288, R643). -/
def execLaneTestWindow (pass : Bool) (t : Nat) (s : State) : Host.Outcome State Fault Refusal :=
  .next (State.settle (if s.testLane = 0xFF || !s.bit 0x240012 0 then s
    else if pass then ((s.tick t).bump 0x5E0056).rotate s.testLane
    else ((s.tick t).bump 0x5E0057).failLane s.testLane))

/-- Ports that have no next line to start, because render takes none, are handed over (R287). -/
def State.handOverIdle (s : State) : State :=
  if s.renderRuns then s else (List.finRange 16).foldl State.handOver s

/-- The next lane enters test once every port has been handed over (R287). -/
def State.enterTest (s : State) : State :=
  match s.render.leaving with
  | none => s
  | some (_, m) =>
    if s.render.handOver.isEmpty then
      (s.modRender fun ren => { ren with leaving := none } : State).setTestLane m
    else s

/-- LANE_ENTERS_TEST (R287). -/
def execLaneEntersTest (t : Nat) (s : State) : Host.Outcome State Fault Refusal :=
  .next (State.settle (s.tick t).handOverIdle.enterTest)

/-- A retest ends: the lane returns to service or is retired (R644, R645). -/
def State.retestDone (s : State) (l : Nat) (pass : Bool) : State :=
  if s.render.retest.contains l then
    let s := s.modRender fun ren => { ren with retest := s.render.retest.filter fun m => m ≠ l }
    if pass then (s.setBit 0x240010 l true).assignLanes else s.retireLane l
  else s

/-- LANE_RETEST_DONE (R644). -/
def execLaneRetestDone (lane : Fin 17) (pass : Bool) (t : Nat) (s : State) : Host.Outcome State Fault Refusal :=
  .next (State.settle ((s.tick t).retestDone lane.val pass))

end Sys2Proof.Machine
end

