-- ==== Sys2Proof/Machine/Jigsaw.lean ====
section
/-! DEFINITION. Jigsaw: twins, balancing, clipping, packing, the check and the history, slot copies, map writes and firing counters (08_jigsaw_nozzle_maps.md; R395, R396). -/

namespace Sys2Proof.Machine

/-- The hash of R309. -/
def mix (j q p seed : Nat) : Nat :=
  let h := (j * 0x9E3779B1 + q * 0x85EBCA6B + p * 0xC2B2AE35 + seed) % 2 ^ 32
  let h := h ^^^ h >>> 16
  let h := h * 0x7FEB352D % 2 ^ 32
  h ^^^ h >>> 15

/-- The rule of a map picks twin A (R309). -/
def pickA (m : Bytes) (j q p : Nat) : Bool :=
  if rb m 6 = 0 then (j + q) % 2 = 0 else mix j q p (leAt m 0xC 4) % 2 = 0

/-- The nozzle assigned to entry `e` and its twin, none where neither may fire (R309). -/
def assign (m : Bytes) (j q p e : Nat) : Option (Nat × Nat) :=
  let a := twinA m e
  let b := twinB m e
  if usable m a && (pickA m j q p || !usable m b) then some (a, b)
  else if usable m b then some (b, a)
  else none

/-- A band's bit goes to the test's twin, none where that twin may not fire (R410). -/
def assignBand (m : Bytes) (twin e : Nat) : Option (Nat × Nat) :=
  let a := twinA m e
  let b := twinB m e
  let u := if twin = 0 then a else b
  if usable m u then some (u, if twin = 0 then b else a) else none

/-- The seam of job line `j` in a zone (R320). -/
def seam (j z0 w : Nat) : Nat := z0 + mix j z0 0 0 % (w + 1)

/-- The seam zones of a map keep the bit at head position `q` on job line `j` (R320). -/
def State.seamKeeps (s : State) (n : Fin 16) (m : Bytes) (j q : Nat) : Bool :=
  let f := s.spanFirst n
  let w := s.spanWidth n
  let l := leAt m 0x10 2
  let r := leAt m 0x12 2
  (!(r ≠ 0 && decide (f + w ≤ q + r)) || decide (q < seam j (f + w - r) r)) &&
    (!(l ≠ 0 && decide (q < f + l)) || decide (seam j f l ≤ q))

/-- A line between assignment and packing: drops with their twin, and the counts of R315. -/
structure Drops where
  /-- assigned nozzle and its twin -/
  drops : List (Nat × Nat)
  masked : Nat
  deadPair : Nat
  balanced : Nat
  clipped : Nat

/-- Assigns the bit at plane slot `ps` and head position `q` (R309, R320, R410). -/
def State.assignBit (s : State) (n : Fin 16) (m : Bytes) (band : Option Band) (j : Nat) (d : Drops)
    (pq : Nat × Nat) : Drops :=
  let q := pq.2
  let p := s.planeOf n pq.1
  let e := pq.1 * s.spanWidth n + (q - s.spanFirst n)
  if !s.seamKeeps n m j q then { d with masked := d.masked + 1 }
  else
    match band with
    | some b =>
      match assignBand m ((b.testFor j p q).map BandTest.twin |>.getD 0) e with
      | some x => { d with drops := x :: d.drops }
      | none => { d with masked := d.masked + 1 }
    | none =>
      match assign m j q p e with
      | some x => { d with drops := x :: d.drops }
      | none => { d with deadPair := d.deadPair + 1 }

/-- Group of a nozzle, over all columns (R140, R311). -/
def nozGroup (r : Bytes) (u : Nat) : Nat := colOf r u * recGroups r + groupOf r (u % max 1 (recNoz r))

/-- Drops in a group. -/
def groupLoad (r : Bytes) (d : List (Nat × Nat)) (g : Nat) : Nat := (d.filter fun x => nozGroup r x.1 = g).length

/-- Rank of a nozzle: its index within its column, twelve bits reversed (R310). -/
def nozRank (r : Bytes) (u : Nat) : Nat := ofBitList (bitList 12 (u % max 1 (recNoz r))).reverse

/-- Order of candidates: WEAK first, then rank, then nozzle (R310). -/
def candKey (r m : Bytes) (u : Nat) : Nat :=
  (if nozState m u = 1 then 0 else 2 ^ 40) + nozRank r u * 2 ^ 20 + u

/-- The candidates of a group in order (R310). -/
def candidates (r m : Bytes) (d : List (Nat × Nat)) (g : Nat) : List (Nat × Nat) :=
  sortBy (fun a b => decide (candKey r m a.1 ≤ candKey r m b.1)) (d.filter fun x => nozGroup r x.1 = g)

/-- Moves candidates of a group over the cap to twins whose groups have room (R311). -/
def balanceGroup (r m : Bytes) (cap g : Nat) (d : Drops) : Drops :=
  (candidates r m d.drops g).foldl (fun d x =>
    if groupLoad r d.drops g ≤ cap || x.1 = x.2 || !usable m x.2 || cap ≤ groupLoad r d.drops (nozGroup r x.2) then d
    else { d with drops := d.drops.map fun y => if y = x then (x.2, x.1) else y, balanced := d.balanced + 1 }) d

/-- Removes drops of a group still over the cap (R312). -/
def clipGroup (r m : Bytes) (cap g : Nat) (d : Drops) : Drops :=
  let excess := groupLoad r d.drops g - cap
  let gone := (candidates r m d.drops g).take excess
  { d with drops := d.drops.filter fun x => !gone.contains x, clipped := d.clipped + excess }

/-- The nozzles that fire on a line, from its queue bits (R309 to R312, R320, R410). -/
def State.dropsOf (s : State) (n : Fin 16) (m : Bytes) (j cap : Nat) (bits : Bytes) : Drops :=
  let r := s.record n
  let w := s.spanWidth n
  let band := s.bandAt j
  let set := (List.range (s.entries n)).filter fun i => (leAt bits (i / 8) 1).testBit (i % 8)
  let d := (set.map fun i => (i / max 1 w, s.spanFirst n + i % max 1 w)).foldl (s.assignBit n m band j)
    { drops := [], masked := 0, deadPair := 0, balanced := 0, clipped := 0 }
  let groups := List.range (recCols r * recGroups r)
  let d := if band.isSome then d else groups.foldl (fun d g => balanceGroup r m cap g d) d
  groups.foldl (fun d g => clipGroup r m cap g d) d

/-- The column line of column `k`, as a number over its chain bits (R313). -/
def columnBits (r : Bytes) (d : Drops) (k : Nat) : Nat :=
  d.drops.foldl (fun a x =>
    if colOf r x.1 = k then a ||| 1 <<< rankOf r (x.1 % max 1 (recNoz r)) else a) 0

/-- The history bits of a line, read back from the packed column lines through the map (R315). -/
def State.historyBits (s : State) (n : Fin 16) (m : Bytes) (cols : List (Nat × Nat)) : List Bool :=
  let r := s.record n
  let on := fun u => (storeGet (fun _ => 0) cols (colOf r u)).testBit (rankOf r (u % max 1 (recNoz r)))
  (List.range (s.entries n)).map fun e => on (twinA m e) || on (twinB m e)

/-- Writes a line's history entry (R395, R396). -/
def State.writeHistory (s : State) (n : Fin 16) (j seq shift flags cap : Nat) (bits : List Bool) : State :=
  let a := s.histEntry n j
  let h := leBytes 4 j ++ leBytes 4 seq ++ leBytes 1 shift ++ leBytes 1 flags ++ leBytes 2 cap ++
    leBytes 4 (bits.filter id).length ++ List.replicate 48 0#8
  (s.clearBytes a 1088).setBytes a (h ++ packBits bits)

/-- The map that Jigsaw uses for a line: the one that render used (R308). -/
def State.jigsawMap (s : State) (n : Fin 16) (seq : Nat) : Bytes :=
  if s.locked && seq = s.obj 0x230014 then s.shadowMap n else s.forceMap n

/-- Cap of job line `j` of a port (R156). -/
def State.capFor (s : State) (n : Fin 16) (j : Nat) : Nat :=
  if s.usesShadow n j then s.obj (pk 0x300005 n) else s.obj (pk 0x310008 n)

/-- Address of a line's column ring entry (R335); column k's bits begin at bit k Nc of the entry. -/
def State.ringAddr (s : State) (n : Fin 16) (j : Nat) : Nat :=
  s.tables + 0x03500000 + n.val * 0x200000 + j % 1024 * 0x800

/-- Puts a packed line into the column ring (R313). -/
def State.putRing (s : State) (n : Fin 16) (j cap : Nat) (cols : List (Nat × Nat)) : State :=
  let bits := cols.foldl (fun a c => a ||| c.2 <<< (c.1 * recNoz (s.record n))) 0
  let mask := s.obj (pk 0x320019 n) % 256
  let s := s.stackPut (s.ringAddr n j) (leBytes 0x800 bits)
  if mask = 0 then s
  else s.modJigsaw n fun p => { p with ring := p.ring ++ [{ line := j, cap := cap, todo := mask }] }

/-- Counts what Jigsaw did on a line (R309, R311, R312). -/
def State.countDrops (s : State) (n : Fin 16) (d : Drops) : State :=
  let s := (s.bumpN (pk 0x380021 n) d.balanced).bumpN (pk 0x380022 n) d.clipped
  let s := (s.bumpN (pk 0x380023 n) (b2n (d.clipped ≠ 0))).bumpN (pk 0x380024 n) d.deadPair
  (s.eventIf (d.clipped ≠ 0) (pk 0x380008 n) 2).eventIf (d.deadPair ≠ 0) (pk 0x380008 n) 3

/-- The line passes the check of R315: its history holds the queue's bits less those masked, dropped and clipped. -/
def lineChecks (hist : List Bool) (queue : Nat) (d : Drops) : Bool :=
  (hist.filter id).length + d.masked + d.deadPair + d.clipped = queue

/-- Jigsaw treats a line: assignment to packing, history, and the ring unless the check fails (R308 to R315). -/
def State.jigsawLine (s : State) (n : Fin 16) (j seq shift : Nat) (fault histErr : Bool) : State :=
  let m := s.jigsawMap n seq
  let cap := s.capFor n j
  let bits := s.bytes (s.queueBits n j) ((s.entries n + 7) / 8)
  let d := s.dropsOf n m j cap bits
  let cols := (s.columns n).map fun k => (k, columnBits (s.record n) d k)
  let hist := s.historyBits n m cols
  let bad := fault || !lineChecks hist (popCount (s.entries n) (leNat bits)) d
  let flags := 1 + 4 * b2n s.bitMode + 8 * b2n (d.clipped ≠ 0) + 16 * b2n bad + 32 * b2n (s.bandAt j).isSome
  let s := s.countDrops n d
  let s := if histErr then s else s.writeHistory n j seq shift flags cap hist
  if bad then ((s.event (pk 0x380008 n) 1).bump (pk 0x380025 n)).raise 150 n.val j
  else s.putRing n j cap cols

/-- A line rendered as SKIPPED: history of zeros, with BAND on a band line, and no slot (R314, R410). -/
def State.jigsawSkip (s : State) (n : Fin 16) (j seq shift : Nat) (histErr : Bool) : State :=
  if histErr then s
  else
    let flags := 3 + 4 * b2n s.bitMode + 32 * b2n (s.bandAt j).isSome
    s.writeHistory n j seq shift flags (s.capFor n j) (List.replicate (s.entries n) false)

/-- Jigsaw could take the next line of a port: queued, no more than 16 lines beyond the fire line, and its ring entry free (R273, R314). -/
def State.canTake (s : State) (n : Fin 16) : Bool :=
  let p := s.jigsaw.get n
  let j := p.next
  let a := s.queueDesc n j
  s.rendered n && (s.num (a + 9) 1).testBit 0 && s.num a 4 = j &&
    decide (s.beyondFire n j ≤ 16) && p.ring.all fun l => l.line % 1024 ≠ j % 1024

/-- Distance of a port's next line to take from its fire line (R319). -/
def State.takeLead (s : State) (n : Fin 16) : Int := s.beyondFire n (s.jigsaw.get n).next

/-- It is the port's turn: no port that could be served comes before it (R319). -/
def State.takeTurn (s : State) (n : Fin 16) : Bool :=
  (List.finRange 16).all fun m => m = n || !s.canTake m || s.takeLead n < s.takeLead m ||
    (s.takeLead n = s.takeLead m && n.val < m.val)

/-- The queue entry of line `j` can be read (R489, R503, R513). -/
def State.entryReadable (s : State) (n : Fin 16) (j : Nat) : Bool :=
  s.readOk (s.queueDesc n j) 16 && s.readOk (s.queueBits n j) ((s.entries n + 7) / 8)

/-- Jigsaw takes a port's next line and frees its queue entry (R273, R309 to R315, R503). -/
def State.takeQueued (s : State) (n : Fin 16) (readErr histErr fault : Bool) : State :=
  let j := (s.jigsaw.get n).next
  let readErr := readErr || !s.entryReadable n j
  let histErr := histErr || !s.writeOk (s.histEntry n j) 1088
  let a := s.queueDesc n j
  let seq := s.num (a + 4) 4
  let shift := s.num (a + 8) 1
  let skipped := (s.num (a + 9) 1).testBit 1
  let s := (s.stackPut (a + 9) (leBytes 1 (putBit (s.num (a + 9) 1) 0 false))).bump (pk 0x380020 n)
  let s := s.modJigsaw n fun p => { p with next := (j + 1) % 2 ^ 32 }
  if readErr then s.modJigsaw n fun p => { p with lost := j :: p.lost }
  else if skipped then s.jigsawSkip n j seq shift histErr
  else s.jigsawLine n j seq shift fault histErr

/-- The port's next line to take has no queue entry, because its write failed: Jigsaw passes it over (R503). -/
def State.passUnqueued (s : State) (n : Fin 16) : State :=
  let p := s.jigsaw.get n
  if p.unqueued.contains p.next then
    s.modJigsaw n fun p => { p with next := (p.next + 1) % 2 ^ 32, unqueued := p.unqueued.filter (· ≠ p.next) }
  else s

/-- JIGSAW_LINE_TAKE: `readErr` and `histErr` mark a queue read or history write that ends with an error response, `fault` damage within the line that its check finds (R309 to R315, R503). -/
def execJigsawLineTake (n : Fin 16) (readErr histErr fault : Bool) (t : Nat) (s : State) :
    Host.Outcome State Fault Refusal :=
  .next (State.settle
    (if !s.renderRuns then s
     else if s.canTake n && s.takeTurn n then (s.tick t).takeQueued n readErr histErr fault
     else s.passUnqueued n))

/-- The oldest ring line that column `k` has not copied. -/
def State.ringLine (s : State) (n : Fin 16) (k : Nat) : Option RingLine :=
  (s.jigsaw.get n).ring.find? fun l => l.todo.testBit k

/-- A column has copied or discarded a ring line (R316, R317). -/
def State.ringDone (s : State) (n : Fin 16) (k j : Nat) : State :=
  s.modJigsaw n fun p => { p with ring := (p.ring.map fun l =>
    if l.line = j then { l with todo := putBit l.todo k false } else l).filter fun l => l.todo ≠ 0 }

/-- The slot of job line `j` may be written: its flag is clear, and the port has released it for the line before `j` in that slot (R28, R316). -/
def slotFree (d : Slot) (j : Nat) : Bool :=
  !d.ready && match d.freed with
    | some f => lineAtOrBeyond f ((j + 2 ^ 32 - 16) % 2 ^ 32)
    | none => decide (j < 16)

/-- The slot has been released for job line `j` or a later one (R317). -/
def slotPast (d : Slot) (j : Nat) : Bool :=
  match d.freed with
  | some f => lineAtOrBeyond f j
  | none => false

/-- Copies a column line into its slot and readies the descriptor (R180, R316). -/
def State.copySlot (s : State) (n : Fin 16) (k : Nat) (l : RingLine) : State :=
  let nc := recNoz (s.record n)
  let bits := field (s.num (s.ringAddr n l.line) 0x800) (k * nc) nc
  let a := lineSlotAddr n k (l.line % 16)
  let s := (s.setNum a 0x200 bits).clearBad a 0x200
  let d := s.slot n k (l.line % 16)
  s.modPort n fun p => { p with
    slots := putKey p.slots (16 * k + l.line % 16) { d with line := l.line, cap := l.cap, ready := true, readyAt := s.clk } }

/-- Jigsaw serves a column's oldest line in the ring (R316, R317, R503). -/
def State.serveColumn (s : State) (n : Fin 16) (k : Nat) (readErr : Bool) : State :=
  match s.ringLine n k with
  | none => s
  | some l =>
    let d := s.slot n k (l.line % 16)
    if slotPast d l.line then
      ((s.ringDone n k l.line).bump (pk 0x380026 n)).event (pk 0x380008 n) 4
    else if !slotFree d l.line then s
    else if readErr || !s.readOk (s.ringAddr n l.line) 0x800 then (s.ringDone n k l.line).modJigsaw n fun p => { p with lost := l.line :: p.lost }
    else (s.copySlot n k l).ringDone n k l.line

/-- SLOT_COPY (R316). -/
def execSlotCopy (n : Fin 16) (k : Fin 8) (readErr : Bool) (t : Nat) (s : State) : Host.Outcome State Fault Refusal :=
  .next (State.settle (if s.renderRuns then (s.tick t).serveColumn n k.val readErr else s))

/-- A map write (R119, R304, R305). -/
def mapWriteOp (n : Fin 16) (m : Bytes) (s : State) : Answer :=
  match s.mapAbort n m with
  | some 0x06070010 => (s.event (pk 0x380008 n) 6).refuse 0x06070010
  | some a => if s.locked then s.lockedWrite.refuse 0x08000021 else (s.event (pk 0x380008 n) 6).refuse a
  | none =>
    if s.locked then s.lockedWrite.refuse 0x08000021
    else (((s.clearBytes (s.mapShadow n) 0x10000).setBytes (s.mapShadow n) m).countShadow n).accept

/-- MAP_WRITE (R304). -/
def execMapWrite (n : Fin 16) (map : Bytes) (s : State) : Host.Outcome State Fault Refusal :=
  .next (State.settle (s.access .sdo (pk 0x380001 n) (mapWriteOp n map)))

/-- Writes one nozzle's state into the shadow map (R301, R305). -/
def State.putNozzle (s : State) (n : Fin 16) (u v : Nat) : State :=
  let a := s.mapShadow n + 0x40 + u / 4
  (s.setNum a 1 (putField (s.num a 1) (2 * (u % 4)) 2 v)).countShadow n

/-- A nozzle state edit (R119, R305). -/
def nozzleEditOp (via : Via) (n : Fin 16) (v : Nat) (s : State) : Answer :=
  let refuse := fun (a : Nat) => (s.eventIf (via = .sdo) (pk 0x380008 n) 6).refuse a
  let u := v % 2 ^ 14
  if !s.mapPresent (s.mapShadow n) then refuse 0x08000022
  else if s.locked then s.lockedWrite.refuse 0x08000021
  else if v &&& 0x33FFF ≠ v || s.nozzles n ≤ u then refuse 0x06090030
  else ((s.putNozzle n u (v / 2 ^ 16)).setObj (pk 0x380003 n) v).accept

/-- NOZZLE_STATE_EDIT (R305). -/
def execNozzleStateEdit (via : Via) (n : Fin 16) (value : Nat) (s : State) : Host.Outcome State Fault Refusal :=
  .next (State.settle (s.access via (pk 0x380003 n) (nozzleEditOp via n value)))

/-- A write to the firing counter reset clears the port's firing counters and nozzle bin counters (R329, R636). -/
def firingResetOp (n : Fin 16) (v : Nat) (s : State) : Answer :=
  if 1 < v then s.refuse 0x06090030 else (if v = 1 then (s.clearFiring n).clearBins n else s).accept

/-- FIRING_COUNTER_RESET (R329). -/
def execFiringCounterReset (via : Via) (n : Fin 16) (value : Nat) (s : State) : Host.Outcome State Fault Refusal :=
  .next (State.settle (s.access via (pk 0x380013 n) (firingResetOp n value)))

end Sys2Proof.Machine
end

