-- ==== Sys2Proof/Machine/CamStore.lean ====
section
/-! DEFINITION. The camera frame store: slots, headers and the two-frame queue (R340, R348 to R352). -/

namespace Sys2Proof.Machine

/-- Bits per pixel of a data type; 0 for one that R340 does not give. -/
def dtBits (dt : Nat) : Nat :=
  if dt = 0x2A then 8 else if dt = 0x2B then 10 else if dt = 0x2C then 12 else if dt = 0x2E then 16 else 0

/-- Pixels that a line's width must be a multiple of (R340). -/
def dtStep (dt : Nat) : Nat := if dt = 0x2B then 4 else if dt = 0x2C then 2 else 1

/-- W: pixels of a line. -/
def State.camWidth (s : State) (c : Fin 2) : Nat := s.obj (ck 0x400006 c)

/-- H: lines of a frame. -/
def State.camLines (s : State) (c : Fin 2) : Nat := s.obj (ck 0x400007 c)

/-- E: embedded lines. -/
def State.camEmb (s : State) (c : Fin 2) : Nat := s.obj (ck 0x400008 c)

/-- Stored bytes of an image line (R340). -/
def State.lineBytes (s : State) (c : Fin 2) : Nat := s.camWidth c * dtBits (s.obj (ck 0x400005 c)) / 8

/-- Slot size (R348). -/
def State.camSlotSize (s : State) (c : Fin 2) : Nat :=
  (4096 + (s.camEmb c + s.camLines c) * s.lineBytes c + 65535) / 65536 * 65536

/-- Slot count (R348). -/
def State.camSlots (s : State) (c : Fin 2) : Nat := min 64 (s.obj 0x200017 / 2 / s.camSlotSize c)

/-- Address of slot `i` (R348). -/
def State.camSlotAddr (s : State) (c : Fin 2) (i : Nat) : Nat :=
  s.obj 0x200016 + c.val * (s.obj 0x200017 / 2) + i * s.camSlotSize c

/-- A slot as it stands. -/
def State.camSlot (s : State) (c : Fin 2) (i : Nat) : CamSlot :=
  storeGet (fun _ => { st := 0, frame := 0 }) (s.camera.get c).slots i

/-- A slot's state changes (R350). -/
def State.setCamSlot (s : State) (c : Fin 2) (i st : Nat) : State :=
  s.modCamera c fun q => { q with
    slots := storePut (fun _ => { st := 0, frame := 0 }) q.slots i { s.camSlot c i with st := st } }

/-- The next slot in state FREE or DONE after the last one used, in ascending cyclic order (R342). -/
def State.nextSlot (s : State) (c : Fin 2) : Option Nat :=
  let n := s.camSlots c
  let l := (s.camera.get c).lastSlot
  ((List.range n).map fun i => (l + 1 + i) % n).find? fun i => (s.camSlot c i).st = 0 || (s.camSlot c i).st = 5

/-- The status of a camera port follows its state (R366). -/
def State.camSync (s : State) (c : Fin 2) : State :=
  let q := s.camera.get c
  let v := s.obj (ck 0x400020 c)
  let st := if s.obj (ck 0x400001 c) = 0 then 0 else if q.frame.isSome then 2 else 1
  let v := putField v 0 2 st
  let v := putBit (putBit v 3 (q.setWriting.isSome || q.direct.isSome)) 4 q.setPending.isSome
  s.setObj (ck 0x400020 c) (putField v 6 2 q.waiting.length)

/-- The HDR_CRC of the header in a slot is right (R349). -/
def State.frameHeaderOk (s : State) (c : Fin 2) (i : Nat) : Bool :=
  let a := s.camSlotAddr c i
  s.num (a + 0x7C) 4 = crc32c (s.bytes a 0x7C)

/-- Bytes 0x00 to 0x7B of the header of a delivered frame (R349). -/
def State.frameHeader (s : State) (c : Fin 2) (f : CamFrame) (feMissing : Bool) (endTag : Tag) : Bytes :=
  let h := s.camLines c
  let flags := b2n (decide (h < f.lines)) + 2 * b2n feMissing + 4 * b2n f.triggered + 8 * b2n f.tag.posValid +
    16 * b2n f.tag.dcSync + 32 * b2n f.unknown
  leBytes 4 0x4D524642 ++ leBytes 1 c.val ++ leBytes 1 (s.obj (ck 0x400004 c)) ++
    leBytes 1 (s.obj (ck 0x400005 c)) ++ leBytes 1 flags ++ leBytes 4 f.no ++ leBytes 2 f.sensorFn ++
    leBytes 2 f.emb ++ leBytes 2 (s.camWidth c) ++ leBytes 2 h ++ leBytes 4 (s.lineBytes c) ++
    leBytes 8 f.tag.time ++ leBytes 8 f.tag.pos ++ leBytes 8 endTag.time ++ leBytes 8 endTag.pos ++
    leBytes 4 f.setId ++ padTo 32 f.tags ++ List.replicate 32 0#8

/-- A third waiting frame drops the oldest (R352). -/
def State.dropOldest (s : State) (c : Fin 2) : State :=
  match (s.camera.get c).waiting with
  | i :: t =>
    if 2 ≤ (i :: t).length then
      let s := (s.setCamSlot c i 0).modCamera c fun q => { q with waiting := t }
      (s.bump (ck 0x400045 c)).event (ck 0x400027 c) 5
    else s
  | [] => s

/-- A frame is delivered: header, reports, and the queue (R344, R349, R352). -/
def State.deliver (s : State) (c : Fin 2) (f : CamFrame) (i : Nat) (feMissing : Bool) : State :=
  let h := s.frameHeader c f feMissing s.tagNow
  let s := s.stackPut (s.camSlotAddr c i) (h ++ leBytes 4 (crc32c h) ++ List.replicate 3968 0#8)
  let long := decide (s.camLines c < f.lines)
  let s := ((s.bump (ck 0x400040 c)).event (ck 0x400027 c) 0).bumpN (ck 0x400042 c) (b2n long)
  let s := (s.eventIf long (ck 0x400027 c) 2).setObj (ck 0x400023 c) f.no
  let s := (s.setObj (ck 0x400024 c) f.tag.pos).setObj (ck 0x400025 c) f.tag.time
  ((s.dropOldest c).setCamSlot c i 2).modCamera c fun q => { q with waiting := q.waiting ++ [i] }

/-- A frame is discarded: its slot is FREE (R344). -/
def State.discard (s : State) (c : Fin 2) (i bit counter : Nat) : State :=
  ((s.setCamSlot c i 0).event (ck 0x400027 c) bit).bump (counter + c.val * 0x100)

/-- An open frame ends: delivered or discarded (R344). -/
def State.closeFrame (s : State) (c : Fin 2) (f : CamFrame) (feMissing : Bool) : State :=
  let s := s.modCamera c fun q => { q with frame := none }
  match f.slot with
  | none => s
  | some i =>
    if f.damaged || !s.writeOk (s.camSlotAddr c i) 4096 then s.discard c i 4 0x400044
    else if f.lines < s.camLines c then s.discard c i 1 0x400041
    else s.deliver c f i feMissing

/-- At a frame end a pending set begins to be written, unless one is being written (R356). -/
def State.startSet (s : State) (c : Fin 2) : State :=
  let q := s.camera.get c
  match q.setPending, q.setWriting with
  | some d, none => s.modCamera c fun q => { q with setPending := none, setWriting := some (d, 0, false) }
  | _, _ => s

/-- A frame ends, at its frame end packet or at a frame start that comes first (R344, R356). -/
def State.endFrame (s : State) (c : Fin 2) (feMissing : Bool) : State :=
  match (s.camera.get c).frame with
  | none => s
  | some f => (s.closeFrame c f feMissing).startSet c

/-- The watchdog aborts a frame that has not ended (R344). -/
def State.frameWatchdog (s : State) (c : Fin 2) : State :=
  match (s.camera.get c).frame with
  | none => s
  | some f =>
    if s.clk < f.startAt + s.obj (ck 0x400009 c) * 500000 then s
    else
      let s := s.modCamera c fun q => { q with frame := none, aborted := true }
      match f.slot with
      | some i => s.discard c i 3 0x400043
      | none => s

end Sys2Proof.Machine
end

