-- ==== Sys2Proof/Machine/KaleidoPixels.lean ====
section
/-! DEFINITION. The pixel stages of Kaleidoscope, from the raw code to the output values, and the profiles and statistics over them (R367, R370 to R380). -/

namespace Sys2Proof.Machine

/-- Keys of the numeric process parameters (R368, R388). -/
def paramKeys : List Key :=
  [0x410004, 0x410005, 0x410006, 0x410007, 0x410008, 0x410012, 0x410013, 0x410014, 0x410015, 0x410016, 0x410017,
    0x410018, 0x410022, 0x410023, 0x410024, 0x410025, 0x410026, 0x410027, 0x410028]

/-- Keys of the process parameters that are DOMAIN objects: tone curves and colour matrices (R368, R388). -/
def paramDoms : List Key := [0x410009, 0x41000A, 0x41000B, 0x410019, 0x410029]

/-- A snapshot of the process parameters (R368). -/
def State.snapshot (s : State) : Params :=
  { seq := s.obj 0x41000E, vals := paramKeys.map fun k => (k, s.obj k),
    doms := paramDoms.map fun k => (k, s.domain k) }

/-- A numeric parameter of a snapshot. -/
def Params.num (p : Params) (k : Key) : Nat := (findKey p.vals k).getD (defaultObj k)

/-- A DOMAIN parameter of a snapshot. -/
def Params.dom (p : Params) (k : Key) : Bytes := (findKey p.doms k).getD []

/-- The CFA pattern of a camera (R370). -/
def State.cfa (s : State) (c : Fin 2) : Nat := s.obj (0x410010 + 0x10 * c.val)

/-- Row pitch of a camera, in Q16.16 lines per row (R373). -/
def State.rowPitch (s : State) (c : Fin 2) : Int := sx 32 (s.obj (0x410011 + 0x10 * c.val))

/-- Colour of a CFA phase: 0 R, 1 G, 2 B (R370). -/
def cfaColour (cfa phase : Nat) : Nat :=
  let at_ := fun (l : List Nat) => l.getD phase 0
  if cfa = 0 then at_ [0, 1, 1, 2] else if cfa = 1 then at_ [1, 0, 2, 1]
  else if cfa = 2 then at_ [1, 2, 0, 1] else at_ [2, 1, 1, 0]

/-- CFA phase of the pixel at a row and column (R370). -/
def cfaPhase (r x : Nat) : Nat := 2 * (r % 2) + x % 2

/-- Raw code of pixel `x` of image row `r` in a slot: pixels as packed on the wire (R340; the packing itself is PRESUMED, log entry 30). -/
def State.rawCode (s : State) (c : Fin 2) (slot r x : Nat) : Nat :=
  let a := s.camSlotAddr c slot + 4096 + (s.camEmb c + r) * s.lineBytes c
  let b := dtBits (s.obj (ck 0x400005 c))
  if b = 10 then s.num (a + x / 4 * 5 + x % 4) 1 * 4 + field (s.num (a + x / 4 * 5 + 4) 1) (2 * (x % 4)) 2
  else if b = 12 then s.num (a + x / 2 * 3 + x % 2) 1 * 16 + field (s.num (a + x / 2 * 3 + 2) 1) (4 * (x % 2)) 4
  else if b = 16 then s.num (a + 2 * x) 2
  else s.num (a + x) 1

/-- The sample after the black level stage (R370). -/
def State.blackSample (s : State) (p : Params) (c : Fin 2) (slot r x : Nat) : Nat :=
  s.rawCode c slot r x * 2 ^ (16 - dtBits (s.obj (ck 0x400005 c))) - p.num (0x410012 + 0x10 * c.val + cfaPhase r x)

/-- A pixel inside the frame at an offset from another one. -/
def State.pixelAt (s : State) (c : Fin 2) (r x : Nat) (dr dx : Int) : Option (Nat × Nat) :=
  let r' := (r : Int) + dr
  let x' := (x : Int) + dx
  if 0 ≤ r' ∧ r' < (s.camLines c : Int) ∧ 0 ≤ x' ∧ x' < (s.camWidth c : Int) then some (r'.toNat, x'.toNat) else none

/-- The eight offsets at distance `d` around a pixel. -/
def ringOffsets (d : Int) : List (Int × Int) :=
  [(-d, -d), (-d, 0), (-d, d), (0, -d), (0, d), (d, -d), (d, 0), (d, d)]

/-- The sample after spatial noise reduction (R371). -/
def State.filtered (s : State) (p : Params) (c : Fin 2) (slot r x : Nat) : Nat :=
  let v := s.blackSample p c slot r x
  let near := (ringOffsets (if s.cfa c = 4 then 1 else 2)).filterMap fun o => s.pixelAt c r x o.1 o.2
  let acc := (near.map fun q => s.blackSample p c slot q.1 q.2).filter fun (n : Nat) =>
    ((n : Int) - v).natAbs ≤ p.num 0x410005
  let m := (v + acc.sum) / (1 + acc.length)
  ((v : Int) + floorShift (p.num 0x410004 * ((m : Int) - v)) 8).toNat

/-- The sample after temporal noise reduction (R374). -/
def State.blended (s : State) (j : KaleidoJob) (r x : Nat) : Nat :=
  let v := s.filtered j.params j.cam j.slot r x
  match j.refSlot with
  | some q =>
    let r' := (r : Int) + j.shift
    if j.reason = 0 ∧ 0 ≤ r' ∧ r' < (s.camLines j.cam : Int) then
      let f := s.filtered j.params j.cam q r'.toNat x
      let k := if ((f : Int) - v).natAbs ≤ j.params.num 0x410007 then j.params.num 0x410006 else 0
      ((v : Int) + floorShift (k * ((f : Int) - v)) 8).toNat
    else v
  | none => v

/-- The mean of samples, rounded down. -/
def meanDown (l : List Nat) : Nat := l.sum / l.length

/-- Samples of a frame by row and column. -/
abbrev Samples := Nat → Nat → Nat

/-- The samples at offsets that lie inside the frame. -/
def State.around (s : State) (c : Fin 2) (f : Samples) (r x : Nat) (o : List (Int × Int)) : List Nat :=
  (o.filterMap fun o => s.pixelAt c r x o.1 o.2).map fun q => f q.1 q.2

/-- Bilinear demosaic: the mean of the samples of colour `ch` in the 3 by 3 neighbourhood (R375). -/
def State.bilinear (s : State) (c : Fin 2) (f : Samples) (ch r x : Nat) : Nat :=
  let near := (ringOffsets 1).filter fun o => match s.pixelAt c r x o.1 o.2 with
    | some q => cfaColour (s.cfa c) (cfaPhase q.1 q.2) = ch
    | none => false
  meanDown (s.around c f r x near)

/-- Edge-directed G at an R or B site; a direction with a neighbour outside the frame is never chosen (R375). -/
def State.edgeGreen (s : State) (c : Fin 2) (f : Samples) (r x : Nat) : Nat :=
  let h := s.around c f r x [(0, -1), (0, 1)]
  let v := s.around c f r x [(-1, 0), (1, 0)]
  let diff := fun (l : List Nat) => match l with
    | [a, b] => some ((a : Int) - b).natAbs
    | _ => none
  match diff h, diff v with
  | some a, some b => if a < b then meanDown h else if b < a then meanDown v else meanDown (h ++ v)
  | some _, none => meanDown h
  | none, some _ => meanDown v
  | none, none => meanDown (h ++ v)

/-- Channel `ch` of a pixel after demosaic (R375). -/
def State.demosaic (s : State) (p : Params) (c : Fin 2) (f : Samples) (ch r x : Nat) : Nat :=
  let own := cfaColour (s.cfa c) (cfaPhase r x)
  if s.cfa c = 4 ∨ own = ch then f r x
  else if ch = 1 ∧ p.num 0x410008 = 1 then s.edgeGreen c f r x
  else s.bilinear c f ch r x

/-- Entry of the colour matrix of a camera in signed Q4.12, the identity where none has been written (R376). -/
def Params.ccm (p : Params) (c : Fin 2) (i k : Nat) : Int :=
  let d := p.dom (0x410019 + 0x10 * c.val)
  if d.isEmpty then (if i = k then 4096 else 0) else sx 16 (leAt d (2 * (3 * i + k)) 2)

/-- A channel after white balance (R376). -/
def Params.balance (p : Params) (c : Fin 2) (ch v : Nat) : Nat :=
  min 65535 ((v * p.num (0x410016 + 0x10 * c.val + ch)) >>> 12)

/-- A channel after the colour matrix, from the three balanced channels (R376). -/
def Params.matrix (p : Params) (c : Fin 2) (ch r g b : Nat) : Nat :=
  (clampI 0 65535 (floorShift (p.ccm c ch 0 * r + p.ccm c ch 1 * g + p.ccm c ch 2 * b) 12)).toNat

/-- Entry `i` of the tone curve of a channel (R377, R388). -/
def Params.toneEntry (p : Params) (ch i : Nat) : Nat :=
  let d := p.dom (0x410009 + ch)
  if d.isEmpty then min 65535 (256 * i) else leAt d (2 * i) 2

/-- A channel after its tone curve (R377). -/
def Params.tone (p : Params) (ch v : Nat) : Nat :=
  let a := p.toneEntry ch (v / 256)
  let b := p.toneEntry ch (v / 256 + 1)
  ((a : Int) + floorShift (((b : Int) - a) * (v % 256 : Nat) + 128) 8).toNat

/-- Output value of channel `ch` at a pixel, from the samples that enter demosaic (R375 to R377). -/
def State.outputOf (s : State) (p : Params) (c : Fin 2) (f : Samples) (ch r x : Nat) : Nat :=
  let v := fun (i : Nat) => p.balance c i (s.demosaic p c f i r x)
  p.tone ch (p.matrix c ch (v 0) (v 1) (v 2))

/-- Output value of channel `ch` at a pixel of the frame in progress (R367). -/
def State.output (s : State) (j : KaleidoJob) (ch r x : Nat) : Nat :=
  s.outputOf j.params j.cam (s.blended j) ch r x

/-- Output value without noise reduction (R411). -/
def State.plainOutput (s : State) (j : KaleidoJob) (ch r x : Nat) : Nat :=
  s.outputOf j.params j.cam (s.blackSample j.params j.cam j.slot) ch r x

/-- Block rows B (R379). -/
def State.blockRows (s : State) : Nat := s.obj 0x410003

/-- Blocks of a frame of `h` rows (R381). -/
def State.blocksOf (s : State) (h : Nat) : Nat := (h + s.blockRows - 1) / s.blockRows

/-- The numbers from `a` to `b - 1`. -/
def span (a b : Nat) : List Nat := (List.range (b - a)).map fun i => a + i

/-- The profile value of a block, column and channel (R379). -/
def State.profile (s : State) (j : KaleidoJob) (b x ch : Nat) : Nat :=
  let rows := span (b * s.blockRows) (min (s.camLines j.cam) ((b + 1) * s.blockRows))
  (2 * (rows.map fun r => s.output j ch r x).sum + rows.length) / (2 * rows.length)

/-- The output values of a channel over a range of rows and columns. -/
def State.outputs (s : State) (j : KaleidoJob) (ch : Nat) (rows cols : List Nat) : List Nat :=
  rows.flatMap fun r => cols.map fun x => s.output j ch r x

/-- The output values of a channel over the frame. -/
def State.allOutputs (s : State) (j : KaleidoJob) (ch : Nat) : List Nat :=
  s.outputs j ch (List.range (s.camLines j.cam)) (List.range (s.camWidth j.cam))

/-- The mean of values as a rational. -/
def meanQ (l : List Nat) : Rat := (l.sum : Rat) / (l.length : Rat)

/-- The mean of a channel over zone (zx, zy) (R380). -/
def State.zoneMean (s : State) (j : KaleidoJob) (ch zx zy : Nat) : Nat :=
  let w := s.camWidth j.cam
  let h := s.camLines j.cam
  (roundQ 0 (meanQ (s.outputs j ch (span (zy * h / 8) ((zy + 1) * h / 8)) (span (zx * w / 8) ((zx + 1) * w / 8))))).toNat

/-- The count of saturated pixels (R370, R380). -/
def State.saturated (s : State) (j : KaleidoJob) : Nat :=
  let full := 2 ^ dtBits (s.obj (ck 0x400005 j.cam)) - 1
  ((List.range (s.camLines j.cam)).flatMap fun r =>
    (List.range (s.camWidth j.cam)).filter fun x => s.rawCode j.cam j.slot r x = full).length

end Sys2Proof.Machine
end

