-- ==== Sys2Proof/Machine/Kaleido.lean ====
section
/-! DEFINITION. Kaleidoscope: frames taken, records written, and the statistics read (10_kaleidoscope.md). -/

namespace Sys2Proof.Machine

/-- Record bytes that a camera's frames need, in whole MiB (R381). -/
def State.recordNeed (s : State) (c : Fin 2) : Nat :=
  (4096 + s.blocksOf (s.camLines c) * s.camWidth c * 6 + 1048575) / 1048576

/-- Record size (R381). -/
def State.recordSize (s : State) : Nat := 1048576 * max (s.recordNeed 0) (s.recordNeed 1)

/-- Records of the output ring (R381). -/
def State.recordCount (s : State) : Nat := min 16 (0x1000000 / s.recordSize)

/-- Address of the record with number `k` since enable (R381). -/
def State.recordAddr (s : State) (k : Nat) : Nat :=
  s.tables + 0x05900000 + k % max 1 s.recordCount * s.recordSize

/-- Kaleidoscope is enabled. -/
def State.kaleidoOn (s : State) : Bool := s.obj 0x410001 = 1

/-- Records that are complete and intact lie from this number (R382, R383). -/
def State.oldestRecord (s : State) : Nat :=
  let k := s.kaleido
  k.done + b2n k.job.isSome - s.recordCount

/-- The status follows the state (R389). -/
def State.kaleidoSync (s : State) : State :=
  let k := s.kaleido
  let cam := match k.job with
    | some j => j.cam.val
    | none => 0
  s.setObj 0x41000C (b2n s.kaleidoOn + 2 * b2n k.job.isSome + 4 * cam + 8 * b2n k.frozen.isSome +
    16 * b2n (s.kaleidoOn && decide (k.done ≤ k.cursor)))

/-- Live frames that wait: START_TIME, camera and slot. -/
def State.liveWaiting (s : State) : List (Nat × Fin 2 × Nat) :=
  (List.finRange 2).filterMap fun c => (s.camera.get c).waiting.head?.map fun i =>
    (s.num (s.camSlotAddr c i + 0x18) 8, c, i)

/-- The frame to take next: the earliest live one, CAM0 first, then a frame to reprocess (R353). -/
def State.nextFrame (s : State) : Option (Fin 2 × Nat × Bool) :=
  match s.liveWaiting with
  | [(_, c, i)] => some (c, i, false)
  | [(a, c, i), (b, d, k)] => some (if b < a then (d, k, false) else (c, i, false))
  | _ => (List.finRange 2).findSome? fun c => match (s.camera.get c).reproc with
    | some (i, false) => some (c, i, true)
    | _ => none

/-- A header flag of the frame in a slot (R349). -/
def State.frameFlag (s : State) (c : Fin 2) (i b : Nat) : Bool := (s.num (s.camSlotAddr c i + 7) 1).testBit b

/-- START_POS of the frame in a slot (R349). -/
def State.startPos (s : State) (c : Fin 2) (i : Nat) : Nat := s.num (s.camSlotAddr c i + 0x20) 8 % 2 ^ 48

/-- A rational rounded to the nearest integer, halves away from zero. -/
def roundAway (x : Rat) : Int := if 0 ≤ x then (x + 1 / 2).floor else -((1 / 2 - x).floor)

/-- The row shift between two frames of a camera (R373). -/
def State.rowShift (s : State) (c : Fin 2) (i q : Nat) : Int :=
  roundAway ((posDiff (s.startPos c i) (s.startPos c q) : Rat) / (s.rowPitch c : Rat))

/-- Why temporal noise reduction is skipped, 0 where it is used: the first case of the table of R373 that holds. -/
def State.tnrReason (s : State) (p : Params) (c : Fin 2) (i : Nat) (rep : Bool) (ref : Option Nat) : Nat :=
  if p.num 0x410006 = 0 then 6
  else if rep then 5
  else match ref with
    | none => 1
    | some q =>
      let a := s.camSlotAddr c i
      let b := s.camSlotAddr c q
      if !s.frameFlag c i 3 || !s.frameFlag c q 3 then 2
      else if s.num (a + 0x38) 4 ≠ s.num (b + 0x38) 4 || s.frameFlag c i 5 || s.frameFlag c q 5 then 3
      else if s.camLines c ≤ (s.rowShift c i q).natAbs then 4
      else 0

/-- A frame whose header fails, or cannot be read, is not processed and its slot becomes FREE; the hold mask and the reference of TNR no longer name it (R387). -/
def State.rejectFrame (s : State) (c : Fin 2) (i : Nat) (rep : Bool) : State :=
  let s := s.setCamSlot c i 0
  let s := if rep then
      (s.modCamera c fun q => { q with reproc := none, reference := q.reference.filter fun r => r ≠ i }).setBit
        (ck 0x400030 c) i false
    else s.modCamera c fun q => { q with waiting := q.waiting.drop 1 }
  (((s.event 0x41000D 2).bump 0x410053).raise 154 c.val 0).camSync c

/-- The take reuses the record at the cursor, which moves to the oldest record still intact (R383). -/
def State.moveCursor (s : State) : State :=
  if s.kaleido.cursor < s.oldestRecord then
    ((s.modKaleido fun k => { k with cursor := s.oldestRecord }).event 0x41000D 3).bump 0x410054
  else s

/-- A frame is taken with its snapshot (R353, R368, R369, R373). -/
def State.takeFrame (s : State) (c : Fin 2) (i : Nat) (rep : Bool) : State :=
  let p := s.kaleido.frozen.getD s.snapshot
  let ref := (s.camera.get c).reference
  let reason := s.tnrReason p c i rep ref
  let shift := match ref with
    | some q => s.rowShift c i q
    | none => 0
  let s := (s.bump (if reason = 0 then 0x410051 else 0x410052)).eventIf (1 ≤ reason && reason ≤ 5) 0x41000D 1
  let s := if rep then s.modCamera c fun q => { q with reproc := some (i, true) }
    else (s.setCamSlot c i 3).modCamera c fun q => { q with waiting := q.waiting.drop 1 }
  let s := s.modKaleido fun k => { k with
    job := some { cam := c, slot := i, rep, params := p, refSlot := ref, reason, shift } }
  s.moveCursor.camSync c

/-- A frame's header and lines can be read (R489, R503, R513). -/
def State.frameReadable (s : State) (c : Fin 2) (i : Nat) : Bool :=
  s.readOk (s.camSlotAddr c i) (4096 + (s.camEmb c + s.camLines c) * s.lineBytes c)

/-- Kaleidoscope is ready and takes the next frame (R353, R384, R387). -/
def State.frameTake (s : State) (readErr : Bool) : State :=
  if !s.timing || !s.kaleidoOn || s.kaleido.job.isSome then s
  else match s.nextFrame with
    | none => s
    | some (c, i, rep) =>
      if readErr || !s.frameReadable c i || !s.frameHeaderOk c i then s.rejectFrame c i rep else s.takeFrame c i rep

/-- FRAME_TAKE (R353). -/
def execFrameTake (readErr : Bool) (t : Nat) (s : State) : Host.Outcome State Fault Refusal :=
  .next (State.settle ((s.tick t).frameTake readErr).kaleidoSync)

/-- TNR_SHIFT: d, free where there is no reference or where d does not fit the field (R381). -/
def State.shiftField (s : State) (j : KaleidoJob) : Nat × State :=
  if j.refSlot.isSome ∧ -(2 ^ 31 : Int) ≤ j.shift ∧ j.shift < 2 ^ 31 then (toBits 32 j.shift, s)
  else (s.draw.1 % 2 ^ 32, s.draw.2)

/-- Bytes 0x000 to 0x03F of a record with RESULT 0 (R381). -/
def State.recordTags (s : State) (j : KaleidoJob) (shift : Nat) : Bytes :=
  let c := j.cam
  let a := s.camSlotAddr c j.slot
  let flags := b2n (decide (j.reason = 0)) + 2 * b2n j.rep + 4 * b2n (s.frameFlag c j.slot 3) +
    8 * b2n (s.frameFlag c j.slot 0) + 16 * b2n (s.frameFlag c j.slot 5) + 32 * b2n (s.frameFlag c j.slot 4)
  let ref := match j.refSlot with
    | some q => s.num (s.camSlotAddr c q + 8) 4
    | none => 0xFFFFFFFF
  leBytes 4 0x534D4B42 ++ leBytes 1 c.val ++ leBytes 1 flags ++ leBytes 1 j.reason ++ leBytes 1 (s.cfa c) ++
    leBytes 4 (s.num (a + 8) 4) ++ leBytes 4 j.params.seq ++ leBytes 4 (s.num (a + 0x38) 4) ++ leBytes 4 ref ++
    leBytes 8 (s.startPos c j.slot) ++ leBytes 8 (s.num (a + 0x18) 8) ++ leBytes 4 (toBits 32 (s.rowPitch c)) ++
    leBytes 4 shift ++ leBytes 2 (s.camWidth c) ++ leBytes 2 (s.camLines c) ++ leBytes 2 s.blockRows ++
    leBytes 2 (s.blocksOf (s.camLines c)) ++ leBytes 4 (s.saturated j) ++ leBytes 4 0

/-- The header area of a record: tags, means, histograms, zones and CRC (R380, R381). -/
def State.recordHeader (s : State) (j : KaleidoJob) (shift : Nat) : Bytes :=
  let chan := List.range 3
  let means := chan.flatMap fun ch => leBytes 4 (roundQ 16 (meanQ (s.allOutputs j ch))).toNat
  let hist := chan.flatMap fun ch => (List.range 256).flatMap fun i =>
    leBytes 4 ((s.allOutputs j ch).filter fun v => v / 256 = i).length
  let zones := chan.flatMap fun ch => (List.range 64).flatMap fun z => leBytes 2 (s.zoneMean j ch (z % 8) (z / 8))
  let b := padTo 0x100 (s.recordTags j shift ++ means ++ leBytes 4 (s.kaleido.done % 2 ^ 32)) ++ hist ++ zones
  let b := padTo 0xFFC b
  b ++ leBytes 4 (crc32c b)

/-- The profiles of a record (R379, R381). -/
def State.recordProfiles (s : State) (j : KaleidoJob) : Bytes :=
  (List.range (s.blocksOf (s.camLines j.cam))).flatMap fun b => (List.range (s.camWidth j.cam)).flatMap fun x =>
    (List.range 3).flatMap fun ch => leBytes 2 (s.profile j b x ch)

/-- The slot of a processed frame becomes REFERENCE, and the one before it DONE; a reprocessed frame's slot stays HELD (R350). -/
def State.frameDone (s : State) (j : KaleidoJob) : State :=
  if j.rep then s.modCamera j.cam fun q => { q with reproc := none }
  else
    let s := match (s.camera.get j.cam).reference with
      | some q => if (s.camSlot j.cam q).st = 4 then s.setCamSlot j.cam q 5 else s
      | none => s
    (s.setCamSlot j.cam j.slot 4).modCamera j.cam fun q => { q with reference := some j.slot }

/-- A record is written and the frame in progress ends; a write of 0 to the enable that waited takes effect (R381, R382, R384). -/
def State.recordComplete (s : State) : State :=
  match s.kaleido.job with
  | none => s
  | some j =>
    if !s.timing then s
    else
      let (shift, s) := s.shiftField j
      let bytes := s.recordHeader j shift ++ s.recordProfiles j
      let s := (s.stackPut (s.recordAddr s.kaleido.done) bytes).frameDone j
      let s := ((s.modKaleido fun k => { k with
        job := none, done := k.done + 1, recs := ((k.done, j) :: k.recs).take 16 }).bump 0x410050).event 0x41000D 0
      if s.kaleido.stopping then (s.modKaleido fun k => { k with stopping := false }).setObj 0x410001 0 else s

/-- RECORD_COMPLETE (R382). -/
def execRecordComplete (t : Nat) (s : State) : Host.Outcome State Fault Refusal :=
  .next (State.settle (s.tick t).recordComplete.kaleidoSync)

/-- Length of a DOMAIN process parameter (R388). -/
def paramLength (k : Key) : Nat := if k ≤ 0x41000B then 514 else 18

/-- Largest value of a numeric process parameter (R388). -/
def paramMax (k : Key) : Nat :=
  if k = 0x410004 ∨ k = 0x410006 then 255
  else if k = 0x410008 then 1
  else if 2 ≤ k % 16 ∧ k % 16 ≤ 5 ∧ 0x410010 ≤ k then 32767
  else 65535

/-- A parameter has been written (R368). -/
def State.paramWritten (s : State) : State := s.setObj 0x41000E ((s.obj 0x41000E + 1) % 2 ^ 32)

/-- Data written to a process parameter (R368, R388). -/
def processParamOp (k : Key) (d : Bytes) (s : State) : Answer :=
  if paramDoms.contains k then
    if d.length ≠ paramLength k then s.refuse 0x06070010 else (s.setDomain k d).paramWritten.accept
  else if leNat d > paramMax k then s.refuse 0x06090030
  else (s.setObj k (leNat d)).paramWritten.accept

/-- PROCESS_PARAM_WRITE (R368). -/
def execProcessParamWrite (via : Via) (key : Nat) (data : Bytes) (s : State) : Host.Outcome State Fault Refusal :=
  .next (State.settle (if paramDoms.contains key || paramKeys.contains key
    then s.access via key (processParamOp key data) else s))

/-- A write of the parameter freeze (R369). -/
def freezeOp (v : Nat) (s : State) : Answer :=
  if 1 < v then s.refuse 0x06090030
  else
    let f := if v = 1 then some s.snapshot else none
    ((s.setObj 0x410002 v).modKaleido fun k => { k with frozen := f }).kaleidoSync.accept

/-- PARAMETER_FREEZE (R369). -/
def execParameterFreeze (via : Via) (value : Nat) (s : State) : Host.Outcome State Fault Refusal :=
  .next (State.settle (s.access via 0x410002 (freezeOp value)))

/-- The ring is emptied, and its readers start at the first record (R384, R422). -/
def State.emptyRing (s : State) : State :=
  { s.modKaleido fun k => { k with done := 0, cursor := 0, recs := [] } with
    analyser := { s.analyser with cursor := 0 } }

/-- A write of the Kaleidoscope enable (R384); while it is enabled a write of 1 keeps it so. -/
def kaleidoEnableOp (v : Nat) (s : State) : Answer :=
  if 1 < v then s.refuse 0x06090030
  else if v = 1 then
    if s.recordCount < 4 then (s.event 0x41000D 4).refuse 0x06090030
    else if s.kaleidoOn then (s.modKaleido fun k => { k with stopping := false }).accept
    else ((s.setObj 0x410001 1).emptyRing).kaleidoSync.accept
  else if s.kaleido.job.isSome then (s.modKaleido fun k => { k with stopping := true }).accept
  else (s.setObj 0x410001 0).kaleidoSync.accept

/-- KALEIDO_ENABLE (R384). -/
def execKaleidoEnable (via : Via) (value : Nat) (s : State) : Host.Outcome State Fault Refusal :=
  .next (State.settle (s.access via 0x410001 (kaleidoEnableOp value)))

/-- The header area of a record as it is read, with VALID (R381, R383). -/
def State.recordRead (s : State) (k : Nat) (valid : Bool) : Bytes :=
  let b := s.bytes (s.recordAddr k) 4096
  b.take 0x3C ++ leBytes 1 (b2n valid) ++ b.drop 0x3D

/-- The record at the cursor is complete (R383). -/
def State.cursorValid (s : State) : Bool := s.kaleido.cursor < s.kaleido.done

/-- What a read of the statistics returns (R383). -/
def State.statsRead (s : State) : Bytes :=
  if s.kaleido.done = 0 then List.replicate 4096 0#8
  else if s.cursorValid then s.recordRead s.kaleido.cursor true
  else s.recordRead (s.kaleido.done - 1) false

/-- What the mailbox answers to an SDO read of object `k`: aborted while its block is gated (R622). -/
def State.readAnswer (s : State) (k : Key) (d : Bytes) (f : State → State) : State :=
  match s.slave.al with
  | .init => s
  | .boot => s.answer .mailboxError
  | _ => if s.gated k then s.newSdo.answer (.abort 0x08000022) else (f s.newSdo).answer (.data d)

/-- STATS_READ (R383). -/
def execStatsRead (s : State) : Host.Outcome State Fault Refusal :=
  .next (State.settle (s.readAnswer 0x410040 s.statsRead id))

/-- The cursor moves on where the record was valid (R383). -/
def State.advanceStats (s : State) : State :=
  if s.cursorValid then (s.modKaleido fun k => { k with cursor := k.cursor + 1 }).kaleidoSync else s

/-- STATS_READ_ADVANCE (R383). -/
def execStatsReadAdvance (s : State) : Host.Outcome State Fault Refusal :=
  .next (State.settle (s.readAnswer 0x410041 s.statsRead State.advanceStats))

end Sys2Proof.Machine
end

