-- ==== Sys2Proof/Machine/AnalyserView.lean ====
section
/-! DEFINITION. What the analyser sees: where a camera looks, what the history says was printed, and the predicted image (R390 to R400). -/

namespace Sys2Proof.Machine

/-- A Kaleidoscope record under analysis: camera, address, width, rows, block rows, and the web tag of row 0 (R381). -/
structure Look where
  cam : Fin 2
  addr : Nat
  w : Nat
  h : Nat
  b : Nat
  pos : Nat
  pitch : Int
  frame : Nat

/-- Record number `k` (R381). -/
def State.look (s : State) (k : Nat) : Look :=
  let a := s.recordAddr k
  { cam := if s.num (a + 4) 1 = 0 then 0 else 1, addr := a, w := s.num (a + 0x30) 2, h := s.num (a + 0x32) 2,
    b := s.num (a + 0x34) 2, pos := s.num (a + 0x18) 8 % 2 ^ 48, pitch := sx 32 (s.num (a + 0x28) 4),
    frame := s.num (a + 8) 4 }

/-- Key of object `k` of camera `c` in the family 0x4200, given for camera 0 (R429). -/
def sk (k : Key) (c : Fin 2) : Key := k + 0x10 * c.val

/-- Web tag of row `r` (R378). -/
def Look.tag (l : Look) (r : Nat) : Nat := toBits 48 ((l.pos : Int) + r * l.pitch)

/-- Job line that row `r` shows (R390). -/
def State.rowLine (s : State) (l : Look) (r : Nat) : Int :=
  floorShift (posDiff (l.tag r) (s.obj (sk 0x420021 l.cam))) 16

/-- Job lines that the rows of block `b` show, one for each row (R379, R390). -/
def State.blockLines (s : State) (l : Look) (b : Nat) : List Int :=
  (span (b * l.b) (min l.h ((b + 1) * l.b))).map (s.rowLine l)

/-- Blocks of the record. -/
def Look.blocks (l : Look) : Nat := (l.h + l.b - 1) / max 1 l.b

/-- Job line `j` belongs to the job; every other line shows bare web (R397). -/
def State.lineInJob (s : State) (j : Int) : Bool :=
  decide (0 ≤ j) && match s.lastLine with
    | some l => decide (j ≤ l)
    | none => true

/-- Knot `i` of a camera's column map, signed Q16.16 (R391). -/
def State.knot (s : State) (c : Fin 2) (i : Nat) : Int :=
  let d := s.domain (sk 0x420022 c)
  if d.isEmpty then 256 * i * 65536 else sx 32 (leAt d (4 * i) 4)

/-- Image position of camera column `x`, in units of 2^-24 (R391). -/
def State.columnPos (s : State) (c : Fin 2) (x : Nat) : Int :=
  let i := x / 256
  s.knot c i * 256 + (s.knot c (i + 1) - s.knot c i) * (x % 256 : Nat)

/-- The camera column whose mapped position lies nearest to image position `x`, the lower one on a tie (R391). -/
def State.nearestColumn (s : State) (l : Look) (x : Int) : Nat :=
  let dist := fun (c : Nat) => (s.columnPos l.cam c - x * 2 ^ 24).natAbs
  (List.range l.w).foldl (fun m c => if dist c < dist m then c else m) 0

/-- The profile value of block `b` at image position `x` (R381, R391). -/
def State.measured16 (s : State) (l : Look) (b x ch : Nat) : Nat :=
  s.num (l.addr + 0x1000 + 2 * (3 * (b * l.w + s.nearestColumn l x) + ch)) 2

/-- Analysed range of a camera (R391). -/
def State.analysedRange (s : State) (c : Fin 2) : List Nat :=
  span (s.obj (sk 0x420023 c)) (s.obj (sk 0x420024 c) + 1)

/-- The history entry of a port holds job line `j`, and its read is made (R398, R503). -/
def State.entryHeld (s : State) (n : Fin 16) (j : Nat) : Bool :=
  s.histDepth n ≠ 0 && s.readOk (s.histEntry n j) 1088 && s.num (s.histEntry n j) 4 = j && (s.num (s.histEntry n j + 9) 1).testBit 0

/-- SHIFT of a history entry (R395). -/
def State.entryShift (s : State) (n : Fin 16) (j : Nat) : Int := sx 8 (s.num (s.histEntry n j + 8) 1)

/-- Head position that prints image position `x` on a line with walk shift `sh` (R255, R391). -/
def State.headPos (s : State) (x : Int) (sh : Int) : Int :=
  if s.obj 0x240006 = 0 then x - sh else x + sh

/-- Ports that print plane `p`, each with its plane slot (R252). -/
def State.printers (s : State) (p : Nat) : List (Fin 16 × Nat) :=
  s.renderedPorts.filterMap fun n =>
    match (s.planeList n).findIdx? (· = p) with
    | some i => some (n, i)
    | none => none

/-- Map entry of plane slot `ps` at head position `q` of a port, none outside its span (R303). -/
def State.entryAt (s : State) (n : Fin 16) (ps : Nat) (q : Int) : Option Nat :=
  if (s.spanFirst n : Int) ≤ q ∧ q < (s.spanFirst n + s.spanWidth n : Nat) then
    some (ps * s.spanWidth n + (q.toNat - s.spanFirst n))
  else none

/-- The map under which a line was fired: in force, or in the archive (R394). -/
def State.mapNamed (s : State) (n : Fin 16) (seq : Nat) : Option Bytes :=
  if storeGet (fun _ => 0) s.sched.mapSince n.val ≤ seq then some (s.forceMap n)
  else
    let k := storeGet (fun _ => 0) s.sched.archived n.val
    ((List.range (min k 16)).map fun i => s.archiveBase n + i * 0x10000).findSome? fun a =>
      if s.num (a + 0xFFF8) 4 ≤ seq ∧ seq ≤ s.num (a + 0xFFFC) 4 then some (s.bytes a (s.mapLen n)) else none

/-- The map named by a line's history entry (R394, R397). -/
def State.lineMap (s : State) (n : Fin 16) (j : Nat) : Option Bytes := s.mapNamed n (s.num (s.histEntry n j + 4) 4)

/-- COL_STATUS of column `k` in a line's history entry (R395). -/
def State.colStatus (s : State) (n : Fin 16) (j k : Nat) : Nat := s.num (s.histEntry n j + 0x10 + k) 1

/-- Columns that hold a twin of a map entry (R302). -/
def State.twinColumns (s : State) (n : Fin 16) (m : Bytes) (e : Nat) : List Nat :=
  [colOf (s.record n) (twinA m e), colOf (s.record n) (twinB m e)].eraseDups

/-- History bit of a map entry on a job line (R395). -/
def State.historyBit (s : State) (n : Fin 16) (j e : Nat) : Bool :=
  (s.num (s.histEntry n j + 0x40 + e / 8) 1).testBit (e % 8)

/-- The bit counts as printed: DONE and FIRED in every enabled column of its twins (R397). -/
def State.printedBit (s : State) (n : Fin 16) (j e : Nat) : Bool :=
  s.entryHeld n j && s.historyBit n j e && match s.lineMap n j with
    | some m => (s.twinColumns n m e).all fun k =>
        !s.colEnabled n k || (field (s.colStatus n j k) 0 4 = 0 && (s.colStatus n j k).testBit 5)
    | none => false

/-- Printed dots of plane `p` at image position `x` on job line `j` (R397, R399). -/
def State.dotsAt (s : State) (p : Nat) (x : Int) (j : Int) : Nat :=
  if !s.lineInJob j then 0
  else ((s.printers p).filter fun np =>
    match s.entryAt np.1 np.2 (s.headPos x (s.entryShift np.1 j.toNat)) with
    | some e => s.printedBit np.1 j.toNat e
    | none => false).length

/-- Coverage of plane `p` at image position `x` over a block (R399). -/
def State.coverage1 (s : State) (lines : List Int) (p : Nat) (x : Int) : Rat :=
  ((lines.map (s.dotsAt p x)).sum : Rat) / (lines.length : Rat)

/-- Local coverage (R399). -/
def State.localCoverage (s : State) (lines : List Int) (p x : Nat) : Rat :=
  (s.coverage1 lines p ((x : Int) - 1) + 2 * s.coverage1 lines p x + s.coverage1 lines p (x + 1)) / 4

/-- Response of a plane in a channel (R400). -/
def State.response (s : State) (p ch : Nat) : Rat := uq 16 (leAt (s.domain (0x420060 + p)) (2 * ch) 2)

/-- Paper white of a camera in a channel (R400, R429). -/
def State.paperWhite (s : State) (c : Fin 2) (ch : Nat) : Nat :=
  let d := s.domain (sk 0x420025 c)
  if d.isEmpty then 0xFFFF else leAt d (2 * ch) 2

/-- Planes printed by some rendered port. -/
def State.printedPlanes (s : State) : List Nat := (List.range 8).filter fun p => !(s.printers p).isEmpty

/-- The prediction for a block, position and channel (R400). -/
def State.predicted (s : State) (l : Look) (lines : List Int) (x ch : Nat) : Rat :=
  s.printedPlanes.foldl (fun v p => v * (1 - s.response p ch * s.localCoverage lines p x))
    (s.paperWhite l.cam ch : Rat)

/-- A line keeps a position of a port from being scored; a disabled column never has DONE (R396, R398). -/
def State.lineExcludes (s : State) (n : Fin 16) (ps x j : Nat) : Bool :=
  if !s.entryHeld n j then true
  else
    let flags := s.num (s.histEntry n j + 9) 1
    match s.lineMap n j, s.entryAt n ps (s.headPos x (s.entryShift n j)) with
    | none, _ => true
    | some m, some e => (s.twinColumns n m e).any (fun k => !(s.colStatus n j k).testBit 5) || flags.testBit 4 ||
        flags.testBit 5 || (List.range 8).any fun k => (s.colStatus n j k).testBit 4
    | some _, none => flags.testBit 4 || flags.testBit 5 || (List.range 8).any fun k => (s.colStatus n j k).testBit 4

/-- The job lines of a block that lie in the job. -/
def State.jobLines (s : State) (lines : List Int) : List Nat :=
  ((lines.filter fun j => s.lineInJob j).map Int.toNat).eraseDups

/-- A port prints plane slot `ps` at position `x` in a block (R399). -/
def State.printsAt (s : State) (n : Fin 16) (ps x : Nat) (lines : List Nat) : Bool :=
  (s.entryAt n ps (x : Int)).isSome || lines.any fun j => (s.entryAt n ps (s.headPos x (s.entryShift n j))).isSome

/-- A block is excluded from the scoring of plane `p` at position `x` (R398). -/
def State.excluded (s : State) (lines : List Nat) (p x : Nat) : Bool :=
  (s.printers p).any fun np => s.printsAt np.1 np.2 x lines &&
    (lines.any (s.lineExcludes np.1 np.2 x) || decide (1 < (lines.map (s.entryShift np.1)).eraseDups.length))

/-- Ports and lines of a block whose history entry is missing or mismatched, in the camera's range (R398). -/
def State.historyMisses (s : State) (c : Fin 2) (lines : List Nat) : List (Fin 16 × Nat) :=
  let lo := s.obj (sk 0x420023 c)
  let hi := s.obj (sk 0x420024 c)
  (s.renderedPorts.filter fun n => decide (s.spanFirst n ≤ hi) && decide (lo < s.spanFirst n + s.spanWidth n)).flatMap
    fun n => (lines.filter fun j => !s.entryHeld n j).map fun j => (n, j)

/-- H times the row pitch of a camera, in whole lines rounded up (R392, R393). -/
def State.frameReach (s : State) (c : Fin 2) : Nat := (s.camLines c * (s.rowPitch c).natAbs + 65535) / 65536

/-- A camera is enabled for analysis and the analyser is enabled. -/
def State.analysing (s : State) (c : Fin 2) : Bool := s.obj 0x420001 = 1 && s.obj (sk 0x420020 c) = 1

/-- Enabled column offsets of a port. -/
def State.offsets (s : State) (n : Fin 16) : List Nat := (s.columns n).map (s.offset n)

/-- History ring depth of a rendered port (R393). -/
def State.depthNeeded (s : State) (n : Fin 16) : Nat :=
  let cams := (List.finRange 2).filter s.analysing
  let d := (cams.map fun c => s.obj (sk 0x420021 c) / 65536).foldl max 0
  let h := (cams.map s.frameReach).foldl max 0
  let o := s.offsets n
  let hi := o.foldl max 0
  let lo := o.foldl min hi
  256 * ((max (d + h) (hi + 1) - lo + s.obj 0x420009 + 255) / 256)

/-- The history that the rendered ports need (R393). -/
def State.historyNeeded (s : State) : Nat := (s.renderedPorts.map fun n => s.depthNeeded n * 1088 + 0x100000).sum

/-- ARM computes the history rings (R393). -/
def State.setDepths (s : State) : State :=
  ((List.finRange 16).foldl (fun s n => s.setObj (0x420080 + n.val) (if s.rendered n then s.depthNeeded n else 0)) s).setObj
    0x420048 s.historyNeeded

/-- ARM is refused by the analyser's configuration (R392). -/
def State.analyserConfigBad (s : State) : Bool :=
  let cams := (List.finRange 2).filter s.analysing
  let reach := (((List.finRange 16).filter fun n => s.portEnabled n.val).flatMap s.offsets).foldl max 0
  s.obj 0x420001 = 1 &&
    (decide (s.obj 0x420023 ≤ s.obj 0x420034 ∧ s.obj 0x420033 ≤ s.obj 0x420024) ||
      cams.any (fun c => decide (s.obj (sk 0x420021 c) < reach * 65536 + s.camLines c * (s.rowPitch c).natAbs) ||
        !s.kaleidoOn || s.obj (ck 0x400001 c) = 0) ||
      s.printedPlanes.any fun p => (List.range 3).all fun ch => leAt (s.domain (0x420060 + p)) (2 * ch) 2 = 0)

end Sys2Proof.Machine
end

