-- ==== Sys2Proof/Machine/AnalyserScore.lean ====
section
/-! DEFINITION. Streaks: attribution of blocks, scores, declarations, twins, gain proposals and results (R401 to R405, R408, R414 to R420). -/

namespace Sys2Proof.Machine

/-- What a block says about an image position: no candidate, no streak, attributed to a plane with a deficit and a confidence, or unattributed (R401). -/
inductive Verdict where
  | blank
  | quiet (planes : List Nat)
  | attributed (plane : Nat) (d : Rat) (confidence : Nat)
  | unattributed (d : Rat) (planes : List Nat)

/-- A candidate plane: deficit and residual (R401). -/
structure Candidate where
  plane : Nat
  d : Rat
  e : Rat

/-- Deficit and residual of plane `p`, from its local coverage and the relative errors of the channels (R401). -/
def State.candidate (s : State) (rho : Nat → Rat) (p : Nat) (cov : Rat) : Candidate :=
  let u := fun (ch : Nat) => s.response p ch * cov / (1 - s.response p ch * cov)
  let sum := fun (f : Nat → Rat) => f 0 + f 1 + f 2
  let d := divQ (sum fun ch => u ch * rho ch) (sum fun ch => u ch * u ch)
  { plane := p, d, e := sum fun ch => (rho ch - u ch * d) * (rho ch - u ch * d) }

/-- The candidates of a block at a position: the planes whose local coverage reaches the floor (R401). -/
def State.candidatesAt (s : State) (l : Look) (b : Nat) (lines : List Int) (x : Nat) : List Candidate :=
  let rho := fun (ch : Nat) => divQ (s.measured16 l b x ch) (s.predicted l lines x ch) - 1
  s.printedPlanes.filterMap fun p =>
    let cov := s.localCoverage lines p x
    if uq 16 (s.obj 0x420003) ≤ cov then some (s.candidate rho p cov) else none

/-- The candidate with the smallest residual, the lower plane on a tie. -/
def bestOf : List Candidate → Option Candidate
  | [] => none
  | c :: t => match bestOf t with
    | some d => if d.e < c.e then some d else some c
    | none => some c

/-- The verdict of a block on a position (R401). -/
def State.verdict (s : State) (l : Look) (b : Nat) (lines : List Int) (x : Nat) : Verdict :=
  let cs := s.candidatesAt l b lines x
  match cs, bestOf cs with
  | [c], _ => .attributed c.plane c.d 255
  | _, none => .blank
  | cs, some c1 =>
    match bestOf (cs.filter fun c => c.plane ≠ c1.plane) with
    | none => .blank
    | some c2 =>
      let d := if c1.d < 0 then -c1.d else c1.d
      if d < uq 16 (s.obj 0x420004) ∨ c2.e = 0 then .quiet (cs.map Candidate.plane)
      else
        let conf := min 255 (256 * (1 - c1.e / c2.e)).floor.toNat
        if s.obj 0x420007 ≤ conf then .attributed c1.plane c1.d conf
        else .unattributed c1.d (cs.map Candidate.plane)

/-- Key of plane `p` and position `x`. -/
def px (p x : Nat) : Nat := p * 16384 + x

/-- A score that is 0. -/
def Score.zero : Score := { value := 0, ev := [] }

/-- A score after a block: value, and the evidence since it last left 0 (R402). -/
def Score.next (sc : Score) (k : Rat) (d : Rat) (e : Evidence) : Score :=
  let v := sc.value + d - k
  if v ≤ 0 then Score.zero else { value := v, ev := e :: sc.ev }

/-- The dots of twin A and of twin B at a position over a block's lines (R404). -/
def State.twinDots (s : State) (lines : List Int) (p x : Nat) : Nat × Nat :=
  let one := fun (j : Int) =>
    if !s.lineInJob j then none
    else (s.printers p).findSome? fun np =>
      let q := s.headPos x (s.entryShift np.1 j.toNat)
      match s.entryAt np.1 np.2 q, s.lineMap np.1 j.toNat with
      | some e, some m =>
        if s.printedBit np.1 j.toNat e then
          (assign m j.toNat q.toNat p e).map fun ub => decide (ub.1 = twinA m e)
        else none
      | _, _ => none
  let marks := lines.filterMap one
  (marks.count true, marks.count false)

/-- The evidence that a block gives for a position (R402, R404, R420). -/
def State.evidence (s : State) (l : Look) (b : Nat) (lines : List Int) (p x : Nat) (d : Rat) (planes : List Nat) :
    Evidence :=
  let ab := s.twinDots lines p x
  let first := (s.jobLines lines).headD 0
  let sh := match s.printers p with
    | np :: _ => s.entryShift np.1 first
    | [] => 0
  { d, nA := ab.1, nB := ab.2, web := l.tag (b * l.b), line := first, q := (s.headPos x sh).toNat, planes }

/-- Updates a store of scores at a key. -/
def scoreStep (l : List (Nat × Score)) (key : Nat) (k d : Rat) (e : Evidence) : List (Nat × Score) :=
  storePut (fun _ => Score.zero) l key ((storeGet (fun _ => Score.zero) l key).next k d e)

/-- The scores of plane `p` at `x` take deficit `d` (R402). -/
def State.scorePlane (s : State) (l : Look) (b : Nat) (lines : List Int) (p x : Nat) (d : Rat) : State :=
  let k := uq 16 (s.obj 0x420004)
  let d := clampQ (-1) 1 d
  let e := s.evidence l b lines p x d [p]
  s.modAnalyser fun a => { a with
    plus := scoreStep a.plus (px p x) k d e, minus := scoreStep a.minus (px p x) k (-d) e }

/-- The unattributed score at `x` takes deficit `d` (R402). -/
def State.scoreUnknown (s : State) (l : Look) (b : Nat) (lines : List Int) (x : Nat) (d : Rat) (planes : List Nat) :
    State :=
  let k := uq 16 (s.obj 0x420004)
  let d := clampQ (-1) 1 d
  let e := s.evidence l b lines (planes.headD 0) x d planes
  s.modAnalyser fun a => { a with unknown := scoreStep a.unknown x k d e }

/-- An attributed block enters the gain accumulator of its plane and position (R414). -/
def State.accumulate (s : State) (p x : Nat) (d : Rat) : State :=
  if s.obj 0x42000B = 0 then s
  else s.modAnalyser fun a =>
    let old := storeGet (fun _ => ((0 : Rat), 0)) a.acc (px p x)
    { a with acc := putKey a.acc (px p x) (old.1 + clampQ (-1) 1 d, old.2 + 1) }

/-- The scores take a block's verdict on a position; the scores of a plane that the block is excluded for stay as they are (R398, R402, R414). -/
def State.score (s : State) (l : Look) (b : Nat) (lines : List Int) (x : Nat) : Verdict → State
  | .blank => s
  | .quiet ps => (ps.filter fun p => !s.excluded (s.jobLines lines) p x).foldl (fun s p => s.scorePlane l b lines p x 0) s
  | .attributed p d _ =>
    if s.excluded (s.jobLines lines) p x then s else (s.scorePlane l b lines p x d).accumulate p x d
  | .unattributed d ps => s.scoreUnknown l b lines x d ps

/-- A position is muted (R405). -/
def State.isMuted (s : State) (p x : Nat) : Bool :=
  s.analyser.mutes.any fun m => m.x = x && (m.plane = p || m.plane = 8)

/-- Mutes whose mute line every line of a block has reached end (R405). -/
def State.endMutes (s : State) (x : Nat) (lines : List Nat) : State :=
  s.modAnalyser fun a => { a with mutes := a.mutes.filter fun m => !(m.x = x && match m.line with
    | some y => !lines.isEmpty && lines.all fun j => lineAtOrBeyond j y
    | none => false) }

/-- The mean deficit over evidence (R403). -/
def severity (ev : List Evidence) : Rat := (ev.map Evidence.d).sum / (ev.length : Rat)

/-- Alpha less beta of the least-squares fit of the missing dots to the dots of the twins (R404). -/
def twinFit (ev : List Evidence) : Rat :=
  let sum := fun (f : Evidence → Rat) => (ev.map f).sum
  let m := fun (e : Evidence) => e.d * ((e.nA + e.nB : Nat) : Rat)
  let aa := sum fun e => (e.nA : Rat) * e.nA
  let bb := sum fun e => (e.nB : Rat) * e.nB
  let ab := sum fun e => (e.nA : Rat) * e.nB
  let am := sum fun e => (e.nA : Rat) * m e
  let bm := sum fun e => (e.nB : Rat) * m e
  divQ (am * bb - bm * ab - (bm * aa - am * ab)) (aa * bb - ab * ab)

/-- The evidence tells the twins apart (R404). -/
def twinsDiffer (ev : List Evidence) : Bool :=
  decide (4 * ev.length ≤ (ev.map fun e => ((e.nA : Int) - e.nB).natAbs ^ 2).sum)

/-- The twin that a DEAD streak resolves to: false A, true B (R404). -/
def State.resolve (s : State) (single : Bool) (ev : List Evidence) : Option Bool :=
  let t := uq 8 (s.obj 0x420008)
  if single then some false
  else if !twinsDiffer ev then none
  else if t ≤ twinFit ev then some false
  else if twinFit ev ≤ -t then some true
  else none

/-- A result before it is written (R420). -/
structure Result where
  kind : Nat
  cls : Nat
  plane : Nat
  flags : Nat
  x : Nat
  q : Nat
  port : Nat
  cam : Nat
  nozzle : Nat
  sev : Nat
  conf : Nat
  action : Nat
  frame : Nat
  web : Nat
  line : Nat
  old : Nat
  new : Nat
  count : Nat

/-- Severity in signed Q1.15 (R420). -/
def sevCode (d : Rat) : Nat := toBits 16 (clampI (-32768) 32767 (roundQ 15 d))

/-- The 60 bytes of a result that its CRC covers (R420). -/
def Result.bytes (r : Result) (seq : Nat) : Bytes :=
  leBytes 4 seq ++ leBytes 1 r.kind ++ leBytes 1 r.cls ++ leBytes 1 r.plane ++ leBytes 1 r.flags ++ leBytes 2 r.x ++
    leBytes 2 r.q ++ leBytes 1 r.port ++ leBytes 1 r.cam ++ leBytes 2 r.nozzle ++ leBytes 2 r.sev ++
    leBytes 1 r.conf ++ leBytes 1 r.action ++ leBytes 4 r.frame ++ leBytes 8 r.web ++ leBytes 4 r.line ++
    leBytes 4 0 ++ leBytes 4 0xFFFFFFFF ++ leBytes 2 r.old ++ leBytes 2 r.new ++ leBytes 4 r.count ++ leBytes 8 0

/-- A result that names a nozzle counts in the nozzle's bin of 64 (R15, R636). -/
def State.countBin (s : State) (r : Result) : State :=
  let key := r.port * 256 + r.nozzle / 64
  if r.port < 16 ∧ r.nozzle < 16384 then
    s.modHealth fun hl => { hl with
      bins := storePut (fun _ => 0) hl.bins key (min 65535 (storeGet (fun _ => 0) hl.bins key + 1)) }
  else s

/-- Writes a result into the ring; where it would overwrite an unread one, the cursor moves (R420, R421). -/
def State.putResult (s : State) (r : Result) (action : Repair) : State :=
  let s := s.countBin r
  let e := s.analyser.made
  let b := r.bytes (e % 2 ^ 32)
  let full := s.analyser.unread + 256 ≤ e
  let s := s.stackPut (s.resultAddr e) (b ++ leBytes 4 (crc32c b))
  let s := s.modAnalyser fun a => { a with
    made := e + 1, unread := if full then e + 1 - 256 else a.unread, actions := ((e, action) :: a.actions).take 256 }
  if full then (s.event 0x420045 8).bump 0x42005C else s

/-- A result whose fields that the spec gives no meaning in its kind are free (R420). -/
def State.openResult (s : State) : Result × State :=
  let (x, s) := s.draw
  let (q, s) := s.draw
  let (sev, s) := s.draw
  let (conf, s) := s.draw
  let (web, s) := s.draw
  let (line, s) := s.draw
  let (old, s) := s.draw
  let (new, s) := s.draw
  ({ kind := 0, cls := 0, plane := 0xFF, flags := 0, x, q, port := 0xFF, cam := 0, nozzle := 0xFFFF, sev, conf,
     action := 0, frame := 0, web := web % 2 ^ 48, line, old, new, count := 0 }, s)

/-- The result ring's latest number. -/
def State.lastResult (s : State) : Nat := s.analyser.made - 1

/-- An action without effect. -/
def Repair.none : Repair := { marks := [], gains := [] }

/-- Two actions together. -/
def Repair.and (a b : Repair) : Repair := { marks := a.marks ++ b.marks, gains := a.gains ++ b.gains }

/-- The gain in force of a port at a plane slot and head position, Q2.10 (R274, R414). -/
def State.gainInForce (s : State) (n : Fin 16) (ps q : Nat) : Nat :=
  s.num (s.gainForce n + 2 * (ps * s.spanWidth n + (q - s.spanFirst n))) 2

/-- The gain proposed for a mean severity, none below the deadband (R414); `full` takes lambda 1 and no deadband (R415). -/
def State.proposeGain (s : State) (g : Nat) (mean lambda : Rat) (full : Bool) : Option Nat :=
  let dd := clampQ (-1 / 2) (1 / 2) mean
  let lambda := if full then 1 else lambda
  let v := roundNear ((g : Rat) * (1 + lambda * dd / (1 - dd)))
  let new := (clampI (s.obj 0x42000F) (s.obj 0x420010) v).toNat
  if !full && decide (((new : Int) - g).natAbs < s.obj 0x42000E) || new = g then none else some new

/-- Proposals for plane `p` at head positions `qs`, in every port that prints the plane there; those of a gain batch heed the ports that recalibrate (R414, R415). -/
def State.proposals (s : State) (batch : Bool) (p : Nat) (qs : List Int) (mean lambda : Rat) : List (Nat × Nat × Nat × Nat) :=
  (s.printers p).flatMap fun np => qs.filterMap fun q => match s.entryAt np.1 np.2 q with
    | some _ => (s.proposeGain (s.gainInForce np.1 np.2 q.toNat) mean lambda
        (batch && s.analyser.recal.testBit np.1.val)).map fun g => (np.1.val, np.2, q.toNat, g)
    | none => none

/-- Autonomous repair is on (R417). -/
def State.autonomous (s : State) : Bool := s.obj 0x420002 = 1

/-- The dead-mark budget of a port is spent (R418). -/
def State.budgetSpent (s : State) (n : Nat) : Bool :=
  decide (s.obj 0x420012 ≤ storeGet (fun _ => 0) s.analyser.marked n)

/-- The port, plane slot and map entry that print plane `p` at head position `q`, the lowest port first. -/
def State.printerAt (s : State) (p q : Nat) : Option (Fin 16 × Nat) :=
  (s.printers p).findSome? fun np => (s.entryAt np.1 np.2 q).map fun e => (np.1, e)

/-- The action that marks nozzle `u` of a port DEAD, with its number: 1, 6 where the budget is spent, 0 where the nozzle is neither LIVE nor WEAK (R416, R418). -/
def State.deadAction (s : State) (n : Fin 16) (u : Nat) : Nat × Repair × State :=
  if 2 ≤ nozState (s.forceMap n) u then (0, Repair.none, s)
  else if s.autonomous && s.budgetSpent n.val then (6, Repair.none, s.event 0x420045 9)
  else
    let s := if s.autonomous then s.modAnalyser fun a => { a with
      marked := putKey a.marked n.val (storeGet (fun _ => 0) a.marked n.val + 1) } else s
    (1, { marks := [(n.val, u, 2)], gains := [] }, s)

/-- A test of a twin over 33 head positions centred on `q` (R408). -/
def bandTest (p twin q : Nat) : BandTest := { plane := p, twin, first := q - 16, geometry := false }

/-- A band request enters the queue; none of more than 32 (R408). -/
def State.requestBand (s : State) (cause : BandCause) (seq plane x q : Nat) (cams : List Nat) (tests : List BandTest) :
    Bool × State :=
  if 32 ≤ s.analyser.requests.length then (false, s.bump 0x420059)
  else (true, s.modAnalyser fun a => { a with
    requests := a.requests ++ [{ id := a.nextRequest, cause, seq, plane, x, q, cams, tests, misses := 0 }],
    nextRequest := a.nextRequest + 1 })

/-- The position is muted by its declaration (R405). -/
def State.mute (s : State) (p x seq : Nat) : State :=
  s.modAnalyser fun a => { a with
    mutes := a.mutes ++ [{ plane := p, x, since := s.clk, seq, line := none }],
    repeats := a.repeats.filter fun r => r ≠ (p, x) }

/-- A streak is declared: counted, reported and raised (R403, R426). -/
def State.streakFound (s : State) (port line : Nat) : State :=
  ((s.event 0x420045 0).bump 0x420054).raise 156 port line

/-- Fields of a streak's result that its evidence gives (R403, R420). -/
def State.streakResult (s : State) (l : Look) (p x conf : Nat) (ev : List Evidence) : Result × State :=
  let (r, s) := s.openResult
  let first := ev.getLast?.getD { d := 0, nA := 0, nB := 0, web := 0, line := 0, q := x, planes := [] }
  ({ r with
     kind := 1, plane := p, x, q := first.q, cam := l.cam.val, sev := sevCode (severity ev), conf,
     frame := l.frame, web := first.web, line := first.line,
     flags := 64 * b2n (s.analyser.repeats.contains (p, x)) }, s)

/-- Everything a declaration adds to the batch of its record: its result and its action (R417). -/
abbrev Declared := List (Nat × Repair)

/-- A DEAD streak with its twin resolved (R404, R416). -/
def State.declareResolved (s : State) (r : Result) (n : Fin 16) (u : Nat) (twinB : Bool) : State × Declared :=
  let (act, rep, s) := s.deadAction n u
  let s := s.putResult { r with
    cls := 1, port := n.val, nozzle := u, action := act, flags := r.flags + 2 + 4 * b2n twinB } rep
  (s, [(s.lastResult, rep)])

/-- Gains at once with lambda 1, at the head positions of the evidence: a gain batch of one position, or interim gains that hold a position up until its band is read (R414, R416). -/
def State.gainsAtOnce (s : State) (batch : Bool) (p : Nat) (ev : List Evidence) : List (Nat × Nat × Nat × Nat) :=
  let qs := ((ev.map Evidence.q).eraseDups).map fun (q : Nat) => (q : Int)
  s.proposals batch p qs (severity ev) 1

/-- A gain batch has been formed: its ports' next one does not recalibrate (R415). -/
def State.batchFormed (s : State) (gains : List (Nat × Nat × Nat × Nat)) : State :=
  s.modAnalyser fun a => { a with recal := gains.foldl (fun m g => putBit m g.1 false) a.recal }

/-- A batch arises from results and their actions, in autonomous mode (R417). -/
def State.queueBatch (s : State) (d : Declared) : State :=
  let rep := d.foldl (fun r x => r.and x.2) Repair.none
  let seqs := (d.filter fun x => !(x.2.marks.isEmpty && x.2.gains.isEmpty)).map Prod.fst
  if !s.autonomous || seqs.isEmpty then s
  else s.modAnalyser fun a => { a with batches := a.batches ++ [{ seqs, repair := rep, deferred := false }] }

/-- Writes proposals into the proposal table, empty elsewhere (R427). -/
def State.writeProposals (s : State) (g : List (Nat × Nat × Nat × Nat)) : State :=
  g.foldl (fun s e =>
    let n : Fin 16 := ⟨e.1 % 16, Nat.mod_lt _ (by decide)⟩
    s.setNum (s.tables + 0x06B00000 + n.val * 0x4000 + 2 * (e.2.1 * s.spanWidth n + (e.2.2.1 - s.spanFirst n))) 2
      e.2.2.2) (s.clearBytes (s.tables + 0x06B00000) 0x40000)

/-- The gains in force at the places of proposals (R416). -/
def State.gainsBefore (s : State) (g : List (Nat × Nat × Nat × Nat)) : List (Nat × Nat × Nat × Nat) :=
  g.map fun e => (e.1, e.2.1, e.2.2.1, s.gainInForce ⟨e.1 % 16, Nat.mod_lt _ (by decide)⟩ e.2.1 e.2.2.1)

/-- A DEAD streak with its twin unresolved: a band request, and an interim gain in autonomous mode (R408, R416). -/
def State.declareUnresolved (s : State) (r : Result) (n : Fin 16) (ev : List Evidence) : State × Declared :=
  let s := s.bump 0x420056
  let tests := [bandTest r.plane 0 r.q, bandTest r.plane 1 r.q]
  let (ok, s) := s.requestBand .unresolved s.analyser.made r.plane r.x r.q [r.cam] tests
  let rep : Repair := { marks := [], gains := if s.autonomous then s.gainsAtOnce false r.plane ev else [] }
  let s := if s.autonomous then s.modAnalyser fun a => { a with
    interim := (a.made, s.gainsBefore rep.gains) :: a.interim } else s
  let s := s.putResult { r with cls := 1, port := n.val, action := 3, flags := r.flags + 8 * b2n ok } rep
  (s, [(s.lastResult, rep)])

/-- A gain batch is formed: its proposals stand in the proposal table (R414, R415, R427). -/
def State.formBatch (s : State) (gains : List (Nat × Nat × Nat × Nat)) : State :=
  ((s.batchFormed gains).writeProposals gains).event 0x420045 7

/-- A WEAK or STRONG streak proposes its gain at once, as a gain batch of one position; with no change to propose it takes no action (R414, R416). -/
def State.declareGain (s : State) (r : Result) (n : Fin 16) (cls : Nat) (ev : List Evidence) : State × Declared :=
  let rep : Repair := { marks := [], gains := s.gainsAtOnce true r.plane ev }
  match rep.gains with
  | [] =>
    let s := s.putResult { r with cls, port := n.val, action := 0, count := 0 } rep
    (s, [(s.lastResult, rep)])
  | g :: _ =>
    let old := s.gainInForce ⟨g.1 % 16, Nat.mod_lt _ (by decide)⟩ g.2.1 g.2.2.1
    let s := (s.formBatch rep.gains).putResult { r with
      cls, port := n.val, action := 2, old, new := g.2.2.2, count := 1 } rep
    (s.queueBatch [(s.lastResult, rep)], [])

/-- A streak of plane `p` at `x` is declared from its evidence; `excess` when S minus reached the threshold, where the mean deficit is negative (R403, R404, R420). -/
def State.declareStreak (s : State) (l : Look) (p x conf : Nat) (excess : Bool) (ev : List Evidence) : State × Declared :=
  let sev := severity ev
  let (r, s) := s.streakResult l p x conf ev
  match s.printerAt p r.q with
  | none =>
    let cls := if excess then 3 else if uq 16 (s.obj 0x420006) ≤ sev then 1 else 2
    let s := (s.streakFound 0xFF r.line).putResult { r with cls } Repair.none
    (s.mute p x s.lastResult, [(s.lastResult, Repair.none)])
  | some (n, e) =>
    let s := s.streakFound n.val r.line
    let m := s.forceMap n
    let out :=
      if excess then s.declareGain r n 3 ev
      else if uq 16 (s.obj 0x420006) ≤ sev then
        match s.resolve (twinA m e = twinB m e) ev with
        | some false => s.declareResolved r n (twinA m e) false
        | some true => s.declareResolved r n (twinB m e) true
        | none => s.declareUnresolved r n ev
      else s.declareGain r n 2 ev
    (out.1.mute p x out.1.lastResult, out.2)

/-- An unattributed streak is declared: both twins of every candidate plane are to be tested (R403, R408). -/
def State.declareUnknown (s : State) (l : Look) (x : Nat) (ev : List Evidence) : State × Declared :=
  let (r, s) := s.streakResult l 8 x 0 ev
  let planes := sortBy (fun a b => decide (a ≤ b)) (ev.flatMap Evidence.planes).eraseDups
  let tests := planes.flatMap fun p => [bandTest p 0 r.q, bandTest p 1 r.q]
  let (ok, s) := s.requestBand .unattributed s.analyser.made 0xFF x r.q [l.cam.val] tests
  let s := ((s.streakFound 0xFF r.line).event 0x420045 1).bump 0x420055
  let (conf, s) := s.draw
  let s := s.putResult { r with plane := 0xFF, conf, action := 3, flags := r.flags + 8 * b2n ok } Repair.none
  (s.mute 8 x s.lastResult, [(s.lastResult, Repair.none)])

/-- Confidence of a verdict. -/
def Verdict.conf : Verdict → Nat
  | .attributed _ _ c => c
  | _ => 0

/-- The declare threshold h (R403). -/
def State.declareAt (s : State) : Rat := uq 8 (s.obj 0x420005)

/-- Declares plane `p` at `x` where a score has reached the threshold and the position is not muted (R403, R405). -/
def State.declarePlane (s : State) (l : Look) (p x conf : Nat) : State × Declared :=
  let up := storeGet (fun _ => Score.zero) s.analyser.plus (px p x)
  let dn := storeGet (fun _ => Score.zero) s.analyser.minus (px p x)
  if s.isMuted p x then (s, [])
  else if s.declareAt ≤ up.value then
    (s.modAnalyser fun a => { a with plus := dropKey a.plus (px p x) }).declareStreak l p x conf false up.ev
  else if s.declareAt ≤ dn.value then
    (s.modAnalyser fun a => { a with minus := dropKey a.minus (px p x) }).declareStreak l p x conf true dn.ev
  else (s, [])

/-- Declares an unattributed streak at `x` (R403, R405). -/
def State.declareAt8 (s : State) (l : Look) (x : Nat) : State × Declared :=
  let u := storeGet (fun _ => Score.zero) s.analyser.unknown x
  if !s.isMuted 8 x && decide (s.declareAt ≤ u.value) then
    (s.modAnalyser fun a => { a with unknown := dropKey a.unknown x }).declareUnknown l x u.ev
  else (s, [])

/-- Runs declarations one after another, gathering their actions. -/
def chain {α : Type} (f : State → α → State × Declared) : State × Declared → List α → State × Declared
  | r, [] => r
  | r, a :: t =>
    let x := f r.1 a
    chain f (x.1, r.2 ++ x.2) t

/-- What a verdict lets be declared: its planes, none for an unattributed block. -/
def Verdict.planes : Verdict → List Nat
  | .attributed p _ _ => [p]
  | .quiet ps => ps
  | _ => []

/-- The history of a block is checked: misses and exclusions are counted and reported (R398, R426). -/
def State.checkHistory (s : State) (l : Look) (lines : List Nat) : State :=
  let misses := s.historyMisses l.cam lines
  let bad := (s.analysedRange l.cam).any fun x => s.printedPlanes.any fun p => s.excluded lines p x
  let s := s.bumpN 0x420052 (b2n bad)
  let s := (s.bumpN 0x420053 misses.length).eventIf (!misses.isEmpty) 0x420045 10
  ((misses.map fun m => m.1.val).eraseDups).foldl (fun s n => s.raise 155 n (lines.headD 0)) s

/-- A block is scored: attribution at every position, scores, then declarations by plane, by position, and unattributed ones last (R401 to R405). -/
def State.scoreBlock (s : State) (l : Look) (b : Nat) : State × Declared :=
  let lines := s.blockLines l b
  let job := s.jobLines lines
  if job.isEmpty then (s, [])
  else
    let range := s.analysedRange l.cam
    let vs := range.map fun x => (x, s.verdict l b lines x)
    let s := s.checkHistory l job
    let s := vs.foldl (fun s v => (s.endMutes v.1 job).score l b lines v.1 v.2) s
    let named := (List.range 8).flatMap fun p =>
      (vs.filter fun v => v.2.planes.contains p && !s.excluded job p v.1).map fun v => (p, v)
    let out := chain (fun s (v : Nat × Nat × Verdict) => s.declarePlane l v.1 v.2.1 v.2.2.conf) (s, []) named
    chain (fun s x => s.declareAt8 l x) out range

end Sys2Proof.Machine
end

