-- ==== Sys2Proof/Machine/AnalyserBand.lean ====
section
/-! DEFINITION. Ladder bands: placement in the gaps, reading, and the geometry of a camera (R407 to R413). -/

namespace Sys2Proof.Machine

/-- Gap entries as START and LENGTH (R407). -/
def State.gaps (s : State) : List (Nat × Nat) :=
  let d := s.domain 0x420013
  ((List.range (d.length / 8)).map fun e => (leAt d (8 * e) 4, leAt d (8 * e + 4) 4)).filter fun g => g.2 ≠ 0

/-- First occurrence of a gap that starts at or beyond `y`, on lines modulo 2^32 (R7, R407). -/
def gapFrom (y start period : Nat) : Option Nat :=
  if lineAtOrBeyond start y then some start
  else if period = 0 then none
  else some ((start + ((lineDiff y start).toNat + period - 1) / period * period) % 2 ^ 32)

/-- The earliest line at which a band may start (R409). -/
def State.bandFloor (s : State) : Nat :=
  let own := match s.analyser.lastBand with
    | some g => [(g + 189) % 2 ^ 32]
    | none => []
  (furthest (own ++ s.renderedPorts.map fun n => (s.renderLine n + 16) % 2 ^ 32)).getD 0

/-- Job line `j` lies in the job (R409). -/
def State.withinLast (s : State) (j : Nat) : Bool :=
  match s.lastLine with
  | some l => lineAtOrBeyond l j
  | none => true

/-- The first gap occurrence that can take a band (R409). -/
def State.bandPlace (s : State) : Option Nat :=
  let starts := s.gaps.filterMap fun g => if g.2 < 189 then none else gapFrom s.bandFloor g.1 (s.obj 0x420014)
  match starts.foldl (fun m g => match m with
    | some a => some (if lineAtOrBeyond a g then g else a)
    | none => some g) none with
  | some g => if s.withinLast (g + 188) then some g else none
  | none => none

/-- Two tests may share a rung: neither is GEOMETRY, and their ranges are at least 8 positions apart (R409, R413). -/
def sharesRung (a b : BandTest) : Bool :=
  !a.geometry && !b.geometry && (decide (a.first + 33 + 8 ≤ b.first + 1) || decide (b.first + 33 + 8 ≤ a.first + 1))

/-- The first rung that can take a test (R409). -/
def freeRung (used : List (Nat × Nat × BandTest)) (t : BandTest) : Option Nat :=
  (List.range 10).find? fun i => used.all fun u => u.1 ≠ i || sharesRung u.2.2 t

/-- Places every test of a request, none where they do not all fit (R409). -/
def fillRequest (id : Nat) : List (Nat × Nat × BandTest) → List BandTest → Option (List (Nat × Nat × BandTest))
  | used, [] => some used
  | used, t :: rest => match freeRung used t with
    | some i => fillRequest id (used ++ [(i, id, t)]) rest
    | none => none

/-- Fills a band's rungs in request order; a request that does not fit waits whole (R409). -/
def fillBand : List (Nat × Nat × BandTest) → List Request → List Request → List Request →
    List (Nat × Nat × BandTest) × List Request × List Request
  | used, took, left, [] => (used, took, left)
  | used, took, left, r :: t => match fillRequest r.id used r.tests with
    | some u => fillBand u (took ++ [r]) left t
    | none => fillBand used took (left ++ [r]) t

/-- A band is placed with the waiting tests (R409, R424). -/
def State.placeBand (s : State) : State :=
  if s.obj 0x420001 ≠ 1 || s.engineState ≠ 3 || !s.timing then s
  else match s.bandPlace with
    | none => s
    | some g =>
      let (tests, took, left) := fillBand [] [] [] s.analyser.requests
      if took.isEmpty then s
      else
        let s := s.modAnalyser fun a => { a with
          bands := a.bands ++ [{ start := g, tests, reqs := took }], requests := left, lastBand := some g }
        (s.event 0x420045 2).bump 0x420057

/-- Rows of a record that show job line `j`. -/
def State.rowsOf (s : State) (l : Look) (j : Nat) : List Nat :=
  (List.range l.h).filter fun r => s.rowLine l r = (j : Int)

/-- The rows of a record show every line of a band (R411). -/
def State.showsBand (s : State) (l : Look) (g : Nat) : Bool := (List.range 189).all fun i => !(s.rowsOf l (g + i)).isEmpty

/-- No later frame of the camera can show the whole band: every row already shows a line beyond its first (R412). -/
def State.beyondBand (s : State) (l : Look) (g : Nat) : Bool :=
  (List.range l.h).all fun r => decide ((g : Int) < s.rowLine l r)

/-- The channel of a plane's largest response, the first one on a tie (R411). -/
def State.bandChannel (s : State) (p : Nat) : Nat :=
  let k := s.response p
  if k 1 ≤ k 0 ∧ k 2 ≤ k 0 then 0 else if k 2 ≤ k 1 then 1 else 2

/-- Rows that show lines 3 to 12 of rung `i` (R411). -/
def State.rungRows (s : State) (l : Look) (g i : Nat) : List Nat :=
  (List.range 10).flatMap fun n => s.rowsOf l (g + 16 + 16 * i + n)

/-- Walk shift of job line `j` for the port that prints plane `p` at head position `q` (R391). -/
def State.shiftOf (s : State) (p q j : Nat) : Int :=
  match s.printerAt p q with
  | some (n, _) => s.entryShift n j
  | none => 0

/-- Walk shift of the first printed line of rung `i` at head position `q`. -/
def State.rungShift (s : State) (p g i q : Nat) : Int := s.shiftOf p q (g + 15 + 16 * i)

/-- Image position that head position `q` prints at a walk shift (R255). -/
def State.imageAt (s : State) (q : Nat) (sh : Int) : Int :=
  if s.obj 0x240006 = 0 then (q : Int) + sh else (q : Int) - sh

/-- Darkening of camera column `x` in a row (R411). -/
def State.darkAt (s : State) (l : Look) (j : KaleidoJob) (ch r x : Nat) : Rat :=
  (s.paperWhite l.cam ch : Rat) - (s.plainOutput j ch r x : Rat)

/-- Darkening of head position `q` in a rung (R411). -/
def State.darkening (s : State) (l : Look) (j : KaleidoJob) (g i p q : Nat) : Rat :=
  let rows := s.rungRows l g i
  let col := fun (r : Nat) => s.nearestColumn l (s.imageAt q (s.shiftOf p q (s.rowLine l r).toNat))
  divQ ((rows.map fun r => s.darkAt l j (s.bandChannel p) r (col r)).sum) (rows.length : Rat)

/-- The history shows a band's bit of plane `p` at `q` as clipped on a printed line of its rung (R411). -/
def State.bandClipped (s : State) (b : Band) (i p q twin : Nat) : Bool :=
  (s.printers p).any fun np => match s.entryAt np.1 np.2 (q : Int) with
    | none => false
    | some e => (List.range 12).any fun k =>
        let j := b.start + 15 + 16 * i + k
        decide ((j + q) % 2 = 0) && s.entryHeld np.1 j && (s.num (s.histEntry np.1 j + 9) 1).testBit 3 &&
          !s.historyBit np.1 j e && match s.lineMap np.1 j with
            | some m => usable m (if twin = 0 then twinA m e else twinB m e)
            | none => false

/-- The middle value of a list of odd length. -/
def median (l : List Rat) : Rat := (sortBy (fun a b => decide (a ≤ b)) l).getD (l.length / 2) 0

/-- The judgement of a test at `q`: 1 DEAD, 2 WEAK, 0 LIVE, none where it is not judged, clipped or printed by no port (R411). -/
def State.judgeTest (s : State) (l : Look) (j : KaleidoJob) (b : Band) (i : Nat) (t : BandTest) (q : Nat) : Option Nat :=
  if s.bandClipped b i t.plane q t.twin || (s.printerAt t.plane q).isNone then none
  else
    let m := median ((List.range 33).map fun k => s.darkening l j b.start i t.plane (t.first + k))
    let v := s.darkening l j b.start i t.plane q
    some (if v < m / 4 then 1 else if v < 3 * m / 4 then 2 else 0)

/-- Rung of a test of a request in a band. -/
def Band.rungOf (b : Band) (id : Nat) (t : BandTest) : Nat :=
  ((b.tests.find? fun u => u.2 = (id, t)).map Prod.fst).getD 0

/-- The tests of a request in a band, with their rungs. -/
def Band.testsOf (b : Band) (id : Nat) : List (Nat × BandTest) :=
  (b.tests.filter fun t => t.2.1 = id).map fun t => (t.1, t.2.2)

/-- The DEAD and WEAK twins that a request's tests show: test, position and judgement (R411, R412). -/
def State.foundTwins (s : State) (l : Look) (j : KaleidoJob) (b : Band) (r : Request) : List (BandTest × Nat × Nat) :=
  (b.testsOf r.id).flatMap fun it => (List.range 33).filterMap fun k =>
    match s.judgeTest l j b it.1 it.2 (it.2.first + k) with
    | some v => if v = 0 then none else some (it.2, it.2.first + k, v)
    | none => none

/-- The image position of a found twin of a request, on the first printed line of its rung (R391). -/
def State.foundAt (s : State) (b : Band) (id : Nat) (f : BandTest × Nat × Nat) : Int :=
  s.imageAt f.2.1 (s.rungShift f.1.plane b.start (b.rungOf id f.1) f.2.1)

/-- The found twin nearest to image position `x`, the first test on a tie (R412). -/
def nearestTwin (pos : BandTest × Nat × Nat → Int) (x : Int) :
    List (BandTest × Nat × Nat) → Option (BandTest × Nat × Nat)
  | [] => none
  | f :: t => match nearestTwin pos x t with
    | some g => if (pos g - x).natAbs < (pos f - x).natAbs then some g else some f
    | none => some f

/-- The result of a band read with no twin yet (R420). -/
def State.bandResult (s : State) (l : Look) (r : Request) (b : Band) : Result × State :=
  let (o, s) := s.openResult
  ({ o with kind := 3, plane := r.plane, x := r.x, q := r.q, cam := l.cam.val, frame := l.frame, line := b.start }, s)

/-- Result and action of a twin found DEAD or WEAK: it is marked so (R412, R416). -/
def State.twinResult (s : State) (r : Result) (f : BandTest × Nat × Nat) (conf : Nat) (extra : Repair) (restore : Bool) :
    State × Declared :=
  let (t, q, v) := f
  match s.printerAt t.plane q with
  | none =>
    let s := s.putResult { r with cls := v, plane := t.plane, q, conf } Repair.none
    (s, [(s.lastResult, Repair.none)])
  | some (n, e) =>
    let m := s.forceMap n
    let u := if t.twin = 0 then twinA m e else twinB m e
    let (act, rep, s) :=
      if v = 1 then s.deadAction n u
      else if nozState m u = 0 then (5, { marks := [(n.val, u, 1)], gains := [] }, s)
      else (0, Repair.none, s)
    let rep := rep.and extra
    let act := if restore && act = 1 then 4 else act
    let s := s.putResult { r with
      cls := v, plane := t.plane, q, port := n.val, nozzle := u, conf, action := act,
      flags := r.flags ||| (2 + 4 * t.twin) } rep
    (s, [(s.lastResult, rep)])

/-- The gains to restore for a request's streak (R416). -/
def State.restoreOf (s : State) (r : Request) : Option Repair :=
  (findKey s.analyser.interim r.seq).map fun g => { marks := [], gains := g }

/-- The streak's own outcome: the twins that it takes (R412). -/
def ownTwins (pos : BandTest × Nat × Nat → Int) (r : Request) (found : List (BandTest × Nat × Nat)) :
    List (BandTest × Nat × Nat) :=
  match r.cause with
  | .unattributed => (nearestTwin pos r.x found).toList
  | _ =>
    let at_ := found.filter fun f => f.2.1 = r.q
    let dead := at_.filter fun f => f.2.2 = 1
    if dead.isEmpty then at_ else dead

/-- Another DEAD twin found in a test range is declared as a streak of its own, where its position is not muted (R405, R412). -/
def State.declareOther (s : State) (res : Result) (b : Band) (r : Request) (f : BandTest × Nat × Nat) : State × Declared :=
  let x := (s.foundAt b r.id f).toNat
  if s.isMuted f.1.plane x then (s, [])
  else
    let port := match s.printerAt f.1.plane f.2.1 with
      | some (n, _) => n.val
      | none => 0xFF
    let flags := 64 * b2n (s.analyser.repeats.contains (f.1.plane, x))
    let out := (s.streakFound port b.start).twinResult { res with kind := 1, x, flags } f 255 Repair.none false
    (out.1.mute f.1.plane x out.1.lastResult, out.2)

/-- A request's streak is settled by its band (R412). -/
def State.settleRequest (s : State) (l : Look) (j : KaleidoJob) (b : Band) (r : Request) : State × Declared :=
  let found := s.foundTwins l j b r
  let own := ownTwins (s.foundAt b r.id) r found
  let (res, s) := s.bandResult l r b
  let s := (s.resultFlag r.seq 3 false).modAnalyser fun a => { a with
    mutes := a.mutes.filter fun m => !(m.plane = 8 && m.seq = r.seq) }
  let restore := s.restoreOf r
  let extra := restore.getD Repair.none
  let res := if 2 ≤ (own.filter fun f => f.2.2 = 1).length then { res with flags := 128 } else res
  let out := if own.isEmpty then
      let s := s.putResult res Repair.none
      (s, [(s.lastResult, Repair.none)])
    else chain (fun s f => s.twinResult res f 255 extra restore.isSome) (s, []) own
  let others := found.filter fun f => f.2.2 = 1 && !own.contains f
  chain (fun s f => s.declareOther res b r f) out others

/-- Dashes of a GEOMETRY rung: head positions that are multiples of 32 (R413). -/
def State.dashes (s : State) (p : Nat) : List Nat :=
  ((List.range 512).map fun i => 32 * i).filter fun q => (s.printerAt p q).isSome

/-- Centroid column of a dash from its darkening, over the columns within 16 positions of it (R413). -/
def State.dashColumn (s : State) (l : Look) (j : KaleidoJob) (b : Band) (i p q : Nat) : Rat :=
  let x := s.imageAt q (s.rungShift p b.start i q)
  let cols := (List.range l.w).filter fun c => (s.columnPos l.cam c - x * 2 ^ 24).natAbs ≤ 16 * 2 ^ 24
  let rows := s.rungRows l b.start i
  let dark := fun (c : Nat) => max (0 : Rat) ((rows.map fun r => s.darkAt l j (s.bandChannel p) r c).sum)
  divQ ((cols.map fun (c : Nat) => (c : Rat) * dark c).sum) ((cols.map dark).sum)

/-- The straight-line fit of image position over column through points, at a column (R413). -/
def lineFit (pts : List (Rat × Rat)) (at_ : Rat) : Rat :=
  let n : Rat := (pts.length : Rat)
  let sx := (pts.map Prod.fst).sum
  let sy := (pts.map Prod.snd).sum
  let sxx := (pts.map fun p => p.1 * p.1).sum
  let sxy := (pts.map fun p => p.1 * p.2).sum
  let slope := divQ (n * sxy - sx * sy) (n * sxx - sx * sx)
  divQ sy n + slope * (at_ - divQ sx n)

/-- The column map that a GEOMETRY rung gives (R413). -/
def State.geometryKnots (s : State) (l : Look) (j : KaleidoJob) (b : Band) (i p : Nat) : Bytes :=
  let pts : List (Rat × Rat) := (s.dashes p).map fun q =>
    (s.dashColumn l j b i p q, ((s.imageAt q (s.rungShift p b.start i q) : Int) : Rat))
  (List.range 65).flatMap fun k =>
    let at_ : Rat := ((256 * k : Nat) : Rat)
    let near := pts.filter fun (c : Rat × Rat) => decide (c.1 - at_ ≤ 512 ∧ at_ - c.1 ≤ 512)
    leBytes 4 (toBits 32 (roundQ 16 (lineFit near at_)))

/-- The camera distance that a GEOMETRY rung gives (R413). -/
def State.geometryDistance (s : State) (l : Look) (j : KaleidoJob) (b : Band) (i p : Nat) : Nat :=
  let cols := (s.dashes p).map fun q => (s.dashColumn l j b i p q).floor.toNat
  let dark := fun (r : Nat) => divQ ((cols.map fun c => s.darkAt l j (s.bandChannel p) r c).sum) (cols.length : Rat)
  let rows := (List.range l.h).filter fun r =>
    decide ((b.start : Int) ≤ s.rowLine l r) && decide (s.rowLine l r < (b.start + 189 : Nat))
  let top := (rows.map dark).foldl max 0
  let row := (rows.find? fun r => decide (top / 2 < dark r)).getD 0
  (l.tag row + 2 ^ 48 - (b.start + 15 + 16 * i) * 65536 % 2 ^ 48) % 2 ^ 48

/-- A GEOMETRY band is read for a camera: reported, and under auto-apply its knots are held for the end of the record and its distance for the entry into STANDBY (R413). -/
def State.readGeometry (s : State) (l : Look) (j : KaleidoJob) (b : Band) (r : Request) : State × Declared :=
  let i := (b.testsOf r.id).head?.map Prod.fst |>.getD 0
  let knots := s.geometryKnots l j b i r.plane
  let dist := s.geometryDistance l j b i r.plane
  let (o, s) := s.openResult
  let s := s.putResult { o with
    kind := 4, plane := r.plane, cam := l.cam.val, frame := l.frame, line := b.start } Repair.none
  if s.obj 0x420017 = 1 then
    (s.modAnalyser fun a => { a with
      knots := putKey a.knots l.cam.val knots, dist := putKey a.dist l.cam.val dist }, [])
  else (s, [])

/-- A camera has read, or missed, its part of a band. -/
def dropCam (c : Nat) (r : Request) : Request := { r with cams := r.cams.filter fun k => k ≠ c }

/-- Puts a band back with what is left of its requests, or takes it off the list. -/
def State.leaveBand (s : State) (b : Band) (c : Nat) : State :=
  let reqs := (b.reqs.map (dropCam c)).filter fun r => !r.cams.isEmpty
  s.modAnalyser fun a => { a with bands := a.bands.filterMap fun q =>
    if q.start = b.start then (if reqs.isEmpty then none else some { q with reqs }) else some q }

/-- A band is read by a camera's frame (R411 to R413). -/
def State.readBand (s : State) (l : Look) (j : KaleidoJob) (b : Band) : State × Declared :=
  let mine := b.reqs.filter fun r => r.cams.contains l.cam.val
  if mine.isEmpty then (s, [])
  else
    let out := chain (fun s r => match r.cause with
      | .geometry => s.readGeometry l j b r
      | _ => s.settleRequest l j b r) (s, []) mine
    ((out.1.leaveBand b l.cam.val).event 0x420045 3, out.2)

/-- A missed request waits again in its order of arrival; where 32 wait it is refused and counted (R408, R412, log entry 138). -/
def State.waitAgain (s : State) (r : Request) : State :=
  if 32 ≤ s.analyser.requests.length then s.bump 0x420059
  else s.modAnalyser fun a => { a with requests := sortBy (fun x y => decide (x.id ≤ y.id)) (a.requests ++ [r]) }

/-- A band is missed by a camera: its requests are placed again within their retry budget (R412). -/
def State.missBand (s : State) (l : Look) (b : Band) : State :=
  let mine := b.reqs.filter fun r => r.cams.contains l.cam.val
  if mine.isEmpty then s
  else
    let again := (mine.map fun r => { r with cams := [l.cam.val], misses := r.misses + 1 }).filter fun r =>
      decide (r.misses ≤ s.obj 0x420015)
    let s := again.foldl State.waitAgain (s.leaveBand b l.cam.val)
    (s.event 0x420045 4).bump 0x420058

/-- The frame of a record still stands in its slot (R411). -/
def State.frameStands (s : State) (l : Look) (j : KaleidoJob) : Bool :=
  decide (4 ≤ (s.camSlot j.cam j.slot).st) && s.num (s.camSlotAddr j.cam j.slot + 8) 4 = l.frame

/-- Every band placed is read, missed or left to a later frame (R411, R412). -/
def State.readBands (s : State) (l : Look) (k : Nat) : State × Declared :=
  match findKey s.kaleido.recs k with
  | none => (s, [])
  | some j => chain (fun s b =>
      if s.showsBand l b.start && s.frameStands l j then s.readBand l j b
      else if s.beyondBand l b.start then (s.missBand l b, [])
      else (s, [])) (s, []) s.analyser.bands

end Sys2Proof.Machine
end

