-- ==== Sys2Proof/Machine/Analyser.lean ====
section
/-! DEFINITION. The streak analyser's commands: records, bands, batches, mutes, recalibration, the command object, apply and results (R405, R409 to R422). -/

namespace Sys2Proof.Machine

/-- The proposals of a camera's window: positions with a quarter of its blocks attributed, not muted (R414). -/
def State.windowProposals (s : State) (c : Fin 2) : List (List (Nat × Nat × Nat × Nat)) :=
  let shifts := (s.analyser.window.get c).shifts.map fun v => sx 8 v
  s.printedPlanes.flatMap fun p => (s.analysedRange c).map fun x =>
    match findKey s.analyser.acc (px p x) with
    | some (sum, n) =>
      if s.obj 0x42000C ≤ 4 * n && !s.isMuted p x then
        s.proposals true p ((shifts.map (s.headPos x)).eraseDups) (sum / (n : Rat)) (uq 8 (s.obj 0x42000D))
      else []
    | none => []

/-- The gain window of a camera ends: its proposals form a gain batch (R414, R415). -/
def State.endWindow (s : State) (l : Look) : State :=
  let by_ := (s.windowProposals l.cam).filter fun g => !g.isEmpty
  let gains := by_.flatten
  let s := s.modAnalyser fun a => { a with
    acc := a.acc.filter fun k => !(s.analysedRange l.cam).contains (k.1 % 16384),
    window := a.window.set l.cam { blocks := 0, shifts := [] } }
  if gains.isEmpty then s
  else
    let (o, s) := (s.formBatch gains).openResult
    let rep : Repair := { marks := [], gains }
    let s := s.putResult { o with
      kind := 2, cam := l.cam.val, action := 2, frame := l.frame, count := by_.length } rep
    s.queueBatch [(s.lastResult, rep)]

/-- A scored block counts in its camera's gain window (R414). -/
def State.countBlock (s : State) (l : Look) (b : Nat) : State :=
  let lines := s.jobLines (s.blockLines l b)
  if s.obj 0x42000B = 0 || lines.isEmpty then s
  else
    let new := s.renderedPorts.flatMap fun n => (lines.filter (s.entryHeld n)).map fun j => s.num (s.histEntry n j + 8) 1
    let w := s.analyser.window.get l.cam
    let w : GainWindow := { blocks := w.blocks + 1, shifts := (w.shifts ++ new).eraseDups }
    let s := s.modAnalyser fun a => { a with window := a.window.set l.cam w }
    if s.obj 0x42000C ≤ w.blocks then s.endWindow l else s

/-- The record at the analyser's cursor is passed over where it has been reused (R422). -/
def State.skipReused (s : State) : State :=
  if s.analyser.cursor < s.oldestRecord then
    (s.modAnalyser fun a => { a with cursor := s.oldestRecord }).bump 0x420051
  else s

/-- The camera of a record is analysed: enabled, capturing and not stalled (R426). -/
def State.looksAt (s : State) (c : Fin 2) : Bool :=
  s.analysing c && s.obj (ck 0x400001 c) = 1 && !s.bit (ck 0x400020 c) 2

/-- The frame of a record began after the latest job origin: it shows lines of the current job (R390, R424). -/
def State.ofThisJob (s : State) (l : Look) : Bool :=
  decide ((l.frame + (2 ^ 33 - 1) - (s.camera.get l.cam).jobNo % 2 ^ 32) % 2 ^ 32 < 2 ^ 31)

/-- The column maps that GEOMETRY bands gave are in force from the next record (R413). -/
def State.takeKnots (s : State) : State :=
  (s.analyser.knots.foldl (fun s k => s.setDomain (0x420022 + 0x10 * (k.1 % 2)) k.2) s).modAnalyser fun a => { a with knots := [] }

/-- The blocks of a record are scored, each counting in its gain window, and its bands are read (R414, R422, R424). -/
def State.analyse (s : State) (l : Look) (k : Nat) : State :=
  if !s.looksAt l.cam || !(3 ≤ s.engineState && s.engineState ≤ 5) || !s.ofThisJob l then s
  else
    let out := chain (fun s b => let r := s.scoreBlock l b; (r.1.countBlock l b, r.2)) (s, []) (List.range l.blocks)
    let bands := out.1.readBands l k
    (bands.1.queueBatch (out.2 ++ bands.2)).takeKnots

/-- Record `k` can be read; the blocks of one that cannot are excluded (R503, DESIGN CHOICE log entry 137). -/
def State.recordReadable (s : State) (k : Nat) : Bool := s.readOk (s.recordAddr k) 4096

/-- The next record is analysed (R422, R424). -/
def State.analyseRecord (s : State) : State :=
  if s.obj 0x420001 ≠ 1 || s.engineState = 6 || !s.timing then s
  else
    let s := s.skipReused
    let k := s.analyser.cursor
    if s.kaleido.done ≤ k then s
    else
      let s := (if s.recordReadable k then s.analyse (s.look k) k else s).bump 0x420050
      s.modAnalyser fun a => { a with cursor := k + 1, worked := true }

/-- ANALYSE_RECORD (R422). -/
def execAnalyseRecord (t : Nat) (s : State) : Host.Outcome State Fault Refusal :=
  .next (State.settle (s.tick t).analyseRecord)

/-- BAND_PLACEMENT (R409). -/
def execBandPlacement (t : Nat) (s : State) : Host.Outcome State Fault Refusal :=
  .next (State.settle (s.tick t).placeBand)

/-- Marks a nozzle WEAK or DEAD in the shadow map where repair may: LIVE to WEAK or DEAD and WEAK to DEAD, never from OFF or DEAD (R326, R416). -/
def State.markNozzle (s : State) (n : Fin 16) (u v : Nat) : State :=
  if s.mapPresent (s.mapShadow n) && nozState (s.shadowMap n) u < v then s.putNozzle n u v else s

/-- Writes a repair into the shadow maps and shadow gain tables (R416, R417). -/
def State.writeRepair (s : State) (r : Repair) : State :=
  let port := fun (n : Nat) => (⟨n % 16, Nat.mod_lt _ (by decide)⟩ : Fin 16)
  let s := r.marks.foldl (fun s m => s.markNozzle (port m.1) m.2.1 m.2.2) s
  r.gains.foldl (fun s g =>
    let n := port g.1
    s.setNum (s.gainShadow n + 2 * (g.2.1 * s.spanWidth n + (g.2.2.1 - s.spanFirst n))) 2 g.2.2.2) s

/-- The conditions of R417 hold: the set is OPEN and equal to the set in force. -/
def State.canApply (s : State) : Bool := s.obj 0x230012 = 0 && s.shadowCrc = s.forceCrc

/-- The first batch waits on (R417). -/
def State.deferBatch (s : State) (b : Batch) (rest : List Batch) : State :=
  if b.deferred then s
  else
    let s := b.seqs.foldl (fun s e => s.resultFlag e 5 true) s
    let s := s.modAnalyser fun a => { a with batches := { b with deferred := true } :: rest }
    (s.event 0x420045 6).bump 0x42005B

/-- The first batch is written into the shadow set and its commit armed (R417, R419). -/
def State.armBatch (s : State) (b : Batch) (rest : List Batch) (ckptErr : Nat) : State :=
  let s := (s.writeRepair b.repair).modAnalyser fun a => { a with
    batches := rest, awaiting := a.awaiting ++ b.seqs }
  let s := b.seqs.foldl (fun s e => (s.resultFlag e 4 true).resultFlag e 5 false) s
  ((s.lockSet ckptErr).event 0x420045 5).bump 0x42005A

/-- The first batch is applied, or deferred (R417, R424). -/
def State.applyBatch (s : State) (ckptErr : Nat) : State :=
  match s.analyser.batches with
  | [] => s
  | b :: rest =>
    if !s.autonomous || !s.inJobState || !s.timing then s
    else if s.canApply then s.armBatch b rest ckptErr
    else s.deferBatch b rest

/-- BATCH_APPLY: `ckptErr` marks the ports whose checkpoint read ends with an error response (R417). -/
def execBatchApply (ckptErr t : Nat) (s : State) : Host.Outcome State Fault Refusal :=
  .next (State.settle ((s.tick t).applyBatch ckptErr))

/-- A mute has waited the mute timeout for a commit (R405). -/
def State.muteDue (s : State) (m : Mute) : Bool :=
  m.plane ≠ 8 && m.line.isNone && decide (m.since + s.obj 0x42000A * 500000 ≤ s.clk)

/-- Mutes whose timeout has passed end, and their next declaration carries REPEAT; the analyser stops in FAULT (R405, R424). -/
def State.muteTimeout (s : State) : State :=
  if !s.timing || s.engineState = 6 then s
  else
    let due := s.analyser.mutes.filter s.muteDue
    s.modAnalyser fun a => { a with
      mutes := a.mutes.filter fun m => !s.muteDue m, repeats := a.repeats ++ due.map fun m => (m.plane, m.x) }

/-- MUTE_TIMEOUT (R405). -/
def execMuteTimeout (t : Nat) (s : State) : Host.Outcome State Fault Refusal :=
  .next (State.settle (s.tick t).muteTimeout)

/-- RECALIBRATION: the difference has lasted 1 s; the analyser stops in FAULT (R415, R424). -/
def execRecalibration (n : Fin 16) (t : Nat) (s : State) : Host.Outcome State Fault Refusal :=
  .next (State.settle (
    let s := s.tick t
    if s.timing && s.engineState ≠ 6 && (s.port.get n).offAt.any (fun a => decide (a + 500000000 ≤ s.clk)) && !s.analyser.recal.testBit n.val then
      ((s.modAnalyser fun a => { a with recal := putBit a.recal n.val true }).bump 0x42005D).event 0x420045 11
    else s))

/-- The cameras that a GEOMETRY band is read by. -/
def State.analysedCams (s : State) : List Nat :=
  let c := ((List.finRange 2).filter s.analysing).map fun c => c.val
  if c.isEmpty then [0, 1] else c

/-- Command 1: a GEOMETRY band is requested (R408, R413). -/
def State.requestGeometry (s : State) : State :=
  let p := s.obj 0x420016
  (s.requestBand .geometry 0xFFFFFFFF p 0 0 s.analysedCams [{ plane := p, twin := 0, first := 0, geometry := true }]).2

/-- Command 2: every mute ends (R405). -/
def State.clearMutes (s : State) : State := s.modAnalyser fun a => { a with mutes := [] }

/-- Command 3: the dead-mark budget of every port is restored (R418). -/
def State.restoreBudgets (s : State) : State := s.modAnalyser fun a => { a with marked := [] }

/-- A write of the analyser command (R429). -/
def analyserCommandOp (v : Nat) (s : State) : Answer :=
  if v = 1 then s.requestGeometry.accept
  else if v = 2 then s.clearMutes.accept
  else if v = 3 then s.restoreBudgets.accept
  else s.refuse 0x06090030

/-- GEOMETRY (R413). -/
def execGeometry (via : Via) (s : State) : Host.Outcome State Fault Refusal :=
  .next (State.settle (s.access via 0x420018 (analyserCommandOp 1)))

/-- CLEAR_MUTES (R405). -/
def execClearMutes (via : Via) (s : State) : Host.Outcome State Fault Refusal :=
  .next (State.settle (s.access via 0x420018 (analyserCommandOp 2)))

/-- RESTORE_BUDGETS (R418). -/
def execRestoreBudgets (via : Via) (s : State) : Host.Outcome State Fault Refusal :=
  .next (State.settle (s.access via 0x420018 (analyserCommandOp 3)))

/-- The result in the ring with a RESULT_SEQ (R419). -/
def State.resultNamed (s : State) (seq : Nat) : Option Nat :=
  (List.range (min 256 s.analyser.made)).findSome? fun i =>
    let e := s.analyser.made - 1 - i
    if e % 2 ^ 32 = seq then some e else none

/-- The result cannot be applied: not in the ring, already applied, or without an action to apply (R419). -/
def State.applyRefused (s : State) : Option Nat → Bool
  | none => true
  | some e =>
    let a := s.resultAddr e
    (s.num (a + 7) 1).testBit 4 || [0, 3, 6].contains (s.num (a + 0x13) 1)

/-- A result's action is copied into the shadow set (R419). -/
def State.applyResult (s : State) (e : Nat) : State :=
  let r := (findKey s.analyser.actions e).getD Repair.none
  let s := (s.writeRepair r).resultFlag e 4 true
  s.modAnalyser fun a => { a with awaiting := a.awaiting ++ [e] }

/-- A write of the apply object (R419). -/
def applyOp (seq : Nat) (s : State) : Answer :=
  let e := s.resultNamed seq
  if s.autonomous then s.refuse 0x08000022
  else if s.locked then s.lockedWrite.refuse 0x08000021
  else if s.applyRefused e then s.refuse 0x06090030
  else (s.applyResult (e.getD 0)).accept

/-- APPLY (R419). -/
def execApply (via : Via) (seq : Nat) (s : State) : Host.Outcome State Fault Refusal :=
  .next (State.settle (s.access via 0x420042 (applyOp seq)))

/-- A result as it is read, with VALID (R420, R421). -/
def State.resultCopy (s : State) (e : Nat) (valid : Bool) : Bytes :=
  let b := s.bytes (s.resultAddr e) 64
  b.take 7 ++ leBytes 1 (putBit (leAt b 7 1) 0 valid) ++ b.drop 8

/-- What a read of the results returns (R421). -/
def State.resultRead (s : State) : Bytes :=
  let a := s.analyser
  if a.unread < a.made then s.resultCopy a.unread true
  else match a.returned with
    | some e => s.resultCopy e false
    | none => List.replicate 64 0#8

/-- A read returns the result at the cursor, and moves the cursor where it was unread and the read advances (R421). -/
def State.readResult (s : State) (advance : Bool) : State :=
  s.modAnalyser fun a =>
    if a.unread < a.made then
      { a with returned := some a.unread, unread := if advance then a.unread + 1 else a.unread }
    else a

/-- RESULT_READ (R421). -/
def execResultRead (s : State) : Host.Outcome State Fault Refusal :=
  .next (State.settle (s.readAnswer 0x420040 s.resultRead fun s => s.readResult false))

/-- RESULT_READ_ADVANCE (R421). -/
def execResultReadAdvance (s : State) : Host.Outcome State Fault Refusal :=
  .next (State.settle (s.readAnswer 0x420041 s.resultRead fun s => s.readResult true))

end Sys2Proof.Machine
end

