-- ==== Sys2Proof/Machine/Axes.lean ====
section
/-! DEFINITION. Marionette: axis commands, moves, homing, gearing, segments and the bar walk (12_marionette_motion.md). -/

namespace Sys2Proof.Machine

/-- The target of an axis, signed (R459). -/
def State.axisTarget (s : State) (a : Fin 4) : Int := sx 64 (s.obj (ak 0x480011 a))

/-- A position lies outside the soft limits while they are enabled (R438). -/
def State.outside (s : State) (a : Fin 4) (p : Rat) : Bool :=
  s.limited a && decide (p < (s.limitMin a : Rat) ∨ (s.limitMax a : Rat) < p)

/-- Maximum velocity. -/
def State.maxVelocity (s : State) (a : Fin 4) : Rat := (s.obj (ak 0x480006 a) : Rat)

/-- A gear ratio becomes current: it is anchored here and ramps from the ratio given (R447 to R449). -/
def State.anchorGear (s : State) (a : Fin 4) (from_ to_ : Rat) (ramp : Nat) (goal : AxisGoal) : State :=
  let p := (s.axisKin a).1
  s.modAxis a fun x => { x with
    start := s.clk, segs := [], p, v := 0, goal, anchor := s.rawExtrap s.clk, along := 0, r0 := from_, r1 := to_, ramp }

/-- Gear ratio of the object (R447). -/
def State.gearRatio (s : State) (a : Fin 4) : Rat := sq 64 32 (s.obj (ak 0x480020 a))

/-- The ratio in force of a geared axis, else 0 (R459). -/
def State.ratioInForce (s : State) (a : Fin 4) : Rat :=
  let x := s.axis.get a
  if s.axisState a = 4 then x.ratioAt (s.masterRun x) else 0

/-- The web has reached the segment at the head of the queue, which becomes current (R449). -/
def State.segment (s : State) (a : Fin 4) : State :=
  match (s.axis.get a).queue with
  | [] => s
  | (y, r, ramp) :: rest =>
    if s.axisState a = 4 && s.timing && atOrBeyond (s.extrapolated s.clk) y then
      let s := s.anchorGear a (s.ratioInForce a) ((r : Rat) / (2 ^ 32 : Nat)) ramp .none
      (s.modAxis a fun x => { x with queue := rest }).event (ak 0x480035 a) 6
    else s

/-- The segments due now become current, in queue order (R449). -/
def State.dueSegments (s : State) (a : Fin 4) : State := (List.range 8).foldl (fun s _ => s.segment a) s

/-- A command is carried out in the states that accept it, after the segments due in its clock; in any other it is refused with CMD_REFUSED (R438, R449). A stop that leads to FAULT is not replaced by a command (DESIGN CHOICE, log entry 139). -/
def axisCommand (a : Fin 4) (states : List Nat) (check : State → Option Nat) (f : State → State) (s : State) : Answer :=
  if !states.contains (s.axisState a) || s.stopsToFault a then (s.event (ak 0x480035 a) 7).refuse 0x08000022
  else s.unless (check s) fun s => f (s.dueSegments a)

/-- An axis starts to move: state MOVING, no limit held (R436). -/
def State.moving (s : State) (a : Fin 4) : State := (s.setAxis a 2).setBit (ak 0x480034 a) 3 false

/-- A point-to-point move to a target (R438, R440). -/
def State.moveTo (s : State) (a : Fin 4) (target : Rat) : State :=
  let k := s.axisKin a
  let pieces := (s.axisLimits a).moveBy k.2.1 k.2.2 (target - k.1) (s.maxVelocity a)
  (s.runAxis a pieces (.move target)).moving a

/-- The target of a relative move (R438). -/
def State.relativeTarget (s : State) (a : Fin 4) : Rat := (s.axisKin a).1 + (s.axisTarget a : Rat)

/-- Command 1, move absolute (R438). -/
def moveAbsoluteOp (a : Fin 4) : State → Answer :=
  axisCommand a [1, 2] (fun s => if s.outside a (s.axisTarget a : Rat) then some 0x06090030 else none)
    fun s => s.moveTo a (s.axisTarget a : Rat)

/-- Command 2, move relative (R438). -/
def moveRelativeOp (a : Fin 4) : State → Answer :=
  axisCommand a [1, 2] (fun s => if s.outside a (s.relativeTarget a) then some 0x06090030 else none)
    fun s => s.moveTo a (s.relativeTarget a)

/-- A velocity move; under soft limits it comes to rest at the limit in its direction (R438, R442). -/
def State.runAt (s : State) (a : Fin 4) (v : Rat) : State :=
  let k := s.axisKin a
  let m := s.axisLimits a
  let s' :=
    if s.limited a && v ≠ 0 then
      let place : Rat := if v < 0 then (s.limitMin a : Rat) else (s.limitMax a : Rat)
      s.runAxis a (m.moveBy k.2.1 k.2.2 (place - k.1) (absQ v)) (.limit place)
    else s.runAxis a (m.toVelocity k.2.1 k.2.2 v) .run
  s'.moving a

/-- Command 3, velocity (R438). -/
def velocityOp (a : Fin 4) : State → Answer :=
  axisCommand a [1, 2]
    (fun s => if s.maxVelocity a < absQ (s.axisTarget a : Rat) then some 0x06090030 else none)
    fun s => s.runAt a (s.axisTarget a : Rat)

/-- Command 4, stop (R438). -/
def axisStopOp (a : Fin 4) : State → Answer :=
  axisCommand a [2, 3, 4, 5] (fun _ => none) fun s => s.stopAxis a (s.axisLimits a)

/-- Command 5, quick stop (R438, R440). -/
def quickStopOp (a : Fin 4) : State → Answer :=
  axisCommand a [1, 2, 3, 4, 5] (fun _ => none) fun s => s.stopAxis a (s.quickLimits a)

/-- Limits of a homing move: a trapezoid (R443, R444). -/
def State.homeLimits (s : State) (a : Fin 4) : Limits := { s.axisLimits a with jerk := 0 }

/-- Homing velocity, signed: towards the stop (R443). -/
def State.homeVelocity (s : State) (a : Fin 4) : Rat :=
  let v : Rat := (s.obj (ak 0x480019 a) : Rat)
  if s.obj (ak 0x480018 a) = 1 then -v else v

/-- The reference search starts; HOMED clears (R443). -/
def State.startHome (s : State) (a : Fin 4) : State :=
  let p := (s.axisKin a).1
  let s := s.runAxis a ((s.homeLimits a).toVelocity 0 0 (s.homeVelocity a)) (.search p)
  (s.setAxis a 3).setBit (ak 0x480034 a) 0 false

/-- Command 6, home (R438). -/
def homeOp (a : Fin 4) : State → Answer := axisCommand a [1] (fun _ => none) fun s => s.startHome a

/-- Command 7, engage gear (R448). -/
def engageGearOp (a : Fin 4) : State → Answer :=
  axisCommand a [1] (fun _ => none) fun s =>
    (s.anchorGear a 0 (s.gearRatio a) (s.obj (ak 0x480021 a)) .none).setAxis a 4

/-- Command 8, disengage gear (R438). -/
def disengageGearOp (a : Fin 4) : State → Answer :=
  axisCommand a [4] (fun _ => none) fun s =>
    s.anchorGear a (s.ratioInForce a) 0 (s.obj (ak 0x480021 a)) .disengage

/-- Command 9, set position (R438). -/
def setPositionOp (a : Fin 4) : State → Answer :=
  axisCommand a [1] (fun _ => none) fun s => s.placeAxis a (sx 48 (toBits 48 (s.axisTarget a)))

/-- Command 10, clear fault (R438). -/
def axisClearFaultOp (a : Fin 4) : State → Answer :=
  axisCommand a [6] (fun _ => none) fun s =>
    ((s.setAxis a 1).setObj (ak 0x480036 a) 0).setBit (ak 0x480034 a) 0 false

/-- A write of an axis command code (R438). -/
def axisCommandOp (a : Fin 4) (code : Nat) : State → Answer :=
  match code with
  | 1 => moveAbsoluteOp a
  | 2 => moveRelativeOp a
  | 3 => velocityOp a
  | 4 => axisStopOp a
  | 5 => quickStopOp a
  | 6 => homeOp a
  | 7 => engageGearOp a
  | 8 => disengageGearOp a
  | 9 => setPositionOp a
  | 10 => axisClearFaultOp a
  | _ => fun s => s.refuse 0x06090030

/-- A command of an axis, with what its write does. -/
def State.axisWrite (s : State) (via : Via) (a : Fin 4) (t : Nat) (op : State → Answer) : State :=
  (s.tick t).access via (ak 0x480010 a) op

/-- MOVE_ABSOLUTE (R438). -/
def execMoveAbsolute (via : Via) (a : Fin 4) (t : Nat) (s : State) : Host.Outcome State Fault Refusal :=
  .next (State.settle (s.axisWrite via a t (moveAbsoluteOp a)))

/-- MOVE_RELATIVE (R438). -/
def execMoveRelative (via : Via) (a : Fin 4) (t : Nat) (s : State) : Host.Outcome State Fault Refusal :=
  .next (State.settle (s.axisWrite via a t (moveRelativeOp a)))

/-- VELOCITY (R438). -/
def execVelocity (via : Via) (a : Fin 4) (t : Nat) (s : State) : Host.Outcome State Fault Refusal :=
  .next (State.settle (s.axisWrite via a t (velocityOp a)))

/-- AXIS_STOP (R438). -/
def execAxisStop (via : Via) (a : Fin 4) (t : Nat) (s : State) : Host.Outcome State Fault Refusal :=
  .next (State.settle (s.axisWrite via a t (axisStopOp a)))

/-- QUICK_STOP (R440). -/
def execQuickStop (via : Via) (a : Fin 4) (t : Nat) (s : State) : Host.Outcome State Fault Refusal :=
  .next (State.settle (s.axisWrite via a t (quickStopOp a)))

/-- HOME (R443). -/
def execHome (via : Via) (a : Fin 4) (t : Nat) (s : State) : Host.Outcome State Fault Refusal :=
  .next (State.settle (s.axisWrite via a t (homeOp a)))

/-- ENGAGE_GEAR (R448). -/
def execEngageGear (via : Via) (a : Fin 4) (t : Nat) (s : State) : Host.Outcome State Fault Refusal :=
  .next (State.settle (s.axisWrite via a t (engageGearOp a)))

/-- DISENGAGE_GEAR (R438). -/
def execDisengageGear (via : Via) (a : Fin 4) (t : Nat) (s : State) : Host.Outcome State Fault Refusal :=
  .next (State.settle (s.axisWrite via a t (disengageGearOp a)))

/-- SET_POSITION (R438). -/
def execSetPosition (via : Via) (a : Fin 4) (t : Nat) (s : State) : Host.Outcome State Fault Refusal :=
  .next (State.settle (s.axisWrite via a t (setPositionOp a)))

/-- AXIS_CLEAR_FAULT (R438). -/
def execAxisClearFault (via : Via) (a : Fin 4) (t : Nat) (s : State) : Host.Outcome State Fault Refusal :=
  .next (State.settle (s.axisWrite via a t (axisClearFaultOp a)))

/-- An axis goes OFF where it stands (R432, R436). -/
def State.axisOff (s : State) (a : Fin 4) : State :=
  (((((s.cutStep a).restAxis a (s.axisKin a).1).leaveWalk a).setAxis a 0).setObj (ak 0x480036 a) 0).setBit (ak 0x480034 a) 3 false

/-- A write of the axis enable (R436). -/
def axisEnableOp (a : Fin 4) (v : Nat) (s : State) : Answer :=
  if 1 < v then s.refuse 0x06090030
  else
    let s' := s.setObj (ak 0x480001 a) v
    (if v = 0 then s'.axisOff a else if s.axisState a = 0 then s'.setAxis a 1 else s').accept

/-- AXIS_ENABLE (R436). -/
def execAxisEnable (via : Via) (a : Fin 4) (value t : Nat) (s : State) : Host.Outcome State Fault Refusal :=
  .next (State.settle ((s.tick t).access via (ak 0x480001 a) (axisEnableOp a value)))

/-- A move ends exactly on its target (R441). -/
def State.moveDone (s : State) (a : Fin 4) : State :=
  match (s.axis.get a).goal with
  | .move target =>
    if s.axisState a = 2 && s.profileDone a then ((s.restAxis a target).setAxis a 1).event (ak 0x480035 a) 0 else s
  | _ => s

/-- MOVE_DONE (R441). -/
def execMoveDone (a : Fin 4) (t : Nat) (s : State) : Host.Outcome State Fault Refusal :=
  .next (State.settle ((s.tick t).moveDone a))

/-- A velocity move is at rest at a soft limit, and holds (R442). -/
def State.limitReached (s : State) (a : Fin 4) : State :=
  match (s.axis.get a).goal with
  | .limit place =>
    if s.axisState a = 2 && s.profileDone a then
      (((s.restAxis a place).setBit (ak 0x480034 a) 3 true).event (ak 0x480035 a) 5).bump (ak 0x480042 a)
    else s
  | _ => s

/-- LIMIT_REACHED (R442). -/
def execLimitReached (a : Fin 4) (t : Nat) (s : State) : Host.Outcome State Fault Refusal :=
  .next (State.settle ((s.tick t).limitReached a))

/-- A stall found while homing: the position becomes the home offset and the back-off starts (R444). -/
def State.homeStall (s : State) (a : Fin 4) : State :=
  let p : Int := sx 48 (toBits 48 (sx 64 (s.obj (ak 0x48001C a))))
  let v := s.homeVelocity a
  let dist := -signQ v * (s.obj (ak 0x48001D a) : Rat)
  let s := (s.placeAxis a p).setBit (ak 0x480034 a) 0 true
  s.runAxis a ((s.homeLimits a).moveBy 0 0 dist (absQ v)) (.backoff ((p : Rat) + dist))

/-- A stall outside homing, by the DIAG action (R446). -/
def State.diagStall (s : State) (a : Fin 4) : State :=
  let s := s.bump (ak 0x480040 a)
  if (s.obj (ak 0x48000E a)).testBit 1 then
    (s.faultAxis a 1 158 (s.axisKin a).1).setBit (ak 0x480034 a) 0 false
  else s.event (ak 0x480035 a) 3

/-- DIAG has held its level for the filter time (R443, R446). -/
def State.diag (s : State) (a : Fin 4) : State :=
  let st := s.axisState a
  match (s.axis.get a).goal with
  | .search p =>
    if st = 3 && decide ((s.obj (ak 0x48001A a) : Rat) ≤ s.travelled a p) then s.homeStall a else s
  | _ => if st = 2 || st = 4 || st = 5 then s.diagStall a else s

/-- DIAG is at its active level, by the polarity set for the axis (R431, R459). -/
def State.diagActive (s : State) (a : Fin 4) (level : Bool) : Bool := level == s.bit (ak 0x48000E a) 0

/-- A level held for a number of timing clocks has passed the DIAG filter time (R443, R459). -/
def State.diagFiltered (s : State) (a : Fin 4) (held : Nat) : Bool := s.obj (ak 0x48000F a) * 500 ≤ held

/-- DIAG_STALL: DIAG has held a level for `held` timing clocks; after the filter time DIAG_NOW shows whether it is active, and an active level is taken as a stall (R443, R446, R460). -/
def execDiagStall (a : Fin 4) (level : Bool) (held t : Nat) (s : State) : Host.Outcome State Fault Refusal :=
  .next (State.settle (
    if s.timing && s.diagFiltered a held then
      let s := (s.tick t).setBit (ak 0x480034 a) 1 (s.diagActive a level)
      if s.diagActive a level then s.diag a else s
    else s))

/-- The search distance has passed without a stall: the axis stops at the deceleration and then enters FAULT (R445). -/
def State.homeFail (s : State) (a : Fin 4) : State :=
  match (s.axis.get a).goal with
  | .search p =>
    if s.axisState a = 3 && decide ((s.obj (ak 0x48001B a) : Rat) ≤ s.travelled a p) then
      s.stopToFault a (s.homeLimits a) 2 157
    else s
  | _ => s

/-- HOME_FAIL (R445). -/
def execHomeFail (a : Fin 4) (t : Nat) (s : State) : Host.Outcome State Fault Refusal :=
  .next (State.settle ((s.tick t).homeFail a))

/-- The back-off ends (R444). -/
def State.homeDone (s : State) (a : Fin 4) : State :=
  match (s.axis.get a).goal with
  | .backoff target =>
    if s.axisState a = 3 && s.profileDone a then ((s.restAxis a target).setAxis a 1).event (ak 0x480035 a) 1 else s
  | _ => s

/-- HOME_DONE (R444). -/
def execHomeDone (a : Fin 4) (t : Nat) (s : State) : Host.Outcome State Fault Refusal :=
  .next (State.settle ((s.tick t).homeDone a))

/-- SEGMENT (R449). -/
def execSegment (a : Fin 4) (t : Nat) (s : State) : Host.Outcome State Fault Refusal :=
  .next (State.settle ((s.tick t).segment a))

/-- Entry `i` of a segment queue write (R459). -/
def segmentAt (d : Bytes) (i : Nat) : Nat × Int × Nat :=
  (leAt d (24 * i) 8, sx 64 (leAt d (24 * i + 8) 8), leAt d (24 * i + 16) 4)

/-- A write to the segment queue (R450, R459). -/
def segmentQueueOp (a : Fin 4) (d : Bytes) (s : State) : Answer :=
  let n := d.length / 24
  let old := (s.axis.get a).queue
  if d.length % 24 ≠ 0 then s.refuse 0x06070010
  else if n = 0 then (s.modAxis a fun x => { x with queue := [] }).accept
  else if 8 < old.length + n || (List.range n).any fun i => leAt d (24 * i + 20) 4 ≠ 0 || 2 ^ 48 ≤ leAt d (24 * i) 8 then
    s.refuse 0x06090030
  else (s.modAxis a fun x => { x with queue := old ++ (List.range n).map (segmentAt d) }).accept

/-- SEGMENT_QUEUE_WRITE (R450). -/
def execSegmentQueueWrite (a : Fin 4) (data : Bytes) (s : State) : Host.Outcome State Fault Refusal :=
  .next (State.settle (s.access .sdo (ak 0x480022 a) (segmentQueueOp a data)))

/-- A geared or walk axis is over its maximum velocity or at a soft limit (R451). -/
def State.gearedFault (s : State) (a : Fin 4) : State :=
  let k := s.axisKin a
  if !(s.axisState a = 4 || s.axisState a = 5) || !s.timing then s
  else if s.limited a && decide (k.1 ≤ (s.limitMin a : Rat) ∨ (s.limitMax a : Rat) ≤ k.1) then
    let p := clampQ (s.limitMin a) (s.limitMax a) k.1
    ((s.faultAxis a 5 157 p).event (ak 0x480035 a) 5).bump (ak 0x480042 a)
  else if s.maxVelocity a < absQ k.2.1 then
    s.stopToFault a (s.quickLimits a) 4 157
  else s

/-- GEARED_AXIS_FAULT (R451). -/
def execGearedAxisFault (a : Fin 4) (t : Nat) (s : State) : Host.Outcome State Fault Refusal :=
  .next (State.settle ((s.tick t).gearedFault a))

/-- A write of the walk enable (R453, R454). -/
def walkEnableOp (a : Fin 4) (v : Nat) (s : State) : Answer :=
  let other := (List.finRange 4).any fun b => b ≠ a && s.obj (ak 0x480028 b) = 1
  let zero := decide ((s.axisKin a).1 = (sx 64 (s.obj (ak 0x48002E a)) : Rat))
  if 1 < s.engineState then s.refuse 0x08000022
  else if 1 < v then s.refuse 0x06090030
  else if v = 1 then
    if other || s.axisState a ≠ 1 || !zero then s.refuse 0x08000022
    else ((s.setObj (ak 0x480028 a) 1).setAxis a 5).accept
  else (if s.axisState a = 5 then ((s.restAxis a (s.axisKin a).1).leaveWalk a).setAxis a 1 else s).accept

/-- WALK_ENABLE (R453). -/
def execWalkEnable (via : Via) (a : Fin 4) (value t : Nat) (s : State) : Host.Outcome State Fault Refusal :=
  .next (State.settle ((s.tick t).access via (ak 0x480028 a) (walkEnableOp a value)))

/-- A stopped axis is at rest, or a disengaged gear's ratio is 0 (R438, R445, R451). -/
def State.atRest (s : State) (a : Fin 4) : State :=
  match (s.axis.get a).goal with
  | .stop =>
    if s.axisState a = 2 && s.profileDone a then (s.restAxis a (s.axisKin a).1).setAxis a 1 else s
  | .fault .. => s.faultAtRest a
  | .disengage =>
    if s.axisState a = 4 && s.timing && decide (((s.axis.get a).ramp : Rat) ≤ s.masterRun (s.axis.get a)) then
      (s.restAxis a (s.axisKin a).1).setAxis a 1
    else s
  | _ => s

/-- MOTION_AT_REST (R438). -/
def execMotionAtRest (a : Fin 4) (t : Nat) (s : State) : Host.Outcome State Fault Refusal :=
  .next (State.settle ((s.tick t).atRest a))

end Sys2Proof.Machine
end

