-- ==== Sys2Proof/Machine/StackSched.lean ====
section
/-! DEFINITION. A stack channel's queues, banks, order of service and commands (R462, R466 to R482). Times are stack clocks of 1.2 GHz, counted from reset. -/

namespace Sys2Proof.Machine

/-- The timing clock that a stack clock falls in (R26). -/
def ofStackClock (k : Nat) : Nat := k * 5 / 12

/-- Stack clock of the present time (R26). -/
def State.stackNow (s : State) : Nat := s.clk * 12 / 5

/-- Nanoseconds in whole stack clocks, rounded up (R462). -/
def stackClocks (ns : Nat) : Nat := (ns * 6 + 4) / 5

/-- A bank at reset: closed, nothing owed (R491). -/
def StackBank.idle : StackBank :=
  { row := none, actOk := 0, useOk := 0, preOk := 0, used := 0, owed := 0, forced := false, next := 0, fresh := false, due := none }

/-- Bank `b` of a channel. -/
def Chan.bank (c : Chan) (b : Nat) : StackBank := storeGet (fun _ => StackBank.idle) c.banks b

/-- Changes bank `b` of a channel. -/
def Chan.modBank (c : Chan) (b : Nat) (f : StackBank → StackBank) : Chan :=
  { c with banks := storePut (fun _ => StackBank.idle) c.banks b (f (c.bank b)) }

/-- Place of a class in the order in which requests of one clock are accepted: RENDER, CAPTURE, INGEST, then the rest in the order of their numbers (R469). -/
def acceptRank (cls : Nat) : Nat := if cls = 1 then 2 else if cls = 2 then 1 else cls

/-- Age order: acceptance clock, then class, port or channel number, and order of arrival (R469). -/
def StackReq.before (a b : StackReq) : Bool :=
  if a.since ≠ b.since then decide (a.since < b.since)
  else if a.cls ≠ b.cls then decide (acceptRank a.cls < acceptRank b.cls)
  else if a.port ≠ b.port then decide (a.port < b.port)
  else decide (a.id < b.id)

/-- The oldest request of a list. -/
def oldestReq : List StackReq → Option StackReq
  | [] => none
  | q :: t => match oldestReq t with
    | none => some q
    | some r => if q.before r then some q else some r

/-- Requests queued for a bank. -/
def Chan.queued (c : Chan) (b : Nat) : List StackReq := (c.reads ++ c.writes).filter (·.bank = b)

/-- A queue has room for a class: a reserved entry of its own, or a shared one (R468). -/
def hasRoom (q : List StackReq) (cls : Nat) : Bool :=
  let held := fun (x : Nat) => (q.filter (·.cls = x)).length
  decide (held cls < 2) || decide (((List.range 8).map fun x => held x - 2).sum < 48)

/-- Writes that have not been written to the DRAM at clock `k` (R473). -/
def Chan.unwritten (c : Chan) (k : Nat) : List StackReq :=
  c.writes ++ c.retry.filterMap fun m => if m.kind = .write ∧ k ≤ m.clk then m.req else none

/-- A bank is in in-order mode (R473). -/
def Chan.ordered (c : Chan) (b : Nat) : Bool := (findKey c.inOrder b).isSome

/-- A request and a write to one row of which the write is the older (R473). -/
def matchesRow (w r : StackReq) : Bool :=
  w.write && decide (w.id ≠ r.id) && decide (w.bank = r.bank) && decide (w.row = r.row) && w.before r

/-- The writes whose match a newly accepted request makes (R473). -/
def Chan.matched (c : Chan) (k : Nat) (r : StackReq) : List Nat :=
  ((c.unwritten k).filter fun w => matchesRow w r).map (·.id) ++
    (if (c.reads ++ c.writes).any (matchesRow r) then [r.id] else [])

/-- Key of a channel object. -/
def State.chan (s : State) (c : Fin 8) : Chan := s.stack.chan.get c

/-- A request enters its queue, and a match puts its bank into in-order mode (R468, R473). -/
def State.acceptReq (s : State) (c : Fin 8) (k : Nat) (r : StackReq) : State :=
  let r := { r with since := k }
  let s := s.modChan c fun ch => if r.write then { ch with writes := ch.writes ++ [r] } else { ch with reads := ch.reads ++ [r] }
  let ids := (s.chan c).matched k r
  if ids.isEmpty then s
  else
    let old := (findKey (s.chan c).inOrder r.bank).getD []
    let s := if (s.chan c).ordered r.bank then s else s.bump (ck8 0x500041 c)
    s.modChan c fun ch => { ch with inOrder := putKey ch.inOrder r.bank (old ++ ids) }

/-- Waiting requests for which an entry is free are accepted (R468). -/
def State.takeIn (s : State) (c : Fin 8) (k : Nat) : State :=
  (s.chan c).waits.foldl (fun s r =>
    let q := if r.write then (s.chan c).writes else (s.chan c).reads
    if hasRoom q r.cls then (s.modChan c fun ch => { ch with waits := ch.waits.filter (·.id ≠ r.id) }).acceptReq c k r
    else s) s

/-- Banks leave in-order mode once every matched write has been written (R473). -/
def Chan.leaveInOrder (c : Chan) (k : Nat) : Chan :=
  let live := (c.unwritten k).map (·.id)
  { c with inOrder := (c.inOrder.map fun p => (p.1, p.2.filter live.contains)).filter fun p => !p.2.isEmpty }

/-- Commands older than 32 stack clocks leave the retry buffer, unless an ALERT or a parity error has come (R497). -/
def Chan.retire (c : Chan) (k : Nat) : Chan :=
  if c.replay.isSome then c else { c with retry := c.retry.filter fun m => decide (k < m.clk + 32) }

/-- Stack clocks of 100 ms. -/
def loadWindow : Nat := 120000000

/-- Load and row-hit rate of a channel over the last whole window of 100 ms before stack clock `k` (R494). -/
def State.loadAt (s : State) (c : Fin 8) (k : Nat) : Nat × Nat :=
  let ch := s.chan c
  let w := k / loadWindow
  if w = ch.window then (s.obj (ck8 0x500021 c), s.obj (ck8 0x500022 c))
  else
    let n := if w = ch.window + 1 then ch.count else 0
    let hits := if w = ch.window + 1 then ch.hits else 0
    ((roundQ 0 ((100 * n : Nat) / (30000000 : Rat))).toNat,
      if n = 0 then 0 else (roundQ 0 ((100 * hits : Nat) / ((n : Nat) : Rat))).toNat)

/-- A window of 100 ms that has passed is reported as load and row-hit rate (R494). -/
def State.reportLoad (s : State) (c : Fin 8) (k : Nat) : State :=
  let w := k / loadWindow
  if w = (s.chan c).window then s
  else
    ((s.setObj (ck8 0x500021 c) (s.loadAt c k).1).setObj (ck8 0x500022 c) (s.loadAt c k).2).modChan c fun ch =>
      { ch with window := w, count := 0, hits := 0 }

/-- Time reaches stack clock `k` in a channel. -/
def State.chanAt (s : State) (c : Fin 8) (k : Nat) : State :=
  ((s.reportLoad c k).modChan c fun ch => (ch.retire k).leaveInOrder k).takeIn c k

/-- Age of a request in hundredths of its target, in two factors: age * 500 against target * 6 (R470). -/
def State.urgency (s : State) (k : Nat) (r : StackReq) : Nat :=
  let age := (k - r.since) * 500
  let t := s.obj (0x500010 + r.cls) * 6
  if 100 * t ≤ age then 3 else if 75 * t ≤ age then 2 else if 50 * t ≤ age then 1 else 0

/-- Urgency of a request for the order of service: in an in-order bank the highest of the bank (R474). -/
def State.serviceUrgency (s : State) (ch : Chan) (k : Nat) (r : StackReq) : Nat :=
  if ch.ordered r.bank then (ch.queued r.bank).foldl (fun m q => max m (s.urgency k q)) 0 else s.urgency k r

/-- The next command of a request (R476). -/
def Chan.command (c : Chan) (r : StackReq) : DramKind :=
  match (c.bank r.bank).row with
  | none => .activate
  | some w => if w ≠ r.row then .precharge else if r.write then .write else .read

/-- An access to a bank group meets tCCD, and a read also tWTR (R462). -/
def Chan.accessOk (c : Chan) (k g : Nat) (write : Bool) : Bool :=
  (c.access.all fun a => decide (a.2 + (if a.1 = g then 6 else 4) ≤ k)) &&
    (write || c.wrote.all fun a => decide (a.2 + (if a.1 = g then 9 else 3) ≤ k))

/-- An activate in a bank group meets tRRD and tFAW (R462). -/
def Chan.activateOk (c : Chan) (k g : Nat) : Bool :=
  (c.acts.all fun a => decide (a.1 + (if a.2 = g then 6 else 3) ≤ k)) &&
    (c.acts.drop 3).all fun a => decide (a.1 + 20 ≤ k)

/-- The row-disturb throttle allows a class an activate in a bank (R481). -/
def State.disturbOk (s : State) (ch : Chan) (k bank cls : Nat) : Bool :=
  match findKey ch.throttled (bank * 8 + cls) with
  | none => true
  | some last => decide (last + stackClocks (s.obj 0x500007) ≤ k)

/-- The word of 4 bytes at `i` of a write that only part of is written (R467). -/
def partialWord (mask i : Nat) : Bool := field mask (4 * i) 4 ≠ 0 && field mask (4 * i) 4 ≠ 15

/-- A write is a read-modify-write (R467). -/
def StackReq.rmw (r : StackReq) : Bool := r.write && (List.range 16).any (partialWord r.mask)

/-- Stack clocks from the read of a read-modify-write to its write, which follows the data of 4 clocks that the read returns (R462, R467). -/
def rmwGap : Nat := max 6 (Config.readLatency + 4)

/-- A request's next command can issue at clock `k`; a read-modify-write begins with its read and takes two entries of the retry buffer (R462, R467, R471, R497). -/
def State.canIssue (s : State) (ch : Chan) (k : Nat) (r : StackReq) : Bool :=
  let b := ch.bank r.bank
  let g := r.bank / 4
  s.thermalOk ch r.cls && !b.forced &&
    match ch.command r with
    | .activate => decide (b.actOk ≤ k) && ch.activateOk k g && s.disturbOk ch k r.bank r.cls
    | .precharge => decide (b.preOk ≤ k) && s.disturbOk ch k r.bank r.cls
    | .read => decide (b.useOk ≤ k) && ch.accessOk k g false
    | .write => decide (b.useOk ≤ k) && ch.accessOk k g (!r.rmw) && (!r.rmw || decide (ch.retry.length < 15))
    | .refresh => false

/-- A bank in in-order mode offers only its oldest request (R471). -/
def Chan.offered (c : Chan) (r : StackReq) : Bool :=
  !c.ordered r.bank || match oldestReq (c.queued r.bank) with
    | some o => decide (o.id = r.id)
    | none => false

/-- `a` is served before `b`: urgency, row hit, age (R471). -/
def State.servedBefore (s : State) (ch : Chan) (k : Nat) (a b : StackReq) : Bool :=
  let u := s.serviceUrgency ch k a
  let v := s.serviceUrgency ch k b
  let hit := fun (r : StackReq) => decide ((ch.bank r.bank).row = some r.row)
  if u ≠ v then decide (v < u) else if hit a ≠ hit b then hit a else a.before b

/-- The first request of a list in the order of service. -/
def State.firstServed (s : State) (ch : Chan) (k : Nat) : List StackReq → Option StackReq
  | [] => none
  | q :: t => match s.firstServed ch k t with
    | none => some q
    | some r => if s.servedBefore ch k q r then some q else some r

/-- An in-order bank's oldest request is a write that others wait behind (R472). -/
def Chan.waitsBehindWrite (c : Chan) : Bool :=
  c.inOrder.any fun p => match oldestReq (c.queued p.1) with
    | some o => o.write
    | none => false

/-- The channel is in write mode at this clock (R472). -/
def State.inWriteMode (s : State) (ch : Chan) (k : Nat) : Bool :=
  let urgent := ch.writes.any fun w => decide (2 ≤ s.urgency k w)
  if ch.writeMode then decide (s.obj 0x500005 < ch.writes.length) || urgent || ch.waitsBehindWrite
  else decide (s.obj 0x500004 ≤ ch.writes.length) || urgent || ch.waitsBehindWrite

/-- The request served next: reads first in read mode, writes first in write mode (R471, R472). -/
def State.nextRequest (s : State) (ch : Chan) (k : Nat) : Option StackReq :=
  let ready := fun (l : List StackReq) => l.filter fun r => ch.offered r && s.canIssue ch k r
  let first := if ch.writeMode then ready ch.writes else ready ch.reads
  let second := if ch.writeMode then ready ch.reads else ready ch.writes
  s.firstServed ch k (if first.isEmpty then second else first)

/-- Page idle time has passed for a bank, or its row is closed (R476, R477). -/
def State.idleExpired (s : State) (b : StackBank) (k : Nat) : Bool :=
  b.row.isNone || decide (b.used + stackClocks (s.obj 0x500003) ≤ k)

/-- A bank's refresh, or the precharge that it needs first, can issue (R477, R478). -/
def StackBank.refreshCmd (b : StackBank) (k : Nat) : Option DramKind :=
  match b.row with
  | some _ => if b.preOk ≤ k then some .precharge else none
  | none => if b.actOk ≤ k then some .refresh else none

/-- The lowest bank with a forced refresh, or with an owed one that no queued request and no open page holds back (R477, R478). -/
def State.nextRefresh (s : State) (ch : Chan) (k : Nat) (forced : Bool) : Option (Nat × DramKind) :=
  (List.range 32).findSome? fun n =>
    let b := ch.bank n
    let wanted := if forced then b.forced
      else decide (1 ≤ b.owed) && (ch.queued n).isEmpty && s.idleExpired b k
    if wanted then (b.refreshCmd k).map fun c => (n, c) else none

/-- Data of a row-disturb table after an activate of row `r`, and the counts of that row before and after (R480). -/
def countActivate (l : List (Nat × Nat)) (r : Nat) : List (Nat × Nat) × Nat × Nat :=
  match l.find? fun e => e.1 = r with
  | some e => (l.map fun x => if x.1 = r then (r, x.2 + 1) else x, e.2, e.2 + 1)
  | none =>
    if l.length < 16 then (l ++ [(r, 1)], 0, 1)
    else
      let least := l.foldl (fun m e => min m e.2) (l.headD (0, 0)).2
      let i := (l.findIdx? fun e => e.2 = least).getD 0
      (setNth l i (r, least + 1), 0, least + 1)

/-- An activate is tracked, and a class that reaches the threshold is throttled in the bank (R480 to R482). -/
def State.trackActivate (s : State) (c : Fin 8) (k bank row : Nat) (r : StackReq) : State :=
  let ch := s.chan c
  let key := bank * 8 + r.cls
  let (tab, before, after) := countActivate ((findKey ch.tables bank).getD []) row
  let held := (findKey ch.throttled key).isSome
  let s := s.modChan c fun ch => { ch with
    tables := putKey ch.tables bank tab
    throttled := if held then putKey ch.throttled key k else ch.throttled }
  if !held && decide (before < s.obj 0x500006) && decide (s.obj 0x500006 ≤ after) then
    let s := s.modChan c fun ch => { ch with throttled := putKey ch.throttled key k }
    ((s.bump (ck8 0x500042 c)).event 0x50000F 5).raise 166 c.val (r.addr % 2 ^ 36 / 16)
  else s

/-- A command issued at clock `k` enters the retry buffer with its last clock (R497). -/
def State.buffer (s : State) (c : Fin 8) (k last : Nat) (kind : DramKind) (bank row : Nat) (r : Option StackReq)
    (old : Bytes) : State :=
  s.modChan c fun ch => { ch with
    issued := k + 1
    retry := ch.retry ++ [{ kind := kind, bank := bank, row := row, issuedAt := k, clk := last, req := r, old := old }] }

/-- An activate (R462, R480). -/
def State.doActivate (s : State) (c : Fin 8) (k : Nat) (r : StackReq) : State :=
  let s := s.modChan c fun ch => { (ch.modBank r.bank fun b => { b with
      row := some r.row, useOk := k + 17, preOk := max b.preOk (k + 35), actOk := k + 52, used := k, fresh := true }) with
    acts := ((k, r.bank / 4) :: ch.acts).take 4 }
  (s.trackActivate c k r.bank r.row r).buffer c k k .activate r.bank r.row none []

/-- A precharge (R462). -/
def State.doPrecharge (s : State) (c : Fin 8) (k bank : Nat) : State :=
  (s.modChan c fun ch => ch.modBank bank fun b => { b with row := none, actOk := max b.actOk (k + 17) }).buffer
    c k k .precharge bank 0 none []

/-- Rows that one refresh covers (R477). -/
def State.refreshRows (s : State) : Nat := match s.variant with
  | .v32A => 8
  | .v16A => 4

/-- Rows of a bank (R461). -/
def State.bankRows (s : State) : Nat := match s.variant with
  | .v32A => 65536
  | .v16A => 32768

/-- A refresh is credited to its bank (R477, R478). -/
def State.credit (s : State) (c : Fin 8) (bank : Nat) : State :=
  s.modChan c fun ch => ch.modBank bank fun b => { b with
    owed := b.owed - 1, forced := b.forced && decide (1 < b.owed), next := (b.next + s.refreshRows) % s.bankRows }

/-- A refresh of a bank (R462, R477). -/
def State.doRefresh (s : State) (c : Fin 8) (k bank : Nat) : State :=
  let row := ((s.chan c).bank bank).next
  let s := (s.credit c bank).modChan c fun ch => ch.modBank bank fun b => { b with actOk := max b.actOk (k + 96) }
  s.buffer c k k .refresh bank row none []

/-- An access reads a poisoned word (R513). -/
def State.hitsPoison (s : State) (r : StackReq) : Bool :=
  s.stack.poison.any fun a => decide (r.addr ≤ a ∧ a < r.addr + 64) &&
    (!r.write || partialWord r.mask ((a - r.addr) / 4))

/-- A request leaves its queue, and its class's window count and the load counts rise (R485, R494). -/
def State.dequeue (s : State) (c : Fin 8) (r : StackReq) : State :=
  s.modChan c fun ch => { ch with
    reads := ch.reads.filter (·.id ≠ r.id), writes := ch.writes.filter (·.id ≠ r.id)
    ingest := ch.ingest + b2n (r.cls = 1), capture := ch.capture + b2n (r.cls = 2)
    count := ch.count + 1 }

/-- An access to the open row: its timings, its data, and the close of the row where the page idle time is 0; a read-modify-write is one unit of a read and a write, and the channel issues nothing between them (R462, R467, R475, R476, R497). -/
def State.doAccess (s : State) (c : Fin 8) (k : Nat) (r : StackReq) : State :=
  let w := if r.rmw then k + rmwGap else k
  let first := w + (if r.write then Config.writeLatency else Config.readLatency)
  let closes := s.obj 0x500003 = 0
  let g := r.bank / 4
  let hit := !((s.chan c).bank r.bank).fresh
  let pre := if r.write then first + 4 + 18 else k + 6
  let s := s.dequeue c r
  let s := s.modChan c fun ch => { (ch.modBank r.bank fun b =>
      let p := max b.preOk pre
      { b with preOk := p, used := w, fresh := false, row := if closes then none else b.row,
               actOk := if closes then max b.actOk (p + 17) else b.actOk }) with
    access := putKey ch.access g w
    wrote := if r.write then putKey ch.wrote g (first + 4) else ch.wrote
    hits := ch.hits + b2n hit }
  let old := s.bytes r.addr 64
  let s := if r.rmw then s.buffer c k (k + Config.readLatency + 3) .read r.bank r.row none [] else s
  let s := s.buffer c w (first + 3) (if r.write then .write else .read) r.bank r.row (some r) old
  let s := if r.rmw then s.bump (ck8 0x500043 c) else s
  if r.write then s.putMasked r else s.stackReply (.data old)

/-- One access of a hardware block or a bus master, served at once: it counts in its channel's load, row hits and thermal share, and holds no queue entry (R466, R485, R494, DESIGN CHOICE log entry 135). -/
def State.touch (s : State) (cls a : Nat) : State :=
  let (c, bank, row) := s.place a
  (s.reportLoad c s.stackNow).modChan c fun ch => { ch with
    count := ch.count + 1, hits := ch.hits + b2n (decide ((ch.bank bank).row = some row))
    ingest := ch.ingest + b2n (cls = 1), capture := ch.capture + b2n (cls = 2) }

/-- The accesses to `n` bytes at `a`, in ascending order (R466, R494). -/
def State.touchAll (s : State) (cls a n : Nat) : State := (accesses a n).foldl (fun s x => s.touch cls x) s

/-- Words of the stack that a write of `n` bytes at `a` replaces in part, each a read-modify-write (R467). -/
def partialWords (a n : Nat) : List Nat :=
  if n = 0 then []
  else
    let first := a / 4 * 4
    let last := (a + n - 1) / 4 * 4
    (if a % 4 ≠ 0 ∨ (first = last ∧ (a + n) % 4 ≠ 0) then [first] else []) ++
      (if first ≠ last ∧ (a + n) % 4 ≠ 0 then [last] else [])

/-- Each read-modify-write counts in its channel (R467). -/
def State.countRmw (s : State) (a n : Nat) : State :=
  (partialWords a n).foldl (fun s w => s.bump (ck8 0x500043 (s.place w).1)) s

/-- Writes that channel `c` has accepted or that wait there, oldest first (R473, R475). -/
def Chan.pendingWrites (c : Chan) : List StackReq := c.writes ++ c.waits.filter (·.write)

/-- A stack byte as a read accepted now returns it: that of the latest queued write to it, else of the DRAM (R475). -/
def State.latestByte (s : State) (a : Nat) : Byte :=
  let q := (s.stack.chan.get (s.place a).1).pendingWrites.reverse
  match q.find? fun r => decide (r.addr ≤ a ∧ a < r.addr + 64) && r.mask.testBit (a - r.addr) with
  | some r => r.data.getD (a - r.addr) 0
  | none => s.byte a

/-- Bytes written after a queued write to them stay: the queued write takes them too (R475). -/
def StackReq.overwrite (r : StackReq) (a : Nat) (d : Bytes) : StackReq :=
  { r with data := (List.range 64).map fun i =>
      if r.write && decide (a ≤ r.addr + i ∧ r.addr + i < a + d.length) then d.getD (r.addr + i - a) 0 else r.data.getD i 0 }

/-- Bytes written after an issued write to them stay where it is made again or undone (R475, R498). -/
def StackCmd.overwrite (m : StackCmd) (a : Nat) (d : Bytes) : StackCmd :=
  { m with
    req := m.req.map fun r => r.overwrite a d
    old := match m.req with
      | some r => (List.range m.old.length).map fun i =>
          if a ≤ r.addr + i ∧ r.addr + i < a + d.length then d.getD (r.addr + i - a) 0 else m.old.getD i 0
      | none => m.old }

/-- A write made at once is later than every write queued or issued to the same bytes (R475). -/
def State.afterQueued (s : State) (a : Nat) (d : Bytes) : State :=
  ((accesses a d.length).map fun x => (s.place x).1).eraseDups.foldl (fun s c => s.modChan c fun ch => { ch with
    writes := ch.writes.map fun r => r.overwrite a d, waits := ch.waits.map fun r => r.overwrite a d
    retry := ch.retry.map fun m => m.overwrite a d }) s

end Sys2Proof.Machine
end

