-- ==== Sys2Proof/Machine/StackRepair.lean ====
section
/-! DEFINITION. Replay, retraining, spare lanes and rows, pages, channels leaving service at once, and entry into self-refresh (R488, R497 to R517). -/

namespace Sys2Proof.Machine

/-- Bits [35:4] of a stack offset, as the log reports them (R652). -/
def stackDetail (a : Nat) : Nat := a % 2 ^ 36 / 16

/-- A channel is retired at once; a job in progress is held (R516, R519). -/
def State.retireNow (s : State) (c : Fin 8) : State :=
  let s := ((s.failQueue c false).channelOut c).modChan c fun ch => { ch with training := false, replay := none, retry := [] }
  s.holdCause.checkChannels

/-- The last read in the retry buffer of a channel (R497). -/
def Chan.lastRead (c : Chan) : Option StackReq := (c.retry.reverse.filter (·.kind = .read)).findSome? (·.req)

/-- Data that a read in the buffer has returned does not stand until a round has succeeded (R496, R500, R502). -/
def State.withdraw (s : State) (c : Fin 8) : State :=
  match s.stack.reply, (s.chan c).lastRead with
  | .data _, some _ => s.stackReply .accepted
  | _, _ => s

/-- A replay round starts, or the round that starts in the same clock serves this error too (R498, R499). -/
def State.startReplay (s : State) (c : Fin 8) (kind : AlertKind) (addr k : Nat) : State :=
  let s := (s.raise 160 c.val (stackDetail addr)).withdraw c
  s.modChan c fun ch => { ch with replay := match ch.replay with
    | none => some { causes := [(kind, addr)], since := k, round := 1, alerted := false, retrained := false }
    | some r => if r.since = k then some { r with causes := r.causes ++ [(kind, addr)] } else some r }

/-- Retrains of a channel in the last 60 minutes (R511). -/
def State.retrains (s : State) (c : Nat) : Nat :=
  (s.mram.repair.retrains.filter fun (r : Nat × Nat) => decide (r.1 = c ∧ s.vbat.hours < r.2 + 3600)).length

/-- A run of quick training counts as a retrain; the fifth in 60 minutes marks the channel RETIRING (R508, R511, R517). -/
def State.countRetrain (s : State) (c : Fin 8) : State :=
  let r := s.mram.repair
  let s := s.modMram fun mr => { mr with repair := { r with
    retrains := (r.retrains.filter fun (x : Nat × Nat) => decide (s.vbat.hours < x.2 + 3600)) ++ [(c.val, s.vbat.hours)] } }
  let s := ((s.bump (ck8 0x510009 c)).event 0x520002 0).raise 161 c.val 0
  if 5 ≤ s.retrains c.val then s.setBit (ck8 0x51001A c) 0 true else s

/-- Quick training starts, and counts as a retrain (R508). -/
def State.startRetrain (s : State) (c : Fin 8) : State :=
  (s.modChan c fun ch => { ch with training := true }).countRetrain c

/-- Lanes served by the spares of a channel: byte i the lane of data spare i, byte 4 that of the command spare (R528). -/
def State.spareMap (s : State) (c : Fin 8) : Nat := s.obj (ck8 0x510019 c)

/-- A spare has taken over the signal of a lane, which is in use no more (R505, R507). -/
def State.replaced (s : State) (c : Fin 8) (lane : Nat) : Bool :=
  (List.range 5).any fun i => field (s.spareMap c) (8 * i) 8 = lane

/-- The signal whose lane has failed, none for a lane that is not in use: a spare's failure is a failure of the signal that it serves (R505, R507). -/
def State.servedLane (s : State) (c : Fin 8) (lane : Nat) : Option Nat :=
  let spare := if 66 ≤ lane ∧ lane ≤ 69 then some (lane - 66) else if lane = 145 then some 4 else none
  match spare with
  | none => if (lane < 66 ∨ (128 ≤ lane ∧ lane ≤ 144)) ∧ !s.replaced c lane then some lane else none
  | some i => if field (s.spareMap c) (8 * i) 8 = 0xFF then none else some (field (s.spareMap c) (8 * i) 8)

/-- A spare is given to a signal, kept in MRAM, counted and reported (R507, R525). -/
def State.giveSpare (s : State) (c : Fin 8) (i lane : Nat) : State :=
  let m := putField (s.spareMap c) (8 * i) 8 lane
  let s := s.setObj (ck8 0x510019 c) m
  let s := if i = 4 then s.setObj (ck8 0x510011 c) 1 else s.setObj (ck8 0x510010 c) (i + 1)
  let r := s.mram.repair
  let s := s.modMram fun mr => { mr with repair := { r with laneSpares := putKey r.laneSpares c.val m } }
  (s.event 0x520002 1).bump 0x520043

/-- One lane that fails training takes the next free spare of its kind; false where none is free (R507). -/
def State.spareLane (s : State) (c : Fin 8) (lane : Nat) : State × Bool :=
  match s.servedLane c lane with
  | none => (s, true)
  | some l =>
    if l < 66 then
      let used := s.obj (ck8 0x510010 c)
      if used < 4 then (s.giveSpare c used l, true) else (s, false)
    else if s.obj (ck8 0x510011 c) = 0 then (s.giveSpare c 4 l, true)
    else (s, false)

/-- Lanes whose eyes, in 1/256 UI, are below the 90 that passes (R506). -/
def smallEyes (eyes : List (Nat × Nat)) : List Nat := (eyes.filter (·.2 < 90)).map (·.1)

/-- A training's failing lanes are spared in turn; the result is pass, pass with a spare newly used, or fail (R507). -/
def State.trainLanes (s : State) (c : Fin 8) (failing : List Nat) : State × Bool :=
  let r := failing.foldl (fun (acc : State × Bool) l =>
    if acc.2 then acc.1.spareLane c l else acc) (s, true)
  let newly := decide (r.1.spareMap c ≠ s.spareMap c)
  (r.1.setObj (ck8 0x510018 c) (if !r.2 then 3 else if newly then 2 else 1), r.2)

/-- Spare rows used in a bank group of a channel (R513, R528). -/
def State.sparesUsed (s : State) (c : Fin 8) (g : Nat) : Nat := field (s.obj (ck8 0x510012 c)) (8 * g) 8

/-- Page that a physical row belongs to, for the channels that the map is built for (R512, R518). -/
def State.pageOf (s : State) (c : Fin 8) (row : Nat) : Nat :=
  let p := chanList s.stack.mapped
  (row * p.length + (p.findIdx? (· = c.val)).getD 0) / 8

/-- A row takes the next spare row of its bank group, with `poison` the words whose read still fails (R513, R525). -/
def State.spareRow (s : State) (c : Fin 8) (bank row : Nat) (poison : List Nat) : State :=
  let g := bank / 4
  let used := s.sparesUsed c g
  let s := s.setObj (ck8 0x510012 c) (putField (s.obj (ck8 0x510012 c)) (8 * g) 8 (used + 1))
  let r := s.mram.repair
  let s := s.modMram fun mr => { mr with repair := { r with rows := r.rows ++ [(c.val, bank, row, used)] } }
  let s := s.modStack fun k => { k with poison := (k.poison ++ poison).eraseDups }
  ((((s.bumpN (ck8 0x51000B c) poison.length).bump 0x520042).event 0x520002 2).raise 162 c.val (stackDetail (poison.headD 0))).modChan c
    fun ch => { ch with rowFails := dropKey ch.rowFails (bank * 65536 + row) }

/-- A row without a spare marks its page pending; a page beyond the budget marks the channel RETIRING (R511, R514, R517). -/
def State.pendPage (s : State) (c : Fin 8) (bank row : Nat) : State :=
  let page := s.pageOf c row
  if (s.stack.pending ++ s.stack.retiring ++ s.mram.repair.pages).any fun p => p.2.2 = page then s
  else
    let s := s.modStack fun k => { k with pending := k.pending ++ [(c.val, bank, page)] }
    let s := ((s.setObj 0x520004 (s.obj 0x520004 + 1)).setBit 0x520001 3 true).event 0x520002 3
    let s := s.raise 163 c.val (stackDetail (page * 0x80000))
    let n := ((s.stack.pending ++ s.stack.retiring ++ s.mram.repair.pages).filter (·.1 = c.val)).length
    if s.pageBudget < n then s.setBit (ck8 0x51001A c) 0 true else s

/-- A row that needs a spare takes one, or its page is marked pending (R513, R514). -/
def State.repairRow (s : State) (c : Fin 8) (bank row : Nat) (poison : List Nat) : State :=
  if s.sparesUsed c (bank / 4) < 16 then s.spareRow c bank row poison else s.pendPage c bank row

/-- Entry into self-refresh begins: no request is accepted, and every queued one fails (R487, R488). -/
def State.enterSelfRefresh (s : State) (byCommand : Bool) : State :=
  if s.stack.sr = .off ∨ s.stack.sr = .leaving then
    let s := (List.finRange 8).foldl (fun s c => s.failQueue c true) s
    s.modStack fun k => { k with sr := .entering, byCommand := byCommand }
  else s

end Sys2Proof.Machine
end

