-- ==== Sys2Proof/Machine/Stack.lean ====
section
/-! DEFINITION. The stack's requests, commands, refresh, temperature and self-refresh (R462 to R491). -/

namespace Sys2Proof.Machine

/-- Number of a requester class, in the order of the requesters' table (R469). -/
def classCode : ReqClass → Nat
  | .render => 0 | .ingest => 1 | .capture => 2 | .kaleido => 3 | .predict => 4 | .dma => 5 | .firmware => 6 | .maint => 7

/-- Time reaches stack clock `k`. -/
def State.stackAt (s : State) (k : Nat) : State := s.tick (ofStackClock k)

/-- A request of a class to a channel is answered with an error response (R489, R491, R519, R520, R522, R524). -/
def State.requestFails (s : State) (cls : Nat) (c : Fin 8) : Bool :=
  !s.timing || decide (s.stack.sr ≠ .off) || (s.bit 0x520001 1 && cls ≠ 7) || s.bit 0x520001 2 || s.bit 0x520001 4 ||
    decide (s.obj 0x520015 ≠ 0) || decide (s.chanState c ≠ 1)

/-- A request that reaches its channel is queued, or waits (R466 to R469, R473). -/
def State.queueRequest (s : State) (c : Fin 8) (k : Nat) (r : StackReq) : State :=
  let ch := s.chan c
  let r := { r with id := ch.nextId }
  let s := s.modChan c fun ch => { ch with nextId := ch.nextId + 1 }
  if hasRoom (if r.write then ch.writes else ch.reads) r.cls && !(ch.waits.any fun w => w.cls = r.cls && w.write = r.write) then
    (s.acceptReq c k r).stackReply .accepted
  else (s.modChan c fun ch => { ch with waits := ch.waits ++ [r] }).stackReply .waits

/-- An address lies in an area of a requester class (R35, R221, R274, R335, R427). -/
def State.ownArea (s : State) (cls a : Nat) : Bool :=
  let within := fun (b size : Nat) => decide (b ≤ a ∧ a < b + size)
  let tables := fun (lo hi : Nat) => within (s.tables + lo) (hi - lo)
  match cls with
  | 0 => within (s.obj 0x200014) (s.obj 0x200015) || tables 0x01000000 0x05900000
  | 1 => within (s.obj 0x200010) (s.obj 0x200011) || within (s.obj 0x200012) (s.obj 0x200013) || tables 0 0x01000000
  | 2 => within (s.obj 0x200016) (s.obj 0x200017)
  | 3 => tables 0x05900000 0x06900000
  | 4 => tables 0x06900000 0x08000000
  | _ => true

/-- A 64-byte access is decoded and answered or queued (R463 to R469, R489); a write outside the areas of its class, which no requester makes, is not taken (R35). -/
def State.request (s : State) (cls port addr : Nat) (write : Bool) (data : Bytes) (mask k : Nat) : State :=
  if !s.inStack addr then s.stackReply .error
  else if write && !s.ownArea cls (addr / 64 * 64) then s
  else
    let a := addr / 64 * 64
    let (c, bank, row) := s.place a
    if s.requestFails cls c then
      (if s.stack.sr ≠ .off then s.bump (ck8 0x500044 c) else s).stackReply .error
    else
      (s.chanAt c k).queueRequest c k {
        id := 0, cls := cls, port := port, write := write, addr := a, mask := mask % 2 ^ 64,
        data := padTo 64 data, since := k, bank := bank, row := row, col := s.column a, missed := false }

/-- STACK_REQUEST: `mask` holds one bit for each byte that a write replaces (R466 to R469, R473, R479, R489, R491). -/
def execStackRequest (cls : ReqClass) (port addr : Nat) (write : Bool) (data : Bytes) (mask k : Nat) (s : State) :
    Host.Outcome State Fault Refusal :=
  .next (State.settle ((s.stackAt k).request (classCode cls) port addr write data mask k))

/-- The channel issues commands at clock `k` (R471, R497, R498, R508, R519, R524). -/
def State.issues (s : State) (c : Fin 8) (k : Nat) : Bool :=
  let ch := s.chan c
  s.timing && decide (s.stack.sr = .off) && decide (s.chanState c = 1) && decide (s.obj 0x520015 = 0) && !s.bit 0x520001 4 &&
    !s.bit 0x520001 2 &&
    ch.replay.isNone && !ch.training && decide (ch.retry.length < 16) && decide (ch.issued ≤ k)

/-- An access of a request; one that reads a poisoned word fails its parity (R496, R513). -/
def State.serve (s : State) (c : Fin 8) (k : Nat) (r : StackReq) : State :=
  match (s.chan c).command r with
  | .activate => s.doActivate c k r
  | .precharge => s.doPrecharge c k r.bank
  | _ =>
    let bad := s.hitsPoison r
    let s := s.doAccess c k r
    if bad then s.startReplay c .readParity r.addr k else s

/-- A refresh command, or the precharge before it. -/
def State.serveRefresh (s : State) (c : Fin 8) (k : Nat) (n : Nat × DramKind) : State :=
  if n.2 = .precharge then s.doPrecharge c k n.1 else s.doRefresh c k n.1

/-- The command of clock `k`: forced refresh, requests in their order, then refresh of an idle bank (R471, R472, R477, R478). -/
def State.issue (s : State) (c : Fin 8) (k : Nat) : State :=
  let s := s.modChan c fun ch => { ch with writeMode := s.inWriteMode ch k }
  match s.nextRefresh (s.chan c) k true with
  | some n => s.serveRefresh c k n
  | none =>
    match s.nextRequest (s.chan c) k with
    | some r => s.serve c k r
    | none =>
      match s.nextRefresh (s.chan c) k false with
      | some n => s.serveRefresh c k n
      | none => s

/-- STACK_COMMAND_ISSUE: what channel `c` issues in stack clock `k`, if anything (R462, R467, R471 to R482, R496, R497). -/
def execStackCommandIssue (c : Fin 8) (k : Nat) (s : State) : Host.Outcome State Fault Refusal :=
  .next (State.settle
    (let s := (s.stackAt k).chanAt c k
     if s.issues c k then s.issue c k else s))

/-- Requests that have reached their target at clock `k` are marked and counted, each once (R470). -/
def State.missTargets (s : State) (c : Fin 8) (k : Nat) : State :=
  let ch := s.chan c
  let late := fun (r : StackReq) => !r.missed && decide (s.urgency k r = 3)
  let flight := ch.retry.filterMap fun m => if k ≤ m.clk then m.req else none
  let hit := (ch.reads ++ ch.writes ++ flight).filter late
  let mark := fun (r : StackReq) => if late r then { r with missed := true } else r
  let s := s.modChan c fun ch => { ch with
    reads := ch.reads.map mark, writes := ch.writes.map mark
    retry := ch.retry.map fun m => if k ≤ m.clk then { m with req := m.req.map mark } else m }
  hit.foldl (fun s r => (s.bump (ck8 (0x500048 + r.cls % 8) c)).event 0x50000F 6) s

/-- TARGET_MISS: the requests of channel `c` that reach urgency 3 (R470). -/
def execTargetMiss (c : Fin 8) (k : Nat) (s : State) : Host.Outcome State Fault Refusal :=
  .next (State.settle (((s.stackAt k).chanAt c k).missTargets c k))

/-- PAGE_IDLE_EXPIRY: a row whose page idle time has passed is closed (R476). -/
def execPageIdleExpiry (c : Fin 8) (bank : Fin 32) (k : Nat) (s : State) : Host.Outcome State Fault Refusal :=
  .next (State.settle
    (let s := (s.stackAt k).chanAt c k
     let b := (s.chan c).bank bank.val
     if s.issues c k && b.row.isSome && !b.fresh && s.idleExpired b k && decide (b.preOk ≤ k) then s.doPrecharge c k bank.val else s))

/-- The refresh interval in 1/128 of a stack clock: the window of 32 ms, or of 16 ms under REF_X2, in 8,192 parts (R477, R484). -/
def State.refreshInterval (s : State) : Nat := if s.bit 0x50000E 0 then 300000 else 600000

/-- When a bank's owed count increments next, in 1/128 of a stack clock: the first time at the bank's offset (R477). -/
def State.nextDue (s : State) (c : Fin 8) (bank : Nat) : Nat :=
  ((s.chan c).bank bank).due.getD (s.stack.incFrom * 128 + bank * (s.refreshInterval / 32))

/-- A bank's owed count increments once its interval has passed, and its next interval is that of the window then in force; at the postpone limit the bank is forced (R477 to R479); quick training refreshes it in time (R508). -/
def State.refreshDue (s : State) (c : Fin 8) (bank k : Nat) : State :=
  let b := (s.chan c).bank bank
  let limit := s.obj 0x500008
  if s.stack.sr ≠ .off ∨ s.chanState c = 3 ∨ 128 * k < s.nextDue c bank then s
  else
    let next := s.nextDue c bank + s.refreshInterval
    let s := s.modChan c fun ch => ch.modBank bank fun b => { b with owed := b.owed + 1, due := some next }
    if (s.chan c).training && decide (limit ≤ b.owed + 1) then s.credit c bank
    else if !b.forced && decide (limit ≤ b.owed + 1) then
      ((s.modChan c fun ch => ch.modBank bank fun b => { b with forced := true }).bump (ck8 0x500040 c)).event 0x50000F 7
    else s

/-- REFRESH_DUE: the refresh interval of a bank has passed at clock `k` (R477 to R479). -/
def execRefreshDue (c : Fin 8) (bank : Fin 32) (k : Nat) (s : State) : Host.Outcome State Fault Refusal :=
  .next (State.settle (((s.stackAt k).chanAt c k).refreshDue c bank.val k))

/-- Every row-disturb table and every throttle is emptied (R480, R481). -/
def State.clearDisturb (s : State) : State :=
  (List.finRange 8).foldl (fun s c => s.modChan c fun ch => { ch with tables := [], throttled := [] }) s

/-- Stack clocks of a refresh window (R477, R484). -/
def State.refreshWindow (s : State) : Nat := if s.bit 0x50000E 0 then 19200000 else 38400000

/-- The next refresh window starts where the one in progress has ended by stack clock `k` (R477, R480, R481). -/
def State.windowStart (s : State) (k : Nat) : State :=
  let next := s.stack.window + s.refreshWindow
  if k < next then s else s.clearDisturb.modStack fun m => { m with window := next }

/-- REFRESH_WINDOW_START (R480, R481). -/
def execRefreshWindowStart (k : Nat) (s : State) : Host.Outcome State Fault Refusal :=
  .next (State.settle ((s.stackAt k).windowStart k))

/-- The highest reading and the die that gives it, the lowest die of equals. -/
def hottest : List Int → Nat → Int × Nat → Int × Nat
  | [], _, best => best
  | x :: t, i, best => hottest t (i + 1) (if best.1 < x then (x, i) else best)

/-- A stage with an event bit is entered at its threshold, and left 2.0 degrees below it (R484); temperatures in Q8.8. -/
def State.tempStage (s : State) (i : Nat) (threshold temp : Int) : State :=
  if s.bit 0x50000E i then (if temp < threshold - 512 then s.setBit 0x50000E i false else s)
  else if threshold ≤ temp then (s.setBit 0x50000E i true).event 0x50000F i
  else s

/-- The trip stage: self-refresh and FAULT; afterwards the time below 93.0 degrees runs (R484, R486). -/
def State.tempTrip (s : State) (temp : Int) (die : Nat) : State :=
  if s.bit 0x50000E 2 then
    s.modStack fun k => { k with cool := if temp < 23808 then some (k.cool.getD s.clk) else none }
  else if 26880 ≤ temp then
    let s := (((s.setBit 0x50000E 2 true).event 0x50000F 2).bump 0x500019).raise 167 die 0
    ((s.modStack fun k => { k with cool := none }).enterSelfRefresh false).enterFault 167
  else s

/-- The stack temperature is read (R483, R484). -/
def State.stackTemp (s : State) (temps : List Int) : State :=
  match temps with
  | [] => s
  | x :: t =>
    let (temp, die) := hottest t 1 (x, 0)
    let s := (s.setObj 0x50000C (toBits 16 temp)).setObj 0x50000D die
    let throttled := s.bit 0x50000E 1
    let s := if throttled then (List.finRange 8).foldl State.noteWait s else s
    let s := (s.tempStage 0 21760 temp).tempStage 1 24320 temp
    let s := if !throttled && s.bit 0x50000E 1 then
        (List.finRange 8).foldl (fun s c => s.modChan c fun ch => { ch with ingest := 0, capture := 0 }) s else s
    s.tempTrip temp die

/-- STACK_TEMP_READING: the readings of the dies in Q8.8, die 0 first (R483 to R486). -/
def execStackTempReading (temps : List Int) (t : Nat) (s : State) : Host.Outcome State Fault Refusal :=
  .next (State.settle ((s.tick t).stackTemp temps))

/-- A 64 us window of a channel ends, and counts once where a throttled class has waited in it (R485). -/
def State.thermalWindow (s : State) (c : Fin 8) : State :=
  let s := s.noteWait c
  (if (s.chan c).waited then s.bump (ck8 0x500045 c) else s).modChan c fun ch =>
    { ch with ingest := 0, capture := 0, waited := false }

/-- THERMAL_THROTTLE_WINDOW (R485). -/
def execThermalThrottleWindow (k : Nat) (s : State) : Host.Outcome State Fault Refusal :=
  .next (State.settle ((List.finRange 8).foldl State.thermalWindow (s.stackAt k)))

/-- Self-refresh begins to be left (R490). -/
def State.leaveSelfRefresh (s : State) : State := s.modStack fun k => { k with sr := .leaving, leftAt := s.stackNow }

/-- OVERTEMP_RECOVERY: the stack has been below 93.0 degrees for 1 s since a trip (R486, R490). -/
def execOvertempRecovery (t : Nat) (s : State) : Host.Outcome State Fault Refusal :=
  .next (State.settle
    (let s := s.tick t
     match s.stack.cool with
     | some c =>
       if s.bit 0x50000E 2 && decide (s.stack.sr = .on) && decide (c + 500000000 ≤ s.clk) then s.leaveSelfRefresh else s
     | none => s))

/-- A write of 1 to the self-refresh command (R487). -/
def State.selfRefreshEnterOp (s : State) : Answer :=
  s.unless (firstAbort [(s.engineState ≠ 0, 0x08000022)]) fun s => s.enterSelfRefresh true

/-- SELF_REFRESH_ENTER (R487, R488). -/
def execSelfRefreshEnter (via : Via) (t : Nat) (s : State) : Host.Outcome State Fault Refusal :=
  .next (State.settle ((s.tick t).access via 0x50000B State.selfRefreshEnterOp))

/-- A write of 2 to the self-refresh command (R490). -/
def State.selfRefreshExitOp (s : State) : Answer :=
  s.unless (firstAbort [(s.engineState ≠ 0, 0x08000022)]) fun s =>
    if s.stack.sr = .on then s.leaveSelfRefresh else s

/-- SELF_REFRESH_EXIT (R490). -/
def execSelfRefreshExit (via : Via) (t : Nat) (s : State) : Host.Outcome State Fault Refusal :=
  .next (State.settle ((s.tick t).access via 0x50000B State.selfRefreshExitOp))

/-- Every channel in a state enters another. -/
def State.moveChannels (s : State) (old new : Nat) : State :=
  (List.finRange 8).foldl (fun s c => if s.chanState c = old then s.setObj (ck8 0x500020 c) new else s) s

/-- Every bank is precharged, and nothing is left in a retry buffer (R488). -/
def State.prechargeAll (s : State) : State :=
  (List.finRange 8).foldl (fun s c => s.modChan c fun ch => { ch with
    banks := (ch.banks.map fun b => (b.1, { b.2 with row := none, fresh := false })).filter fun b => b.2 ≠ StackBank.idle
    retry := [], replay := none, training := false }) s

/-- SELF_REFRESH_ENTRY_DONE: the stack is in self-refresh (R488). -/
def execSelfRefreshEntryDone (t : Nat) (s : State) : Host.Outcome State Fault Refusal :=
  .next (State.settle
    (let s := s.tick t
     if s.stack.sr = .entering then
       let s := (s.prechargeAll.moveChannels 1 2).modStack fun k => { k with sr := .on }
       ((s.setBit 0x50000E 3 true).event 0x50000F 3).bump 0x500018
     else s))

/-- Owed counts, tables and throttles are reset, and a refresh window starts at stack clock `k` (R477, R490). -/
def State.resetChannels (s : State) (k : Nat) : State :=
  let s := (List.finRange 8).foldl (fun s c => s.modChan c fun ch => { ch with
    banks := [], tables := [], throttled := [], acts := [], access := [], wrote := [] }) s
  s.modStack fun m => { m with window := k, incFrom := k }

/-- Lanes of a channel whose eyes are too small, of the eyes of several channels (R506). -/
def lanesOf (eyes : List (Fin 8 × Nat × Nat)) (c : Fin 8) : List Nat := smallEyes ((eyes.filter (·.1 = c)).map (·.2))

/-- Quick training of a channel with the eyes that it measures (R507, R516). -/
def State.quickTrain (s : State) (eyes : List (Fin 8 × Nat × Nat)) (c : Fin 8) : State :=
  if s.chanState c = 3 then s
  else
    let r := s.trainLanes c (lanesOf eyes c)
    if r.2 then r.1 else r.1.retireNow c

/-- The 150 ns of tXS have passed since self-refresh began to be left (R462, R490). -/
def State.exitWaited (s : State) (k : Nat) : Bool := decide (s.stack.leftAt + stackClocks 150 ≤ k)

/-- SELF_REFRESH_EXIT_DONE: exit with quick training, `eyes` by channel and lane; OVERTEMP ends with it (R462, R484, R490, R506, R508). -/
def execSelfRefreshExitDone (eyes : List (Fin 8 × Nat × Nat)) (k : Nat) (s : State) : Host.Outcome State Fault Refusal :=
  .next (State.settle
    (let s := s.stackAt k
     if s.stack.sr = .leaving && s.exitWaited k then
       let s := ((s.resetChannels k).moveChannels 2 1).modStack fun m => { m with sr := .off, byCommand := false, cool := none }
       let s := ((s.setBit 0x50000E 3 false).setBit 0x50000E 2 false).event 0x50000F 4
       (List.finRange 8).foldl (fun s c => s.quickTrain eyes c) s
     else s))

/-- A write of the address-map order for the next reset (R465). -/
def State.mapOrderOp (value : Nat) (s : State) : Answer :=
  s.unless (firstAbort [(s.engineState ≠ 0, 0x08000022), (3 < value, 0x06090030)]) fun s =>
    s.modMram fun mr => { mr with mapOrder := value }

/-- ADDRESS_MAP_WRITE (R465). -/
def execAddressMapWrite (via : Via) (value : Nat) (s : State) : Host.Outcome State Fault Refusal :=
  .next (State.settle (s.access via 0x500001 (State.mapOrderOp value)))

end Sys2Proof.Machine
end

