-- ==== Sys2Proof/Machine/BusAccess.lean ====
section
/-! DEFINITION. Bus reads and writes of SRAM and the stack, with the writes that a block's rules discard (R36 to R38, R275, R335, R361, R427, R534 to R538, R489, R503). -/

namespace Sys2Proof.Machine

/-- An address lies in SRAM (R36, R531). -/
def inSram (a : Nat) : Bool := a < 0x02800000

/-- The engine is in ARMED, PRINTING, DRAINING or HOLD, and `o` is an offset of the tables and checkpoints region that is then protected (R275, R335, R427). -/
def State.jobProtected (s : State) (o : Nat) : Bool :=
  s.inJobState &&
    ((0x01000000 ≤ o && o < 0x03480000) || (0x034C0000 ≤ o && o < 0x05500000) || (0x05700000 ≤ o && o < 0x08000000))

/-- Camera whose frame region holds an address, and whether that address lies in one of its HELD slots (R348, R361). -/
def State.camOfAddr (s : State) (a : Nat) : Option (Fin 2 × Bool) :=
  let base := s.obj 0x200016
  let half := s.obj 0x200017 / 2
  if a < base ∨ base + 2 * half ≤ a ∨ half = 0 then none
  else
    let c : Fin 2 := if a < base + half then 0 else 1
    let i := (a - base - c.val * half) / s.camSlotSize c
    some (c, decide (i < s.camSlots c) && decide ((s.camSlot c i).st = 6))

/-- A bus write to an address is discarded with a normal response (R119, R275, R306, R335, R361, R427). -/
def State.busDiscards (s : State) (a : Nat) : Bool :=
  if a < 0x1000000000 then false
  else
    let o := a - s.tables
    if s.tables ≤ a ∧ o < 0x08000000 then
      s.jobProtected o || (decide (0x03480000 ≤ o ∧ o < 0x034C0000) && s.locked) || decide (0x05500000 ≤ o ∧ o < 0x05700000)
    else match s.camOfAddr a with
      | some (_, held) => !held
      | none => false

/-- What a discarded bus write reports (R119, R306, R361). -/
def State.busRefused (s : State) (a : Nat) : State :=
  let o := a - s.tables
  if s.tables ≤ a ∧ o < 0x08000000 then
    if 0x03480000 ≤ o ∧ o < 0x034C0000 then s.lockedWrite
    else if 0x05500000 ≤ o ∧ o < 0x05700000 then s.event (0x380008 + (o - 0x05500000) / 0x10000 % 16 * 0x100) 7
    else s
  else match s.camOfAddr a with
    | some (c, _) => s.event (ck 0x400027 c) 11
    | none => s

/-- Bytes stored on the bus from address `a`; words written whole lose their errors, and queued writes to them are earlier (R475, R513, R537). -/
def State.busStore (s : State) (a : Nat) (d : Bytes) : State :=
  let s := s.setBytes a d
  if inSram a then (s.clearBad a d.length).restage a d.length else s.afterQueued a d

/-- Bytes written on the bus from address `a`, those that a rule discards left out (R119, R275, R306, R335, R361, R427). -/
def State.busPut (s : State) (a : Nat) (d : Bytes) : State :=
  if s.busDiscards a then s.busRefused a else s.busStore a d

/-- A stack access of a class to an address ends with an error response: the state after it, or none where the access is made (R489, R491, R503, R513). -/
def State.stackError (s : State) (cls a n : Nat) : Option State :=
  let c := (s.place a).1
  if s.requestFails cls c then
    some (if s.stack.sr ≠ .off then s.bump (ck8 0x500044 c) else s)
  else if s.stack.poison.any fun w => decide (w < a + n) && decide (a < w + 4) then
    some (((s.bump (ck8 0x510006 c)).modChan c fun ch => { ch with retests := ch.retests ++ [(a / 64 * 64, s.stackNow)] }))
  else none

/-- A word of SRAM is read for an access of `n` bytes at `a`: false where its error cannot be corrected (R536 to R538). -/
def State.readSram (s : State) (a n : Nat) (ecc : EccFind) : State × Bool :=
  let s := if ecc = .double then s.markWord a true else s
  match s.badWord a n with
  | some w => (s.sramUncorrectable w, false)
  | none => (if ecc = .single then s.sramCorrected else s, true)

/-- A system write to a word that the real-time port writes in the same clock is lost (R534). -/
def State.collision (s : State) (a : Nat) : State :=
  let s := (s.bump 0x58000F).event 0x580009 2
  if s.obj 0x58000B = 0xFFFFFFFF then s.setObj 0x58000B a else s

/-- A write of `n` bytes to SRAM; `collide` counts its collisions, and `ecc` is what the read of a narrower write finds (R534, R535, R538). -/
def State.writeSram (s : State) (master : Master) (a : Nat) (d : Bytes) (collide : Nat) (ecc : EccFind) : State × Resp :=
  let made := fun (s : State) => (s.busPut a d, Resp.busDone)
  let r := if d.length = 8 then (s, true) else s.readSram a d.length ecc
  if !r.2 then (r.1, .errorResponse)
  else if collide = 0 ∨ master = .maint then made r.1
  else
    let s := r.1.collision a
    match master with
    | .firmware => (s, .busDone)
    | _ => if collide = 1 then made s else (s.collision a, .errorResponse)

/-- Requester class of a bus master (R466). -/
def masterClass : Master → Nat
  | .maint => 7
  | _ => 6

/-- An access to SRAM or the stack that decodes (R36, R38). -/
def memoryDecodes (s : State) (a width : Nat) : Bool :=
  (width = 1 || width = 2 || width = 4 || width = 8) && a % width = 0 && (inSram a || s.inStack a)

/-- The register blocks' windows (R36). -/
def inRegisters (a : Nat) : Bool :=
  (0x10100000 ≤ a && a < 0x10110000) || (0x10200000 ≤ a && a < 0x10208000) || (0x10300000 ≤ a && a < 0x10300800) ||
  (0x10400000 ≤ a && a < 0x10430000) || (0x10500000 ≤ a && a < 0x10500400) || (0x10510000 ≤ a && a < 0x10510400) ||
  (0x10600000 ≤ a && a < 0x10620000) || (0x10700000 ≤ a && a < 0x10720000) || (0x10800000 ≤ a && a < 0x10810000) ||
  (0x10900000 ≤ a && a < 0x10910000) || (0x10A00000 ≤ a && a < 0x10A10000) || (0x10B00000 ≤ a && a < 0x10B10000)

/-- A byte lies in the area of scores, mutes and gain accumulators or in the prediction workspace, and the analyser has used them (R427). -/
def State.workByte (s : State) (a : Nat) : Bool :=
  s.analyser.worked && decide (s.tables ≤ a) &&
    ((0x06900000 ≤ a - s.tables && a - s.tables < 0x06B00000) || (0x06C00000 ≤ a - s.tables && a - s.tables < 0x08000000))

/-- The spec does not state what byte `a` holds: the analyser's own areas, and MAINT's staging area (R427, R532). -/
def State.openByte (s : State) (a : Nat) : Bool := s.workByte a || s.stagedByte a

/-- Byte `i` of a bus read, at address `a`: free where the spec does not state it, else that of the latest write accepted (R427, R475, R532). -/
def State.memByte (s : State) (i a : Nat) : Byte :=
  if s.openByte a then Config.freeByte (s.draws + i) else if inSram a then s.byte a else s.latestByte a

/-- What a bus read of `n` bytes at `a` returns. -/
def State.memRead (s : State) (a n : Nat) : Bytes × State :=
  ((List.range n).map fun i => s.memByte i (a + i),
    if (List.range n).any fun i => s.openByte (a + i) then { s with draws := s.draws + n } else s)

/-- One access to SRAM or the stack, with its response (R36 to R38, R489, R534 to R538). -/
def State.memoryAccess (s : State) (master : Master) (write : Bool) (a width value collide : Nat) (ecc : EccFind) : State × Resp :=
  if !memoryDecodes s a width then (s, .decodeError)
  else
    let d := leBytes width value
    if inSram a then
      if write then s.writeSram master a d collide ecc
      else
        let r := s.readSram a width ecc
        if r.2 then ((r.1.memRead a width).2, .busData (leNat (r.1.memRead a width).1)) else (r.1, .errorResponse)
    else if write then
      match if s.requestFails (masterClass master) (s.place a).1 || width < 4 then s.stackError (masterClass master) a width else none with
      | some s => (s, .errorResponse)
      | none => (((s.countRmw a width).touchAll (masterClass master) a width).busPut a d, .busDone)
    else
      match s.stackError (masterClass master) a width with
      | some s => (s, .errorResponse)
      | none => ((s.memRead a width).2.touchAll (masterClass master) a width, .busData (leNat (s.memRead a width).1))

/-- MEMORY_ACCESS: `collide` is how many times a write to SRAM collides, 2 where its repeat does too, and `ecc` what the read of its word finds; a register address of the right width is no access of this row (R36 to R38, R489, R531 to R538). -/
def execMemoryAccess (master : Master) (write : Bool) (addr width value collide : Nat) (ecc : EccFind) (s : State) :
    Host.Outcome State Fault Refusal :=
  .next (State.settle
    (if inRegisters addr && width = 4 && addr % 4 = 0 then s
     else
       let r := s.memoryAccess master write addr width value collide ecc
       r.1.answer r.2))

end Sys2Proof.Machine
end

