-- ==== Sys2Proof/Machine/Camera.lean ====
section
/-! DEFINITION. Camera capture: frames and packets, triggers, sensor settings, held frames and reprocessing (09_camera_capture.md). -/

namespace Sys2Proof.Machine

/-- Capture of a camera is enabled; both ports stop with the reference clock (R364). -/
def State.capturing (s : State) (c : Fin 2) : Bool := s.timing && decide (s.obj (ck 0x400001 c) = 1)

/-- A write of the capture enable (R351). -/
def captureEnableOp (c : Fin 2) (v : Nat) (s : State) : Answer :=
  if 1 < v then s.refuse 0x06090030
  else if v = 1 then
    if s.camSlots c < 5 || s.camWidth c % dtStep (s.obj (ck 0x400005 c)) ≠ 0 then
      (s.event (ck 0x400027 c) 11).refuse 0x06090030
    else (((s.setObj (ck 0x400001 c) 1).modCamera c fun q =>
      if s.capturing c then q else { q with startAt := s.clk }).camSync c).accept
  else
    let s := match (s.camera.get c).frame.bind CamFrame.slot with
      | some i => s.setCamSlot c i 0
      | none => s
    let s := (s.setObj (ck 0x400001 c) 0).modCamera c fun q => { q with frame := none, aborted := false }
    (s.camSync c).accept

/-- CAPTURE_ENABLE (R351). -/
def execCaptureEnable (via : Via) (c : Fin 2) (value t : Nat) (s : State) : Host.Outcome State Fault Refusal :=
  .next (State.settle ((s.tick t).access via (ck 0x400001 c) (captureEnableOp c value)))

/-- What the header's check leaves of a packet: counted, and an open frame damaged, where it cannot be corrected (R341). -/
def State.headerEcc (s : State) (c : Fin 2) (e : EccFind) : State :=
  match e with
  | .clean => s
  | .single => s.bump (ck 0x400047 c)
  | .double => (s.bump (ck 0x400048 c)).modCamera c fun q =>
      { q with frame := q.frame.map fun f => { f with damaged := true } }

/-- A packet passes its header's check and is on the selected virtual channel; if it is not, it is counted as unknown (R341). -/
def State.packetTaken (s : State) (c : Fin 2) (vc : Nat) (e : EccFind) : Bool :=
  e ≠ .double && vc = s.obj (ck 0x400004 c)

/-- A packet that is dropped at its header (R341). -/
def State.packetDropped (s : State) (c : Fin 2) (e : EccFind) : State :=
  if e = .double then s else s.bump (ck 0x40004A c)

/-- The frame pairs with the latest trigger edge since the previous frame start; earlier ones are missed (R345, R347). -/
def State.pairTrigger (s : State) (c : Fin 2) : Tag × Bool × State :=
  let q := s.camera.get c
  let missed := q.edges - 1
  let s := s.modCamera c fun q => { q with edge := none, edges := 0 }
  let s := (s.bumpN (ck 0x40004C c) missed).eventIf (missed ≠ 0) (ck 0x400027 c) 10
  match q.edge with
  | some e => (e, true, s)
  | none => (s.tagNow, false, s)

/-- The settings that are in force from frame `no` on (R357, R358). -/
def State.settingsAt (s : State) (c : Fin 2) (no : Nat) : State :=
  let q := s.camera.get c
  let due := match q.setAcked with
    | some (d, clears) => q.setDue ++ [((no + s.obj (ck 0x400013 c)) % 2 ^ 32, leAt d 0 4, sub d 8 32, clears)]
    | none => q.setDue
  let s := if q.unknownDue then s.setBit (ck 0x400020 c) 5 true else s
  let s := s.modCamera c fun q => { q with setAcked := none, unknownDue := false, setDue := due }
  (due.filter fun d => d.1 = no).foldl (fun s d =>
    let s := s.modCamera c fun q => { q with
      setId := d.2.1, tags := d.2.2.1, setDue := q.setDue.filter fun e => e.1 ≠ no }
    let s := if d.2.2.2 then s.setBit (ck 0x400020 c) 5 false else s
    s.event (ck 0x400027 c) 9) s

/-- A frame opens: number, settings, tag and slot, or an overrun (R342, R345, R347, R357, R363). -/
def State.openFrame (s : State) (c : Fin 2) (fn : Nat) : State :=
  let no := ((s.camera.get c).frameNo + 1) % 2 ^ 32
  let s := s.modCamera c fun q => { q with frameNo := no, aborted := false, startAt := s.clk }
  let s := (s.setBit (ck 0x400020 c) 2 false).settingsAt c no
  let s := s.setObj (ck 0x400026 c) (s.camera.get c).setId
  let (tag, paired, s) := s.pairTrigger c
  let slot := s.nextSlot c
  let q := s.camera.get c
  let f : CamFrame :=
    { slot := slot, no := no, startAt := s.clk, tag := tag, triggered := paired, sensorFn := fn, setId := q.setId,
      tags := q.tags, unknown := s.bit (ck 0x400020 c) 5, damaged := false, emb := 0, lines := 0 }
  let s := s.modCamera c fun q => { q with frame := some f }
  match slot with
  | none => (s.bump (ck 0x400046 c)).event (ck 0x400027 c) 6
  | some i => s.modCamera c fun q => { q with
      lastSlot := i, slots := putKey q.slots i { st := 1, frame := no } }

/-- A frame start packet: a frame still open ends first (R342, R344). -/
def State.frameStart (s : State) (c : Fin 2) (vc fn : Nat) (e : EccFind) : State :=
  if !s.capturing c then s
  else
    let s := s.headerEcc c e
    if s.packetTaken c vc e then ((((s.frameWatchdog c).endFrame c true).openFrame c (fn % 65536)).camSync c)
    else s.packetDropped c e

/-- FRAME_START (R342). -/
def execFrameStart (c : Fin 2) (vc fn : Nat) (ecc : EccFind) (t : Nat) (s : State) :
    Host.Outcome State Fault Refusal :=
  .next (State.settle ((s.tick t).frameStart c vc fn ecc))

/-- The frame in progress is changed. -/
def State.modFrame (s : State) (c : Fin 2) (f : CamFrame → CamFrame) : State :=
  s.modCamera c fun q => { q with frame := q.frame.map f }

/-- Address of line `i` of a slot's lines at the line stride (R343, R348). -/
def State.lineAddr (s : State) (c : Fin 2) (slot i : Nat) : Nat := s.camSlotAddr c slot + 4096 + i * s.lineBytes c

/-- The write of line `i` of a slot is made (R37, R489, R491, R503). -/
def State.lineOk (s : State) (c : Fin 2) (slot i : Nat) : Bool := s.writeOk (s.lineAddr c slot i) (s.lineBytes c)

/-- Stores line `i` of the slot's lines at the line stride, cut or padded to it, where the write is made (R343, R348, R503). -/
def State.storeLine (s : State) (c : Fin 2) (slot i : Nat) (d : Bytes) : State :=
  let a := s.lineAddr c slot i
  (if s.lineOk c slot i then s.touchAll 2 a (s.lineBytes c) else s).stackPut a (padTo (s.lineBytes c) d)

/-- Index in the slot of the line that a packet would store, none where it stores none (R343, R344). -/
def State.nextLine (s : State) (c : Fin 2) (f : CamFrame) (image : Bool) (d : Bytes) : Option Nat :=
  if image then (if f.lines < s.camLines c ∧ d.length = s.lineBytes c then some (s.camEmb c + f.lines) else none)
  else if f.lines = 0 ∧ f.emb < s.camEmb c then some f.emb else none

/-- The packet's line ends with an error response (R503). -/
def State.lineFails (s : State) (c : Fin 2) (f : CamFrame) (slot : Nat) (image : Bool) (d : Bytes) : Bool :=
  match s.nextLine c f image d with
  | some i => !s.lineOk c slot i
  | none => false

/-- An embedded packet of an open frame (R343). -/
def State.embeddedLine (s : State) (c : Fin 2) (f : CamFrame) (slot : Nat) (d : Bytes) : State :=
  if f.lines = 0 ∧ f.emb < s.camEmb c then
    (s.storeLine c slot f.emb d).modFrame c fun f => { f with emb := f.emb + 1 }
  else s

/-- An image packet of an open frame (R341, R343, R344). -/
def State.imageLine (s : State) (c : Fin 2) (f : CamFrame) (slot : Nat) (d : Bytes) : State :=
  let s := if f.lines < s.camLines c ∧ d.length = s.lineBytes c then s.storeLine c slot (s.camEmb c + f.lines) d else s
  let bad := d.length ≠ s.lineBytes c
  s.modFrame c fun f => { f with lines := min (f.lines + 1) (s.camLines c + 1), damaged := f.damaged || bad }

/-- Line start, line end and generic short packets, which are accepted and ignored (R339). -/
def ignoredType (dt : Nat) : Bool := dt = 2 || dt = 3 || (8 ≤ dt && dt ≤ 15)

/-- A packet of the image stream: stored, dropped, or an orphan (R341, R343, R503). -/
def State.streamPacket (s : State) (c : Fin 2) (image : Bool) (d : Bytes) (crcOk wrErr : Bool) : State :=
  match (s.camera.get c).frame with
  | none => if (s.camera.get c).aborted then s else s.bump (ck 0x40004B c)
  | some f =>
    match f.slot with
    | none => s
    | some i =>
      let s := if crcOk then s else s.bump (ck 0x400049 c)
      let bad := !crcOk || wrErr || s.lineFails c f i image d
      let s := if wrErr then s.modFrame c fun f => { f with lines := min (f.lines + b2n image) (s.camLines c + 1) }
        else if image then s.imageLine c f i d else s.embeddedLine c f i d
      s.modFrame c fun f => { f with damaged := f.damaged || bad }

/-- A packet of a camera other than a frame start or frame end (R339 to R343). -/
def State.cameraPacket (s : State) (c : Fin 2) (vc dt : Nat) (d : Bytes) (e : EccFind) (crcOk wrErr : Bool) : State :=
  if !s.capturing c then s
  else
    let s := (s.frameWatchdog c).headerEcc c e
    if !s.packetTaken c vc e then s.packetDropped c e
    else if ignoredType dt then s
    else if dt = s.obj (ck 0x400005 c) then s.streamPacket c true d crcOk wrErr
    else if dt = 0x12 && s.camEmb c ≠ 0 then s.streamPacket c false d crcOk wrErr
    else s.bump (ck 0x40004A c)

/-- CAMERA_PACKET (R343). -/
def execCameraPacket (c : Fin 2) (vc dt : Nat) (payload : Bytes) (ecc : EccFind) (crcOk wrErr : Bool) (t : Nat)
    (s : State) : Host.Outcome State Fault Refusal :=
  .next (State.settle (((s.tick t).cameraPacket c vc dt payload ecc crcOk wrErr).camSync c))

/-- A frame end packet (R344). -/
def State.frameEndPacket (s : State) (c : Fin 2) (vc : Nat) (e : EccFind) : State :=
  if !s.capturing c then s
  else
    let s := s.headerEcc c e
    if s.packetTaken c vc e then ((s.frameWatchdog c).endFrame c false).camSync c else s.packetDropped c e

/-- FRAME_END (R344). -/
def execFrameEnd (c : Fin 2) (vc : Nat) (ecc : EccFind) (t : Nat) (s : State) : Host.Outcome State Fault Refusal :=
  .next (State.settle ((s.tick t).frameEndPacket c vc ecc))

/-- FRAME_WATCHDOG (R344). -/
def execFrameWatchdog (c : Fin 2) (t : Nat) (s : State) : Host.Outcome State Fault Refusal :=
  .next (State.settle (if s.timing then ((s.tick t).frameWatchdog c).camSync c else s))

/-- WEB_TRIGGER (R346). -/
def execWebTrigger (c : Fin 2) (t : Nat) (s : State) : Host.Outcome State Fault Refusal :=
  .next (State.settle ((s.tick t).webTrigger c))

/-- A write of the trigger command; no timing clock passes without the reference clock (R346, R364). -/
def triggerCommandOp (c : Fin 2) (v : Nat) (s : State) : Answer :=
  if 1 < v then s.refuse 0x06090030
  else (if v = 1 && s.timing && s.obj (ck 0x40000B c) = 2 then s.pulse c else s).accept

/-- TRIGGER_COMMAND (R346). -/
def execTriggerCommand (via : Via) (c : Fin 2) (value t : Nat) (s : State) : Host.Outcome State Fault Refusal :=
  .next (State.settle ((s.tick t).access via (ck 0x40000F c) (triggerCommandOp c value)))

/-- The trigger width ends (R346). -/
def State.endPulse (s : State) (c : Fin 2) : State :=
  match (s.camera.get c).trigEnd with
  | some e => if e ≤ s.clk then s.modCamera c fun q => { q with trigEnd := none } else s
  | none => s

/-- TRIGGER_PULSE_END (R346). -/
def execTriggerPulseEnd (c : Fin 2) (t : Nat) (s : State) : Host.Outcome State Fault Refusal :=
  .next (State.settle ((s.tick t).endPulse c))

/-- Entry `e` of a settings set keeps the layout (R355). -/
def setEntryOk (d : Bytes) (e : Nat) : Bool :=
  let z := leAt d (0x2A + 8 * e) 1
  (z = 1 || z = 2 || z = 4) && leAt d (0x2B + 8 * e) 1 = 0

/-- A settings set keeps the layout of R355. -/
def setOk (d : Bytes) : Bool :=
  let n := leAt d 4 2
  leAt d 0 4 ≠ 0 && 1 ≤ n && n ≤ 32 && leAt d 6 2 = 0 && d.length = 0x28 + 8 * n && (List.range n).all (setEntryOk d)

/-- A settings set is posted (R355, R356). -/
def settingsSetOp (c : Fin 2) (d : Bytes) (s : State) : Answer :=
  s.unless (firstAbort [(!setOk d, 0x06090030)]) fun s =>
    let s := if (s.camera.get c).setPending.isSome then s.bump (ck 0x40004E c) else s
    ((s.setDomain (ck 0x400014 c) d).modCamera c fun q => { q with setPending := some d }).camSync c

/-- SETTINGS_SET_WRITE (R356). -/
def execSettingsSetWrite (c : Fin 2) (data : Bytes) (s : State) : Host.Outcome State Fault Refusal :=
  .next (State.settle (s.access .sdo (ck 0x400014 c) (settingsSetOp c data)))

/-- A transfer of a settings set ends (R354, R356 to R358). -/
def State.setTransfer (s : State) (c : Fin 2) (d : Bytes) (i : Nat) (again : Bool) : CciEnd → State
  | .done _ =>
    if i + 1 < leAt d 4 2 then s.modCamera c fun q => { q with setWriting := some (d, i + 1, false) }
    else s.modCamera c fun q => { q with setWriting := none, setAcked := some (d, true) }
  | .failed =>
    if !again then s.modCamera c fun q => { q with setWriting := some (d, i, true) }
    else
      let s := s.modCamera c fun q => { q with
        setWriting := none, unknownDue := true, setAcked := q.setAcked.map fun e => (e.1, false), setDue := q.setDue.map fun e => (e.1, e.2.1, e.2.2.1, false) }
      ((s.event (ck 0x400027 c) 8).bump (ck 0x40004D c)).raise 152 c.val 0

/-- A direct transfer ends (R354, R359). -/
def State.directTransfer (s : State) (c : Fin 2) (v : Nat) (again : Bool) : CciEnd → State
  | .done data =>
    let s := s.modCamera c fun q => { q with direct := none }
    if v.testBit 18 then s.setObj (ck 0x400015 c) (v % 2 ^ 32 + (data % 2 ^ (8 * 2 ^ field v 16 2)) * 2 ^ 32) else s
  | .failed =>
    if !again then s.modCamera c fun q => { q with direct := some (v, true) }
    else (s.modCamera c fun q => { q with direct := none }).bump (ck 0x40004D c)

/-- A direct transfer that waits runs where no set is being written (R359). -/
def State.cciNext (s : State) (c : Fin 2) : State :=
  s.modCamera c fun q => { q with directOn := q.direct.isSome && (q.directOn || q.setWriting.isNone) }

/-- What the CCI bus carries in a transfer: the sensor's address, the register address, whether the master reads, and the data, in the order in which the bytes are sent or received (R354). -/
structure CciFrame where
  sensor : Nat
  reg : Bytes
  read : Bool
  data : Bytes
  deriving DecidableEq, Repr

/-- A register address and a value of `size` bytes as a camera's CCI bus carries them, each most significant byte first (R354). -/
def State.cciOf (s : State) (c : Fin 2) (addr size v : Nat) (read : Bool) : CciFrame :=
  { sensor := s.obj (ck 0x400010 c), reg := (leBytes (s.obj (ck 0x400012 c)) addr).reverse, read
    data := if read then [] else (leBytes size v).reverse }

/-- The transfer that runs on a camera's CCI bus: the direct one, else entry `i` of the set being written (R354, R355, R359). -/
def State.cciFrame (s : State) (c : Fin 2) : Option CciFrame :=
  let q := s.camera.get c
  match q.directOn, q.direct, q.setWriting with
  | true, some (v, _), _ => some (s.cciOf c (v % 2 ^ 16) (2 ^ field v 16 2) (v / 2 ^ 32) (v.testBit 18))
  | _, _, some (d, i, _) =>
    some (s.cciOf c (leAt d (0x28 + 8 * i) 2) (leAt d (0x2A + 8 * i) 1) (leAt d (0x2C + 8 * i) 4) false)
  | _, _, none => none

/-- The CCI transfer that runs ends: the direct one, else that of the set being written (R354, R359). -/
def State.cciDone (s : State) (c : Fin 2) (e : CciEnd) : State :=
  let q := s.camera.get c
  match q.directOn, q.direct, q.setWriting with
  | true, some (v, again), _ => (s.directTransfer c v again e).cciNext c
  | _, _, some (d, i, again) => (s.setTransfer c d i again e).cciNext c
  | _, _, none => s

/-- CCI_TRANSFER_DONE (R354). -/
def execCciTransferDone (c : Fin 2) (outcome : CciEnd) (t : Nat) (s : State) : Host.Outcome State Fault Refusal :=
  .next (State.settle (if s.timing then ((s.tick t).cciDone c outcome).camSync c else s))

/-- A direct transfer is written (R359). -/
def directOp (c : Fin 2) (v : Nat) (s : State) : Answer :=
  if 2 ^ 64 ≤ v || field v 16 2 = 3 then s.refuse 0x06090030
  else (((s.setObj (ck 0x400015 c) v).modCamera c fun q => { q with direct := some (v, false) }).cciNext c |>.camSync c).accept

/-- DIRECT_TRANSFER (R359). -/
def execDirectTransfer (via : Via) (c : Fin 2) (value : Nat) (s : State) : Host.Outcome State Fault Refusal :=
  .next (State.settle (s.access via (ck 0x400015 c) (directOp c value)))

/-- Slot `i`'s reprocessing is pending or active. -/
def State.reprocessing (s : State) (c : Fin 2) (i : Nat) : Bool := ((s.camera.get c).reproc.map Prod.fst) = some i

/-- A hold mask is refused (R360). -/
def State.holdRefused (s : State) (c : Fin 2) (m : Nat) : Bool :=
  let held := fun i => (s.camSlot c i).st = 6
  decide (2 ^ 64 ≤ m) || decide (s.camSlots c < 5 + popCount 64 m) ||
    (List.range 64).any fun i =>
      if m.testBit i then !(i < s.camSlots c && (s.camSlot c i).st ≥ 4) else held i && s.reprocessing c i

/-- A write of the hold mask (R350, R360). -/
def holdMaskOp (c : Fin 2) (m : Nat) (s : State) : Answer :=
  if s.holdRefused c m then s.refuse 0x06090030
  else
    let s := (List.range 64).foldl (fun s i =>
      if m.testBit i then s.setCamSlot c i 6
      else if (s.camSlot c i).st = 6 then s.setCamSlot c i 5 else s) s
    let gone := fun i => (s.camSlot c i).st = 5
    let s := s.modCamera c fun q => { q with reference := q.reference.filter fun i => !gone i }
    (s.setObj (ck 0x400030 c) m).accept

/-- HOLD_MASK_WRITE (R360). -/
def execHoldMaskWrite (via : Via) (c : Fin 2) (value : Nat) (s : State) : Host.Outcome State Fault Refusal :=
  .next (State.settle (s.access via (ck 0x400030 c) (holdMaskOp c value)))

/-- A slot's frame is queued for reprocessing, with REPROCESS set in its header (R362). -/
def reprocessOp (c : Fin 2) (i : Nat) (s : State) : Answer :=
  if (s.camera.get c).reproc.isSome then s.refuse 0x08000022
  else if s.camSlots c ≤ i || (s.camSlot c i).st ≠ 6 || !s.frameHeaderOk c i then s.refuse 0x06090030
  else
    let a := s.camSlotAddr c i
    let s := s.setNum (a + 7) 1 (putBit (s.num (a + 7) 1) 6 true)
    let s := s.setNum (a + 0x7C) 4 (crc32c (s.bytes a 0x7C))
    (s.modCamera c fun q => { q with reproc := some (i, false) }).accept

/-- REPROCESS (R362). -/
def execReprocess (via : Via) (c : Fin 2) (slot : Nat) (s : State) : Host.Outcome State Fault Refusal :=
  .next (State.settle (s.access via (ck 0x400031 c) (reprocessOp c slot)))

/-- No frame start has arrived for the stall time while printing (R363). -/
def State.cameraStall (s : State) (c : Fin 2) : State :=
  let ms := s.obj (ck 0x40000A c)
  if s.capturing c && ms ≠ 0 && (s.engineState = 3 || s.engineState = 4) && !s.bit (ck 0x400020 c) 2 &&
      decide ((s.camera.get c).startAt + ms * 500000 ≤ s.clk) then
    (((s.setBit (ck 0x400020 c) 2 true).event (ck 0x400027 c) 7).bump (ck 0x40004F c)).raise 153 c.val 0
  else s

/-- CAMERA_STALL (R363). -/
def execCameraStall (c : Fin 2) (t : Nat) (s : State) : Host.Outcome State Fault Refusal :=
  .next (State.settle ((s.tick t).cameraStall c))

end Sys2Proof.Machine
end

