-- ==== Sys2Proof/Machine/Dma.lean ====
section
/-! DEFINITION. The SRAM's clearing and scrub, and the DMA channels (R536 to R555). -/

namespace Sys2Proof.Machine

/-- SCRUB_ON follows the clearing and the interval (R539, R558). -/
def State.scrubSync (s : State) : State :=
  s.setBit 0x580008 1 (s.bit 0x580008 0 && decide (s.obj 0x58000C ≠ 0))

/-- Every word of SRAM is zero with valid check bits (R540). -/
def State.sramCleared (s : State) : State :=
  let s := (s.keepBytes fun a => !inSram a).modSram fun sr => { sr with bad := [] }
  (s.setBit 0x580008 0 true).scrubSync

/-- SRAM_CLEAR_DONE: the clearing that follows a reset completes, once (R540). -/
def execSramClearDone (s : State) : Host.Outcome State Fault Refusal :=
  .next (State.settle (if s.bit 0x580008 0 then s else s.sramCleared))

/-- One word that the scrub reads and finds in error (R536, R537, R539). -/
def State.scrubFound (s : State) (f : Nat × Bool) : State :=
  if f.2 then (s.markWord f.1 true).sramUncorrectable (f.1 / 8 * 8) else s.sramCorrected

/-- SCRUB_STEP: one word of every bank is read; `found` lists those in error, true for one that cannot be corrected (R539). -/
def execScrubStep (found : List (Nat × Bool)) (s : State) : Host.Outcome State Fault Refusal :=
  .next (State.settle
    (if !s.bit 0x580008 1 then s
     else
       let row := s.sram.scrubWord
       let mine := fun (a : Nat) => decide (a / 256 = row)
       let known := (s.sram.bad.filter mine).map fun a => (a, true)
       let new := found.filter fun f => mine f.1 && !s.sram.bad.contains (f.1 / 8 * 8)
       let s := (known ++ new).foldl State.scrubFound s
       s.modSram fun sr => { sr with scrubWord := (row + 1) % 163840 }))

/-- Key of an object of DMA channel `ch`. -/
def dk (k : Key) (ch : Fin 32) : Key := k + ch.val * 0x100

/-- A DMA channel's hidden state is changed. -/
def State.modDma (s : State) (ch : Fin 32) (f : DmaChan → DmaChan) : State :=
  { s with dma := s.dma.set ch (f (s.dma.get ch)) }

/-- BUS_STOPPED (R553). -/
def State.busStopped (s : State) : Bool := s.bit 0x580001 0

/-- A write of 1 to a channel's command (R549). -/
def dmaStartOp (ch : Fin 32) (s : State) : Answer :=
  if s.obj (dk 0x580013 ch) ≠ 0 || s.busStopped then (some 0x08000022, s.event (dk 0x580017 ch) 4)
  else
    ((s.setObj (dk 0x580013 ch) 1).modDma ch fun _ =>
      { fetch := some (s.obj (dk 0x580010 ch)), desc := none, ahead := none }).accept

/-- DMA_START (R549). -/
def execDmaStart (via : Via) (ch : Fin 32) (t : Nat) (s : State) : Host.Outcome State Fault Refusal :=
  .next (State.settle ((s.tick t).access via (dk 0x580011 ch) (dmaStartOp ch)))

/-- Lines of one side of a descriptor: base, stride, length, count (R541, R542). -/
structure Side where
  base : Nat
  stride : Int
  len : Nat
  lines : Nat
  deriving DecidableEq, Repr

/-- Source side of a descriptor. -/
def srcSide (d : Bytes) : Side :=
  { base := leAt d 0 4 + leAt d 8 1 * 2 ^ 32, stride := sx 32 (leAt d 0x10 4), len := leAt d 0x18 2, lines := leAt d 0x1A 2 }

/-- Destination side of a descriptor. -/
def dstSide (d : Bytes) : Side :=
  { base := leAt d 4 4 + leAt d 9 1 * 2 ^ 32, stride := sx 32 (leAt d 0x14 4), len := leAt d 0x1C 2, lines := leAt d 0x1E 2 }

/-- CTRL of a descriptor. -/
def descCtrl (d : Bytes) : Nat := leAt d 0x0A 2

/-- Address of byte `p` of a side's stream; -1 stands for none (R542). -/
def Side.addr (x : Side) (p : Nat) : Int := (x.base : Int) + x.stride * (p / x.len : Nat) + (p % x.len : Nat)

/-- First address of a line. -/
def Side.start (x : Side) (i : Nat) : Int := (x.base : Int) + x.stride * i

/-- The first and the last line's starts bound every line's. -/
def Side.within (x : Side) (lo hi : Nat) : Bool :=
  let a := x.start 0
  let b := x.start (x.lines - 1)
  decide ((lo : Int) ≤ min a b ∧ max a b + x.len ≤ hi)

/-- The lines of a side lie wholly inside the SRAM or wholly inside the populated stack (R545). -/
def State.sideOk (s : State) (x : Side) : Bool :=
  x.within 0 0x02800000 || x.within 0x1000000000 (0x1000000000 + s.populated)

/-- Bytes of a descriptor's stream. -/
def streamLength (d : Bytes) : Nat := (srcSide d).len * (srcSide d).lines

/-- P, the number of planes. -/
def descPlanes (d : Bytes) : Nat := field (descCtrl d) 6 3 + 1

/-- E, the element size. -/
def descElem (d : Bytes) : Nat := 2 ^ field (descCtrl d) 9 2

/-- Shuffle of a descriptor. -/
def descShuffle (d : Bytes) : Nat := field (descCtrl d) 3 3

/-- The shuffle's divisibility conditions fail (R545). -/
def shuffleBad (d : Bytes) : Bool :=
  let n := streamLength d
  let p := descPlanes d
  match descShuffle d with
  | 0 => false
  | 1 => n % (p * descElem d) ≠ 0 || (dstSide d).lines % p ≠ 0
  | 2 => n % (p * descElem d) ≠ 0 || (srcSide d).lines % p ≠ 0
  | 3 => n % 8 ≠ 0 || (dstSide d).lines % 8 ≠ 0
  | _ => true

/-- A length or line count is 0. -/
def emptyDesc (d : Bytes) : Bool :=
  (srcSide d).len = 0 || (srcSide d).lines = 0 || (dstSide d).len = 0 || (dstSide d).lines = 0

/-- The descriptor is refused (R545). -/
def State.descBad (s : State) (d : Bytes) : Bool :=
  emptyDesc d || field (descCtrl d) 11 5 ≠ 0 || shuffleBad d ||
    decide (streamLength d ≠ (dstSide d).len * (dstSide d).lines) || !s.sideOk (srcSide d) || !s.sideOk (dstSide d) ||
    (!(descCtrl d).testBit 0 && (leAt d 0x0C 4 % 32 ≠ 0 || !inSram (leAt d 0x0C 4)))

/-- A channel returns to IDLE. -/
def State.dmaIdle (s : State) (ch : Fin 32) : State :=
  (s.setObj (dk 0x580013 ch) 0).modDma ch fun _ => DmaChan.reset

/-- A fetched descriptor is checked, and taken or refused (R545). -/
def State.takeDesc (s : State) (ch : Fin 32) (a : Nat) (d : Bytes) : State :=
  let s := s.setObj (dk 0x580015 ch) a
  if s.descBad d then
    let s := (s.setObj (dk 0x580014 ch) 3).setObj (dk 0x580016 ch) (if emptyDesc d then 0 else streamLength d)
    ((s.event (dk 0x580017 ch) 2).bump (dk 0x580023 ch)).dmaIdle ch
  else
    s.modDma ch fun _ => { fetch := if (descCtrl d).testBit 0 then none else some (leAt d 0x0C 4), desc := some d, ahead := none }

/-- Part and element of each destination byte: the source byte it takes, for split and merge (R544). -/
def shuffleSource (d : Bytes) (p : Nat) : Nat :=
  let n := streamLength d
  let planes := descPlanes d
  let e := descElem d
  if descShuffle d = 1 then
    let part := n / planes
    (p % part / e * planes + p / part) * e + p % e
  else if descShuffle d = 2 then
    let part := n / planes
    p / e % planes * part + p / e / planes * e + p % e
  else p

/-- Source bytes that destination byte `p` needs (R542, R544). -/
def sourcesFor (d : Bytes) (p : Nat) : List Nat :=
  if descShuffle d = 3 then
    let part := streamLength d / 8
    (List.range 8).map fun j => p % part * 8 + j
  else [shuffleSource d p]

/-- Source byte `q` as the channel reads it for destination byte `p`: free where an earlier destination byte has replaced it, and where the spec does not state it (R427, R475, R532, R543). -/
def State.sourceByte (s : State) (d : Bytes) (start : State) (p q : Nat) : Byte :=
  let a := ((srcSide d).addr q).toNat
  if ((List.range p).any fun r => decide ((dstSide d).addr r = a)) then Config.freeByte (s.draws + p * 8 + q % 8)
  else start.memByte (p * 8 + q % 8) a

/-- Destination byte `p` (R544). -/
def State.streamByte (s start : State) (d : Bytes) (p : Nat) : Byte :=
  if descShuffle d = 3 then
    let bit := p / (streamLength d / 8)
    BitVec.ofNat 8 (ofBitList ((sourcesFor d p).map fun q => (s.sourceByte d start p q).toNat.testBit bit))
  else s.sourceByte d start p (shuffleSource d p)

/-- The first `n` bytes of a side's stream as accesses: pieces of lines that lie in one block of 64 bytes, each with its address, its first byte in the stream and its length (R466, R542). -/
def Side.pieces (x : Side) (n : Nat) : List (Nat × Nat × Nat) :=
  (List.range x.lines).flatMap fun i =>
    let a := (x.start i).toNat
    let m := min x.len (n - i * x.len)
    (accesses a m).map fun b =>
      let lo := max a b
      (lo, i * x.len + (lo - a), min (a + m) (b + 64) - lo)

/-- One access of a DMA channel's writes, counted in the stack (R466, R467, R494). -/
def State.dmaPiece (s start : State) (d : Bytes) (x : Nat × Nat × Nat) : State :=
  let data := (List.range x.2.2).map fun i => start.streamByte start d (x.2.1 + i)
  let s := if inSram x.1 then s else (s.countRmw x.1 x.2.2).touch 5 x.1
  if start.busDiscards x.1 then s else s.busStore x.1 data

/-- Writes of the first `n` bytes of the destination stream, in order, with the reads that they need; each 64-byte block that a rule discards reports once (R466, R494, R542, R548). -/
def State.dmaWrite (s : State) (d : Bytes) (n : Nat) : State :=
  let start := s
  let out := (dstSide d).pieces n
  let refused := ((out.map (·.1)).filter start.busDiscards).map (· / 64) |>.eraseDups
  let reads := ((srcSide d).pieces n).filter fun x => !inSram x.1
  let s := reads.foldl (fun s x => s.touch 5 x.1) s
  let s := out.foldl (fun s x => s.dmaPiece start d x) s
  let s := refused.foldl (fun s b => s.busRefused (b * 64)) s
  { s with draws := s.draws + 8 * n }

/-- Every access of a side can be made: no stack error, no poisoned word and no bad SRAM word (R537, R553). -/
def State.sideReads (s : State) (x : Side) : Bool :=
  (List.range x.lines).all fun i =>
    if x.base < 0x1000000000 then (s.badWord (x.start i).toNat x.len).isNone else s.readOk (x.start i).toNat x.len

/-- Every write of a side can be made: no stack error, and no word with an error that a line replaces only in part (R513, R538, R553). -/
def State.sideWrites (s : State) (x : Side) : Bool :=
  (List.range x.lines).all fun i =>
    let a := (x.start i).toNat
    if x.base < 0x1000000000 then
      s.sram.bad.all fun w => decide (a + x.len ≤ w ∨ w + 8 ≤ a) || decide (a ≤ w ∧ w + 8 ≤ a + x.len)
    else s.writeOk a x.len

/-- Status is written back into the descriptor (R550). -/
def State.writeBack (s : State) (ch : Fin 32) (d : Bytes) (residue status : Nat) : State :=
  if (descCtrl d).testBit 1 then
    s.busPut (s.obj (dk 0x580015 ch) + 0x18) (leBytes 4 residue ++ leBytes 4 status)
  else s

/-- The next descriptor of a channel is read, once: ahead of the present one's completion where one is in progress; a word of it with an uncorrectable error leaves the channel to DMA_BUS_ERROR (R537, R545, R546). -/
def State.fetchDesc (s : State) (ch : Fin 32) (finds : List (Nat × Bool)) : State :=
  let x := s.dma.get ch
  match x.fetch with
  | none => s
  | some a =>
    if s.obj (dk 0x580013 ch) ≠ 1 || !s.timing || x.ahead.isSome then s
    else
      let s := s.findErrors [(a, 32)] finds
      if (s.badWord a 32).isSome then s
      else
        let r := s.sramRead a 32
        if x.desc.isSome then r.2.modDma ch fun x => { x with ahead := some r.1 } else r.2.takeDesc ch a r.1

/-- DESCRIPTOR_FETCH (R536, R537, R545, R546). -/
def execDescriptorFetch (ch : Fin 32) (reads : ReadAt) (s : State) : Host.Outcome State Fault Refusal :=
  .next (State.settle ((s.tick reads.t).fetchDesc ch reads.finds))

/-- A descriptor completes (R550). -/
def State.completeDesc (s : State) (ch : Fin 32) (d : Bytes) : State :=
  let x := s.dma.get ch
  let last := (descCtrl d).testBit 0
  let s := (s.dmaWrite d (streamLength d)).writeBack ch d 0 1
  let s := ((s.setObj (dk 0x580014 ch) 1).setObj (dk 0x580016 ch) 0).bump (dk 0x580020 ch)
  let s := s.eventIf (last || (descCtrl d).testBit 2) (dk 0x580017 ch) 0
  if last then (s.bump (dk 0x580021 ch)).dmaIdle ch
  else
    match x.ahead, x.fetch with
    | some b, some a => s.takeDesc ch a b
    | _, _ => s.modDma ch fun x => { x with desc := none }

/-- A write of the channel at SRAM address `a` has collided, and its repeat has been made (R534, R535). -/
def State.dmaRetry (s : State) (ch : Fin 32) (a : Nat) : State := (s.collision a).bump (dk 0x580025 ch)

/-- What the accesses of a channel meet on the way: words read with a single-bit error, and writes that collide once (R534 to R536). -/
def State.dmaMet (s : State) (ch : Fin 32) (corrected : Nat) (collided : List Nat) : State :=
  collided.foldl (fun s a => s.dmaRetry ch a) (s.sramCorrectedN corrected)

/-- DESCRIPTOR_COMPLETE: `corrected` counts the source words read with a single-bit error, `collided` the SRAM addresses of writes that collided once; every write of the descriptor in progress has completed; an access that would fail leaves it to DMA_BUS_ERROR (R534 to R536, R542 to R550). -/
def execDescriptorComplete (ch : Fin 32) (corrected : Nat) (collided : List Nat) (t : Nat) (s : State) : Host.Outcome State Fault Refusal :=
  .next (State.settle
    (let s := s.tick t
     match (s.dma.get ch).desc with
     | none => s
     | some d =>
       if s.obj (dk 0x580013 ch) = 1 && s.timing && s.sideReads (srcSide d) && s.sideWrites (dstSide d) then
         (s.dmaMet ch corrected collided).completeDesc ch d
       else s))

/-- A channel ends its descriptor early after `written` bytes of its stream, with a status, an event bit and a counter; the residue and status go into the descriptor on an abort alone (R550, R551, R553). -/
def State.endEarly (s : State) (ch : Fin 32) (written status bit : Nat) (counter : Key) (back : Bool) : State :=
  let s := match (s.dma.get ch).desc with
    | none => s.setObj (dk 0x580016 ch) 0
    | some d =>
      let n := min written (streamLength d)
      let s := s.dmaWrite d n
      let s := if back then s.writeBack ch d (streamLength d - n) status else s
      s.setObj (dk 0x580016 ch) (streamLength d - n)
  (((s.setObj (dk 0x580014 ch) status).event (dk 0x580017 ch) bit).bump (dk counter ch)).dmaIdle ch

/-- A write of 2 to a channel's command, `written` the bytes whose reads had been made, `corrected` and `collided` what they and their writes met (R535, R536, R551). -/
def dmaAbortOp (ch : Fin 32) (written corrected : Nat) (collided : List Nat) (s : State) : Answer :=
  (if s.obj (dk 0x580013 ch) = 0 then s else (s.dmaMet ch corrected collided).endEarly ch written 2 1 0x580022 true).accept

/-- DMA_ABORT (R551). -/
def execDmaAbort (via : Via) (ch : Fin 32) (moved : DmaMoved) (t : Nat) (s : State) : Host.Outcome State Fault Refusal :=
  .next (State.settle ((s.tick t).access via (dk 0x580011 ch) (dmaAbortOp ch moved.written moved.corrected moved.collided)))

/-- What the failing access itself counts (R489, R534, R535, R537). -/
def State.dmaFailed (s : State) (ch : Fin 32) (addr cause : Nat) : State :=
  match cause with
  | 2 => (s.markWord addr true).sramUncorrectable addr
  | 3 => s.refuseAccesses addr 1
  | 4 => ((s.collision addr).collision addr).bump (dk 0x580025 ch)
  | _ => s

/-- A bus error: captured where BUS_STOPPED is not already 1, and every channel stops (R553, R554). -/
def State.dmaBusError (s : State) (ch : Fin 32) (write : Bool) (addr cause : Nat) (written : List Nat) : State :=
  let s := s.dmaFailed ch addr cause
  let s := if s.busStopped then s
    else (s.setObj 0x580001 (1 + 2 * b2n write + 4 * b2n (decide (0x1000000000 ≤ addr)) + 16 * (cause % 16))).setObj 0x580003 addr
  let s := (s.event 0x580002 0).raise 168 ch.val (addr % 2 ^ 36 / 16)
  (List.finRange 32).foldl (fun s x =>
    if s.obj (dk 0x580013 x) = 0 then s else s.endEarly x (written.getD x.val 0) 4 3 0x580024 false) s

/-- DMA_BUS_ERROR: an access of channel `ch` ends with an error response of cause 1 to 4 (R535, R536, R553). -/
def execDmaBusError (ch : Fin 32) (write : Bool) (addr cause : Nat) (moved : DmaReturned) (t : Nat) (s : State) : Host.Outcome State Fault Refusal :=
  .next (State.settle
    (let s := s.tick t
     if s.obj (dk 0x580013 ch) ≠ 0 && s.timing then
       (moved.collided.foldl (fun s x => s.dmaRetry x.1 x.2) (s.sramCorrectedN moved.corrected)).dmaBusError ch write addr cause
         moved.written
     else s))

/-- The reference is lost: the engine stops, and every chain in progress ends without status (R555). -/
def State.dmaStops (s : State) : State :=
  (List.finRange 32).foldl (fun s ch => if s.obj (dk 0x580013 ch) = 0 then s else s.dmaIdle ch) s

/-- BUS_STOPPED clears (R554). -/
def State.clearBusStop (s : State) : State := s.setBit 0x580001 0 false

/-- BUS_ERROR_CLEAR (R554). -/
def execBusErrorClear (via : Via) (s : State) : Host.Outcome State Fault Refusal :=
  .next (State.settle (s.access via 0x580005 fun s => s.clearBusStop.accept))

end Sys2Proof.Machine
end

