-- ==== Sys2Proof/Machine/Ingest.lean ====
section
/-! DEFINITION. Raster ingest: links, frames, tile packets, reassembly, NAK, STATUS, the stores' configuration and the release of rows (06_raster_ingest.md). -/

namespace Sys2Proof.Machine

/-- What the links and their timers do at clock `t`; both links stop with the reference clock (R247). -/
def State.whileLinked (s : State) (t : Nat) (f : State → State) : State := if s.timing then f (s.tick t) else s

/-- A link changes state; leaving UP sets LINK_DOWN, counts and raises RL_DOWN, and NAKs of its open packet are decided again (R212, R227). -/
def State.setLink (s : State) (l : Fin 2) (st : Nat) : State :=
  let old := s.linkState l
  let s := s.setObj 0x250030 (putField (s.obj 0x250030) (2 * l.val) 2 st)
  if old = 3 ∧ st ≠ 3 then
    let open_ := (s.ingest.link.get l).nak
    let s := ((s.event 0x25003C l.val).bump (0x250050 + l.val)).raise 145 l.val 0
    open_.foldl State.queueNak (s.modLink l fun k => { k with nak := [] })
  else if old ≠ 3 ∧ st = 3 then s.flushWaiting
  else s

/-- A write of a raster link enable (R212, R213). -/
def linkEnableOp (l : Fin 2) (v : Nat) (s : State) : Answer :=
  let k := 0x250001 + l.val
  if 1 < v then s.refuse 0x06090030
  else if v = 0 then ((s.setObj k 0).setLink l 0).accept
  else if s.obj (0x250004 + l.val) = 0 || s.obj (0x250006 + l.val) = 0 then
    (s.event 0x25003C 10).refuse 0x06090030
  else ((s.setObj k 1).setLink l (if s.linkState l = 0 then 1 else s.linkState l)).accept

/-- LINK_ENABLE (R213). -/
def execLinkEnable (via : Via) (l : Fin 2) (value t : Nat) (s : State) : Host.Outcome State Fault Refusal :=
  .next (State.settle ((s.tick t).access via (0x250001 + l.val) (linkEnableOp l value)))

/-- A PCS event on a link (R212). -/
def State.pcsEvent (s : State) (l : Fin 2) : PcsEvent → State
  | .clockRecovered => if s.linkState l = 1 then s.setLink l 2 else s
  | .lockLost => if s.linkState l = 3 then s.setLink l 2 else s
  | .hiBer => if s.linkState l = 3 then s.setLink l 2 else s
  | .signalLost => if s.linkState l = 0 then s else s.setLink l 1

/-- LINK_SIGNAL_EVENT (R212). -/
def execLinkSignalEvent (l : Fin 2) (event : PcsEvent) (t : Nat) (s : State) : Host.Outcome State Fault Refusal :=
  .next (State.settle (s.whileLinked t fun s => s.pcsEvent l event))

/-- LINK_UP: lock has held for 1 ms (R212). -/
def execLinkUp (l : Fin 2) (t : Nat) (s : State) : Host.Outcome State Fault Refusal :=
  .next (State.settle (s.whileLinked t fun s => if s.linkState l = 2 then s.setLink l 3 else s))

/-- A KRT packet has been accepted: the link takes its source as the address to send to, and waiting NAKs may go (R215, R227). -/
def State.takePeer (s : State) (l : Fin 2) (d : Datagram) : State :=
  let first := (s.ingest.link.get l).peer.isNone
  let s := s.modLink l fun k => { k with peer := some (d.mac, d.ip, d.port) }
  if first then s.flushWaiting else s

/-- A packet is a format error, answered by NAK (R218). -/
def State.formatError (s : State) (l : Fin 2) (p : Bytes) : State :=
  ((s.bump 0x250045).event 0x25003C 4).nak (krtRepeat p) (krtSeq p) 6 (some l.val)

/-- Tiles of the packet's series are accepted in the present engine and repeat state (R236, R244). -/
def State.tilesAccepted (s : State) (rep : Bool) : Bool :=
  if rep then s.engineState = 1 && s.repeatOn
  else 1 ≤ s.engineState && s.engineState ≤ 5 && !s.repeatOn

/-- The tile row exists for the series: it starts within the job or the repeat (R218, R237, R243). -/
def State.rowValid (s : State) (rep : Bool) (row : Nat) : Bool :=
  if rep then decide (row < s.repRows) && decide (row < s.repSlots)
  else match if s.inJobState then s.lastLine else none with
    | some l => decide (256 * row ≤ l)
    | none => true

/-- A fragment differs in length or CRC from the earlier ones of its tile, or overlaps one of a tile whose context lacks bytes; a held tile's duplicates overlap it and are dropped as such (R218, R224, R693, log entry 70). -/
def fragmentClash (c : Context) (p : Bytes) : Bool :=
  c.len ≠ krtLen p || c.crc ≠ krtCrc p ||
    (!c.full && c.got.any fun g => decide (krtOfs p < g.1 + g.2) && decide (g.1 < krtOfs p + krtFrag p))

/-- The packet breaks a rule of R218 that its step of R693 tests. -/
def State.badTile (s : State) (p : Bytes) : Bool :=
  let rep := krtRepeat p
  !krtReservedOk p || (rep && leAt p 4 2 ≠ 0) || !krtLengthsOk (rawSize s.inputMode (krtCol p)) p ||
    s.tileSeq (krtRow p) (krtPlane p) (krtCol p) ≠ some (krtSeq p) || !s.rowValid rep (krtRow p) ||
    match s.contextOf rep (krtSeq p) with
      | some (_, c) => fragmentClash c p
      | none => false

/-- The smallest context number not in use. -/
def State.freeContext (s : State) : Option Nat := (List.range 64).find? fun i => (findKey s.ingest.ctx i).isNone

/-- The context whose first fragment is oldest (R221). -/
def State.oldestContext (s : State) : Option (Nat × Context) :=
  s.ingest.ctx.foldl (fun a c => match a with
    | none => some c
    | some b => if c.2.firstAt < b.2.firstAt then some c else some b) none

/-- A context is freed where all 64 are in use (R221). -/
def State.makeRoom (s : State) : State :=
  match s.freeContext, s.oldestContext with
  | none, some (i, c) => s.incomplete i c
  | _, _ => s

/-- Address at which a fragment is written: the tile's place, or the context's part of the staging area (R221). -/
def State.fragmentAddr (s : State) (i : Nat) (c : Context) : Nat :=
  if c.codec = 0 then s.tileAddr c.rep c.row c.plane c.col else s.tables + i * 0x40000

/-- The context that a packet's first fragment opens (R221). -/
def State.newContext (s : State) (l : Fin 2) (p : Bytes) : Context :=
  { rep := krtRepeat p, seq := krtSeq p, row := krtRow p, plane := krtPlane p, col := krtCol p, codec := krtCodec p,
    len := krtLen p, crc := krtCrc p, got := [], firstAt := s.clk, link := l.val, retx := false, bad := false }

/-- Channels in which the thermal throttle keeps INGEST from writing `n` bytes at `a` now (R485). -/
def State.throttledAt (s : State) (a n : Nat) : List (Fin 8) :=
  ((accesses a n).map fun x => (s.place x).1).eraseDups.filter fun c => !s.thermalOk (s.stack.chan.get c) 1

/-- A fragment enters context `i`: its bytes are written, or the write ends with an error response (R221, R223, R485, R489). -/
def State.enterFragment (s : State) (l : Fin 2) (i : Nat) (c : Context) (p : Bytes) (wrErr : Bool) : State :=
  let a := s.fragmentAddr i c + krtOfs p
  let d := p.drop 32
  let bad := wrErr || !s.ingestHolds a d.length
  let s := if bad then s.refuseAccesses a d.length else ((s.countRmw a d.length).touchAll 1 a d.length).setBytes a d
  s.modIngest fun g => { g with ctx := putKey g.ctx i { c with
    got := c.got ++ [(krtOfs p, krtFrag p)], link := l.val, retx := c.retx || krtRetx p, bad := c.bad || bad } }

/-- A fragment that the thermal throttle keeps from being written is dropped, and the wait counts in its channels (R485). -/
def State.putFragment (s : State) (l : Fin 2) (i : Nat) (c : Context) (p : Bytes) (wrErr : Bool) : State :=
  let held := s.throttledAt (s.fragmentAddr i c + krtOfs p) (p.drop 32).length
  if held.isEmpty then s.enterFragment l i c p wrErr
  else held.foldl (fun s ch => s.modChan ch fun x => { x with waited := true }) s

/-- A fragment enters its tile's context, or opens one (R221). -/
def State.takeFragment (s : State) (l : Fin 2) (p : Bytes) (wrErr : Bool) : State :=
  match s.contextOf (krtRepeat p) (krtSeq p) with
  | some (i, c) => s.putFragment l i c p wrErr
  | none =>
    let s := s.makeRoom
    match s.freeContext with
    | some i => s.putFragment l i (s.newContext l p) p wrErr
    | none => s

/-- A tile needs no more fragments: present, lost or held whole (R224). -/
def State.duplicate (s : State) (rep : Bool) (g : Nat) : Bool :=
  (if rep then s.repMarked g else s.marked g) || match s.contextOf rep g with
    | some (_, c) => c.full
    | none => false

/-- A duplicate of a tile held whole came on link `l`, which is then the link of its latest fragment (R227). -/
def State.noteLink (s : State) (l : Fin 2) (rep : Bool) (g : Nat) : State :=
  match s.contextOf rep g with
  | some (i, c) => s.modIngest fun x => { x with ctx := putKey x.ctx i { c with link := l.val } }
  | none => s

/-- The steps of R693 from the sixth on. -/
def State.judgeTile (s : State) (l : Fin 2) (p : Bytes) (wrErr : Bool) : State :=
  let rep := krtRepeat p
  if s.badTile p then s.formatError l p
  else if !rep && krtRow p < s.freeRow then s.bump 0x250042
  else if !rep && s.limitRow < krtRow p then
    ((s.bump 0x250046).event 0x25003C 5).nak rep (krtSeq p) 3 (some l.val)
  else if s.duplicate rep (krtSeq p) then (s.noteLink l rep (krtSeq p)).bump 0x250041
  else s.takeFragment l p wrErr

/-- A packet that has passed R214 is judged in the order of R693. -/
def State.judgePacket (s : State) (l : Fin 2) (p : Bytes) (wrErr : Bool) : State :=
  if isStatusRequest p then s.sendStatus l
  else if !headerTrusted p then (s.bump 0x250045).event 0x25003C 4
  else if leAt p 3 1 ≠ 1 then s.formatError l p
  else if !krtRepeat p && leAt p 4 2 ≠ s.obj 0x250010 then s.bump 0x250042
  else if !s.tilesAccepted (krtRepeat p) then
    ((s.bump 0x25004D).event 0x25003C 8).nak (krtRepeat p) (krtSeq p) 7 (some l.val)
  else s.judgeTile l p wrErr

/-- A link that is UP takes a datagram that has passed R214 (R215, R693). -/
def State.packetIn (s : State) (l : Fin 2) (d : Datagram) (wrErr : Bool) : State :=
  if s.linkState l = 3 then (s.takePeer l d).judgePacket l d.payload wrErr else s

/-- An ARP request for a link's address is answered; any other is a dropped frame (R214, R215). -/
def State.arpIn (s : State) (l : Fin 2) (dst target mac ip : Nat) : State :=
  if s.linkState l ≠ 3 then s
  else if (dst = s.obj (0x250004 + l.val) ∨ dst = 0xFFFFFFFFFFFF) ∧ target = s.obj (0x250006 + l.val) then
    s.modLink l fun k => { k with sent := some (.arp mac ip) }
  else s.bump 0x25004B

/-- A received frame is taken, answered, or dropped and counted; one above 9,216 bytes with its FCS is dropped (R211, R212, R214, R215). -/
def State.frameIn (s : State) (l : Fin 2) (f : Bytes) (fcsOk wrErr : Bool) : State :=
  if s.linkState l ≠ 3 then s
  else if 9216 < f.length + 4 then s.bump 0x25004B
  else if krtHeaders (s.obj (0x250004 + l.val)) (s.obj (0x250006 + l.val)) (s.obj 0x250008) f then
    (if fcsOk && udpSumOk f then s.packetIn l (datagramOf f) wrErr
     else if udpSumOk f then s.bump (0x25004E + l.val)
     else if fcsOk then s.bump 0x25004C
     else s.bump 0x25004B)
  else
    match arpRequest f, fcsOk with
    | some (target, mac, ip), true => s.arpIn l (beAt f 0 6) target mac ip
    | _, _ => s.bump 0x25004B

/-- FRAME_RECEIVED: a whole frame without its FCS, whose check is given (R214). -/
def execFrameReceived (l : Fin 2) (frame : Bytes) (fcsOk wrErr : Bool) (t : Nat) (s : State) :
    Host.Outcome State Fault Refusal :=
  .next (State.settle (s.whileLinked t fun s => s.frameIn l frame fcsOk wrErr))

/-- ARP_REQUEST (R215). -/
def execArpRequest (l : Fin 2) (dst target mac ip t : Nat) (s : State) : Host.Outcome State Fault Refusal :=
  .next (State.settle (s.whileLinked t fun s => s.arpIn l dst target mac ip))

/-- STATUS_REQUEST: a status request that has passed R214 (R215). -/
def execStatusRequest (l : Fin 2) (mac ip port t : Nat) (s : State) : Host.Outcome State Fault Refusal :=
  .next (State.settle (s.whileLinked t fun s => s.packetIn l
    { mac := mac, ip := ip, port := port, payload := leBytes 2 0x544B ++ leBytes 1 1 ++ leBytes 1 0x81 } false))

/-- TILE_PACKET: a packet that has passed R214 (R693). -/
def execTilePacket (l : Fin 2) (mac ip port : Nat) (payload : Bytes) (wrErr : Bool) (t : Nat) (s : State) :
    Host.Outcome State Fault Refusal :=
  .next (State.settle (s.whileLinked t fun s => s.packetIn l { mac := mac, ip := ip, port := port, payload := payload } wrErr))

/-- The raw data of a context that holds every byte, none where its KTC stream fails (R223, R233). -/
def State.tileData (s : State) (i : Nat) (c : Context) : Option Bytes :=
  let b := s.bytes (s.fragmentAddr i c) c.len
  if c.codec = 0 then some b else ktcDecode (tileRows s.inputMode) (tileWidth s.inputMode c.col) b

/-- A tile becomes present (R223, R240, R245). -/
def State.tilePresent (s : State) (c : Context) (raw : Bytes) : State :=
  let a := s.tileAddr c.rep c.row c.plane c.col
  let s := ((if c.codec = 0 then s else s.touchAll 1 a raw.length)).setBytes a raw
  let s := (s.bump 0x250040).bumpN 0x25004A (b2n c.retx)
  let s := s.modIngest fun i => { i with
    rate := (s.clk, raw.length) :: i.rate.filter fun r => decide (s.clk < r.1 + 50000000) }
  if c.rep then
    let s := s.modIngest fun i => { i with rep := putKey i.rep c.seq (), repNaks := dropKey i.repNaks c.seq }
    s.eventIf (s.repPresent = s.repRequired) 0x25003C 9
  else
    (s.modIngest fun i => { i with
      marks := putKey i.marks c.seq { lost := false, since := s.clk }, naks := dropKey i.naks c.seq }).nakMissing

/-- A context that holds every byte is checked (R223). -/
def State.checkTile (s : State) (i : Nat) (c : Context) : State :=
  let t := s.dropContext i
  let a := s.fragmentAddr i c
  if c.bad || !s.readOk a c.len then (((t.refuseAccesses a c.len).bump 0x250043).event 0x25003C 2).nak c.rep c.seq 2 (some c.link)
  else
    match s.tileData i c with
    | none => ((t.bump 0x250044).event 0x25003C 3).nak c.rep c.seq 4 (some c.link)
    | some raw =>
      if crc32c raw = c.crc && s.ingestHolds (s.tileAddr c.rep c.row c.plane c.col) raw.length then t.tilePresent c raw
      else ((t.bump 0x250043).event 0x25003C 2).nak c.rep c.seq 2 (some c.link)

/-- TILE_COMPLETE: the check of a tile whose context holds every byte ends at clock `t` (R223). -/
def execTileComplete (rep : Bool) (seq t : Nat) (s : State) : Host.Outcome State Fault Refusal :=
  .next (State.settle (s.whileLinked t fun s => match s.contextOf rep seq with
    | some (i, c) => if c.full then s.checkTile i c else s
    | none => s))

/-- A context is still incomplete at the fragment timeout (R222). -/
def State.fragmentTimeout (s : State) (rep : Bool) (seq : Nat) : State :=
  match s.contextOf rep seq with
  | some (i, c) => if !c.full && c.firstAt + s.obj 0x250018 * 500 ≤ s.clk then s.incomplete i c else s
  | none => s

/-- FRAGMENT_TIMEOUT (R222). -/
def execFragmentTimeout (rep : Bool) (seq t : Nat) (s : State) : Host.Outcome State Fault Refusal :=
  .next (State.settle (s.whileLinked t fun s => s.fragmentTimeout rep seq))

/-- NAK_TIMEOUT: sequence numbers found missing at clock `t` are answered (R225). -/
def execNakTimeout (t : Nat) (s : State) : Host.Outcome State Fault Refusal :=
  .next (State.settle (s.whileLinked t State.nakMissing))

/-- A tile is lost, and under tile-lost action 1 the engine enters HOLD (R240). -/
def State.loseAndHold (s : State) (g : Nat) : State :=
  let s := s.loseTile g
  (if s.obj 0x25001A = 1 then s.holdCause else s).autoEngine

/-- The tile of a sequence number is present or lost. -/
def State.settledTile (s : State) (rep : Bool) (g : Nat) : Bool := if rep then s.repMarked g else s.marked g

/-- One NAK interval after a NAK for any reason, it is repeated with reason MISSING, or a job tile is declared lost; a repeat tile past its budget is asked for no more (R226, R244, log entry 130). -/
def State.nakInterval (s : State) (rep : Bool) (g : Nat) : State :=
  match s.nakRec rep g with
  | none => s
  | some r =>
    match r.sentAt with
    | none => s
    | some a =>
      if s.settledTile rep g || s.clk < a + s.obj 0x250016 * 500 then s
      else if s.obj 0x250017 ≤ r.count then (if rep then s else s.loseAndHold g)
      else if (s.contextOf rep g).isSome then s
      else s.nak rep g 1 r.link

/-- NAK_INTERVAL_EXPIRY (R226). -/
def execNakIntervalExpiry (rep : Bool) (seq t : Nat) (s : State) : Host.Outcome State Fault Refusal :=
  .next (State.settle (s.whileLinked t fun s => s.nakInterval rep seq))

/-- The open NAK packet of a link is 10 µs old (R227). -/
def State.nakSend (s : State) (l : Fin 2) : State :=
  if (s.ingest.link.get l).nakAt + 5000 ≤ s.clk then s.sendNak l else s

/-- NAK_SEND (R227). -/
def execNakSend (l : Fin 2) (t : Nat) (s : State) : Host.Outcome State Fault Refusal :=
  .next (State.settle (s.whileLinked t fun s => s.nakSend l))

/-- STATUS on both links (R229). -/
def State.statusAll (s : State) : State := (s.sendStatus 0).sendStatus 1

/-- STATUS_INTERVAL (R229). -/
def execStatusInterval (t : Nat) (s : State) : Host.Outcome State Fault Refusal :=
  .next (State.settle (s.whileLinked t State.statusAll))

/-- A write of the job identifier (R229, R235). -/
def jobIdOp (v : Nat) (s : State) : Answer :=
  s.unless (firstAbort [(!s.idleEngine, 0x08000022), (decide (65535 < v), 0x06090030)]) fun s =>
    (s.resetStore.setObj 0x250010 v).statusAll

/-- JOB_ID_WRITE (R235). -/
def execJobIdWrite (via : Via) (value t : Nat) (s : State) : Host.Outcome State Fault Refusal :=
  .next (State.settle ((s.tick t).access via 0x250010 (jobIdOp value)))

/-- A region base or size keeps R31 and R33. -/
def regionOk (k : Key) (v : Nat) : Bool :=
  v % 0x4000000 = 0 &&
    (if k % 2 = 0 then 0x1000000000 ≤ v && v ≤ 0x17FC000000
     else if k = 0x200013 then v ≤ 0x600000000
     else if k = 0x200017 then 0x8000000 ≤ v && v ≤ 0x200000000
     else 0x10000000 ≤ v && v ≤ 0x600000000)

/-- A value lies in the range of a store's configuration object (R31, R250). -/
def State.storeRange (s : State) (k : Key) (v : Nat) : Bool :=
  if k = 0x250011 then v ≤ 2
  else if k = 0x250012 then 1 ≤ v && v ≤ 255
  else if k = 0x250013 then v ≤ 3
  else if k = 0x250020 then v ≤ 1
  else if k = 0x250021 then 256 ≤ v && v ≤ s.repSlots * 256
  else regionOk k v

/-- A write of the input mode, plane mask, apron enable or contone region (R32, R33, R235, R245). -/
def storeConfigOp (k : Key) (v : Nat) (s : State) : Answer :=
  s.unless (firstAbort [(!s.idleEngine, 0x08000022), (!s.storeRange k v, 0x06090030)]) fun s =>
    let s := s.resetStore.setObj k v
    if k / 0x10000 = 0x25 then s.clearRepeat.setObj 0x250032 (s.slotSize % 2 ^ 32) else s

/-- The key of a store configuration object: input mode, plane mask, apron enable, contone base and size. -/
def storeKey (o : StoreObj) : Key :=
  match o with
  | .inputMode => 0x250011
  | .planeMask => 0x250012
  | .apronEnable => 0x250013
  | .contoneBase => 0x200010
  | .contoneSize => 0x200011

/-- STORE_CONFIG_WRITE (R235). -/
def execStoreConfigWrite (via : Via) (obj : StoreObj) (value : Nat) (s : State) : Host.Outcome State Fault Refusal :=
  .next (State.settle (s.access via (storeKey obj) (storeConfigOp (storeKey obj) value)))

/-- A write of the repeat enable, repeat length or repeat region (R32, R33, R245, R250). -/
def repeatConfigOp (k : Key) (v : Nat) (s : State) : Answer :=
  s.unless (firstAbort [(!s.idleEngine, 0x08000022), (!s.storeRange k v, 0x06090030)]) fun s =>
    s.clearRepeat.setObj k v

/-- The key of a repeat configuration object. -/
def repeatKey (o : RepeatObj) : Key :=
  match o with
  | .enable => 0x250020
  | .length => 0x250021
  | .base => 0x200012
  | .size => 0x200013

/-- REPEAT_CONFIG_WRITE (R245). -/
def execRepeatConfigWrite (via : Via) (obj : RepeatObj) (value : Nat) (s : State) :
    Host.Outcome State Fault Refusal :=
  .next (State.settle (s.access via (repeatKey obj) (repeatConfigOp (repeatKey obj) value)))

/-- ROW_RELEASE (R238). -/
def execRowRelease (s : State) : Host.Outcome State Fault Refusal :=
  .next (State.settle (if s.rowDone then s.releaseRow else s))

end Sys2Proof.Machine
end

