-- ==== Sys2Proof/Machine/Integrity.lean ====
section
/-! DEFINITION. Training, replay, retest, patrol, rebuild, MBIST and the IEEE 1500 port of the stack (R496 to R526). -/

namespace Sys2Proof.Machine

/-- The image of the firmware slot in use: 0 and 1 the MRAM slots, 2 the recovery flash (R600, R628). -/
def State.firmwareImage (s : State) : Bytes :=
  match s.obj 0x200007 with
  | 0 => s.mram.slotA.getD []
  | 1 => s.mram.slotB.getD []
  | 2 => Config.recoveryImage
  | _ => []

/-- The image in use is copied into the firmware region, whose rest reads zero (R523, R628). -/
def State.copyFirmware (s : State) : State :=
  let base := s.obj 0x200019
  let n := s.fixedSize
  if s.firmwareImage.isEmpty then s
  else (s.keepBytes fun a => !decide (base ≤ a ∧ a < base + n)).setBytes base (s.firmwareImage.take n)

/-- The start-up self-test begins: lanes retired before it leave service (R648, R649); without an image only the ROM runs (R628). -/
def State.beginSelfTest (s : State) : State :=
  if s.obj 0x200007 = 0xFF || s.obj 0x5E0002 ≠ 0 then s
  else (s.setObj 0x240010 (clearBits 17 (s.obj 0x240010) s.mram.lanesRetired)).setObj 0x5E0002 1

/-- No channel is in power-up training. -/
def State.allTrained (s : State) : Bool := !((List.finRange 8).any fun x => s.chanState x = 0)

/-- Power-up training of a channel ends (R506, R507, R516); when the last one has, the image is copied and a changed set of channels is mapped (R491, R518, R628). -/
def State.trained (s : State) (c : Fin 8) (eyes : List (Nat × Nat)) : State :=
  if s.chanState c ≠ 0 ∨ s.bit 0x520001 4 then s
  else
    let r := s.trainLanes c (smallEyes eyes)
    let s := if r.2 then r.1.setObj (ck8 0x500020 c) 1 else r.1.retireNow c
    if s.allTrained then s.copyFirmware.stackBoundary.beginSelfTest else s

/-- TRAINING_DONE: power-up training of channel `c` ends with the eye of each lane after its last try (R491, R506, R507). -/
def execTrainingDone (c : Fin 8) (eyes : List (Nat × Nat)) (k : Nat) (s : State) : Host.Outcome State Fault Refusal :=
  .next (State.settle
    (if s.timing then (s.stackAt k).trained c eyes else s))

/-- A word of 33 bits as read, its parity bit highest, holds an odd number of ones (R496). -/
def oddParity (w : Nat) : Bool := (List.range 33).foldl (fun b i => xor b (w.testBit i)) false

/-- The error of a kind has occurred: a die has signalled it, or a word of the data read fails its parity (R496). -/
def alertFound (kind : AlertKind) (words : List Nat) : Bool := kind ≠ .readParity || words.any oddParity

/-- What a write in the buffer changed is undone. -/
def State.undoWrite (s : State) (m : StackCmd) : State :=
  match m.kind, m.req with
  | .write, some r => s.putBytes r.addr m.old
  | _, _ => s

/-- A die drops the command issued at stack clock `start` and every later one until its ALERT has ended: the writes among them have changed nothing (R496). -/
def State.dropFrom (s : State) (c : Fin 8) (start : Nat) : State :=
  ((s.chan c).retry.filter fun m => decide (start ≤ m.issuedAt)).reverse.foldl State.undoWrite s

/-- An ALERT comes within 24 stack clocks of the failing command (R496). -/
def alertInTime (kind : AlertKind) (start k : Nat) : Bool := kind = .readParity || decide (start ≤ k ∧ k ≤ start + 24)

/-- An ALERT for the command of clock `start`, or a parity error of the words read at `addr` (R496, R498, R499). -/
def State.alertAt (s : State) (c : Fin 8) (kind : AlertKind) (addr start k : Nat) : State :=
  if kind = .readParity then s.startReplay c kind (addr / 64 * 64) k
  else (s.startReplay c kind 0x1000000000 k).dropFrom c start

/-- ALERT: an ALERT for the command issued at the start of `span`, or the words read at `addr` failing their parity (R496, R498, R499). -/
def execAlert (c : Fin 8) (kind : AlertKind) (words : List Nat) (addr : Nat) (span : AlertSpan) (s : State) : Host.Outcome State Fault Refusal :=
  .next (State.settle
    (let s := (s.stackAt span.k).chanAt c span.k
     if s.chanState c = 1 && alertFound kind words && alertInTime kind span.start span.k then s.alertAt c kind addr span.start span.k
     else s))

/-- Open rows after a round: every bank is precharged, and the commands of the buffer are made again in order (R498). -/
def Chan.reissue (c : Chan) (k : Nat) : Chan :=
  let c : Chan := { c with banks :=
    (c.banks.map fun b => (b.1, { b.2 with row := none, actOk := max b.2.actOk k })).filter fun b => b.2 ≠ StackBank.idle }
  let c := c.retry.foldl (fun (c : Chan) m => match m.kind with
    | .activate | .read | .write => c.modBank m.bank fun b => { b with row := some m.row, useOk := max b.useOk k, preOk := max b.preOk k }
    | .precharge => c.modBank m.bank fun b => { b with row := none }
    | .refresh => c) c
  { c with retry := c.retry.map fun m => { m with clk := max m.clk k } }

/-- A write in the buffer is made again (R498). -/
def State.redoWrite (s : State) (m : StackCmd) : State :=
  match m.kind, m.req with
  | .write, some r => s.putMasked r
  | _, _ => s

/-- A replay round: refreshes made again count toward the owed counts, and writes write the same data again, unless an ALERT drops them again (R496, R498). -/
def State.replayBuffer (s : State) (c : Fin 8) (alert : Bool) (k : Nat) : State :=
  let s := ((s.chan c).retry.filter (·.kind = .refresh)).foldl (fun s m => s.credit c m.bank) s
  let s := if alert then s else (s.chan c).retry.foldl State.redoWrite s
  s.modChan c fun ch => ch.reissue k

/-- Counter of a kind of masked error (R500, R528). -/
def maskedKey : AlertKind → Key
  | .readParity => 0x510001 | .writeAlert => 0x510002 | .commandAlert => 0x510003

/-- An error is masked; eight within 1 ms start quick training (R500, R508). -/
def State.maskError (s : State) (c : Fin 8) (k : Nat) (kind : AlertKind) : State :=
  let s := (s.bump (ck8 (maskedKey kind) c)).bump (ck8 0x510004 c)
  let times := (k :: (s.chan c).masked).filter fun x => decide (k < x + 1200000)
  let full := decide (8 ≤ times.length)
  let s := s.modChan c fun ch => { ch with masked := if full then [] else times }
  if full && !(s.chan c).training then s.startRetrain c else s

/-- The buffered accesses of a channel end with an error response, and its writes have changed nothing (R501). -/
def State.failBuffer (s : State) (c : Fin 8) : State :=
  ((s.chan c).retry.reverse.foldl State.undoWrite s).stackReply .error

/-- A read that four rounds could not recover (R502). -/
def State.persistentError (s : State) (c : Fin 8) (addr k : Nat) : State :=
  ((s.bump (ck8 0x510006 c)).stackReply .error).modChan c fun ch => { ch with retests := ch.retests ++ [(addr, k)] }

/-- A word at `addr` to `addr + 63` is poisoned (R513). -/
def State.poisoned (s : State) (addr : Nat) : Bool :=
  s.stack.poison.any fun a => decide (addr ≤ a ∧ a < addr + 64)

/-- Addresses whose reads fail in a round: replayed reads named in `bad`, and those that meet a poisoned word (R496, R500, R502, R513). -/
def State.failingReads (s : State) (c : Fin 8) (r : Replay) (bad : List Nat) : List Nat :=
  let reads := ((s.chan c).retry.filter (·.kind = .read)).filterMap fun m => m.req.map StackReq.addr
  let causes := (r.causes.filter (·.1 = .readParity)).map (·.2)
  ((reads ++ causes).filter fun a => bad.contains a || s.poisoned a).eraseDups

/-- A round has failed on an ALERT or on reads: another; after four a retraining where any failed on an ALERT (DESIGN CHOICE, log entry 136), else an error response for each failing read; after the retraining the end of the channel (R500 to R502). -/
def State.roundFailed (s : State) (c : Fin 8) (k : Nat) (r : Replay) (failing : List Nat) : State :=
  if r.retrained then (s.failBuffer c).retireNow c
  else if r.round < 4 then s.modChan c fun ch => { ch with replay := some { r with round := r.round + 1, since := k } }
  else if r.alerted then
    ((s.bump (ck8 0x510005 c)).modChan c fun ch => { ch with replay := some { r with retrained := true } }).startRetrain c
  else
    (failing.foldl (fun s a => s.persistentError c a k) s).modChan c fun ch => { ch with replay := none }

/-- The read that a round has repeated without error is answered with its data (R500). -/
def State.answerRead (s : State) (c : Fin 8) : State :=
  match s.stack.reply, (s.chan c).lastRead with
  | .accepted, some r => s.stackReply (.data (s.bytes r.addr 64))
  | _, _ => s

/-- A round ends: `alert` where a further ALERT has come, `bad` the addresses of replayed reads that failed their parity (R500). -/
def State.roundDone (s : State) (c : Fin 8) (alert : Bool) (bad : List Nat) (k : Nat) : State :=
  match (s.chan c).replay with
  | none => s
  | some r =>
    let s := s.replayBuffer c alert k
    let failing := s.failingReads c r bad
    if !alert && failing.isEmpty then
      (r.causes.foldl (fun s x => s.maskError c k x.1) (s.modChan c fun ch => { ch with replay := none })).answerRead c
    else s.roundFailed c k { r with alerted := r.alerted || alert } failing

/-- A round cannot end before the 72 stack clocks that it waits where no ALERT is present (R498). -/
def Replay.waits (r : Replay) (k : Nat) : Bool := (r.causes.all fun x => x.1 = .readParity) && decide (k < r.since + 72)

/-- The round of a channel still waits (R498). -/
def State.roundWaits (s : State) (c : Fin 8) (k : Nat) : Bool :=
  match (s.chan c).replay with
  | some r => r.waits k
  | none => false

/-- REPLAY_ROUND_DONE; none ends while quick training runs or before its wait is over (R498, R500 to R502). -/
def execReplayRoundDone (c : Fin 8) (ends : RoundEnd) (k : Nat) (s : State) : Host.Outcome State Fault Refusal :=
  .next (State.settle
    (let s := s.stackAt k
     if (s.chan c).training || s.roundWaits c k then s else s.roundDone c ends.alert ends.bad k))

/-- Quick training of a channel ends, with the eyes that it measures (R501, R507, R508, R516). -/
def State.quickTrained (s : State) (c : Fin 8) (eyes : List (Nat × Nat)) : State :=
  if !(s.chan c).training then s
  else
    let r := (s.modChan c fun ch => { ch with training := false }).trainLanes c (smallEyes eyes)
    if r.2 then r.1
    else (if (r.1.chan c).replay.isSome then r.1.failBuffer c else r.1).retireNow c

/-- QUICK_TRAINING_DONE (R501, R508, R516); a channel lost can end a job (R582). -/
def execQuickTrainingDone (c : Fin 8) (eyes : List (Nat × Nat)) (k : Nat) (s : State) : Host.Outcome State Fault Refusal :=
  .next (State.settle ((s.stackAt k).quickTrained c eyes).autoEngine)

/-- A retest of a persistent read error (R502, R513). -/
def State.retest (s : State) (c : Fin 8) (addr : Nat) (ok : Bool) (poison : List Nat) : State :=
  if ok && !s.poisoned addr then s
  else
    let (_, bank, row) := s.place addr
    let key := bank * 65536 + row
    let s := s.bump (ck8 0x510007 c)
    let n := (findKey (s.chan c).rowFails key).getD 0 + 1
    let s := s.modChan c fun ch => { ch with rowFails := putKey ch.rowFails key n }
    if n < 2 then s else s.repairRow c bank row poison

/-- RETEST_READ: the oldest address that awaits its retest, 10 us after its error; `poison` holds the words that a copy to a spare row cannot read (R502, R513, R514). -/
def execRetestRead (c : Fin 8) (ok : Bool) (poison : List Nat) (k : Nat) (s : State) : Host.Outcome State Fault Refusal :=
  .next (State.settle
    (let s := s.stackAt k
     match (s.chan c).retests with
     | (addr, at_) :: rest =>
       if decide (at_ + 12000 ≤ k) && !s.requestFails 7 c then
         (s.modChan c fun ch => { ch with retests := rest }).retest c addr ok poison
       else s
     | [] => s))

/-- The smallest eye and its lane, the lowest lane of equals. -/
def smallestEye : List (Nat × Nat) → Option (Nat × Nat)
  | [] => none
  | e :: t => match smallestEye t with
    | none => some e
    | some f => if e.2 < f.2 ∨ (e.2 = f.2 ∧ e.1 < f.1) then some e else some f

/-- Eyes of lanes that a sweep measured: lane and width (R509, R636). -/
def State.sweep (s : State) (c : Fin 8) (eyes : List (Nat × Nat)) : State :=
  match smallestEye eyes with
  | none => s
  | some (lane, width) =>
    let s := (s.setObj (ck8 0x510016 c) width).setObj (ck8 0x510017 c) lane
    let low := eyes.filter fun e => decide (e.2 < 77)
    let s := low.foldl (fun s e =>
      let key := c.val * 256 + e.1
      let n := storeGet (fun _ => 0) s.health.laneWarn key
      s.modHealth fun hl => { hl with laneWarn := storePut (fun _ => 0) s.health.laneWarn key (min 65535 (n + 1)) }) s
    let s := if low.isEmpty then s else (s.setBit (ck8 0x51001A c) 4 true).bump (ck8 0x51000A c)
    if width < 51 && !(s.chan c).training then s.startRetrain c else s

/-- EYE_SWEEP: the lanes that reads have reached, with their widths (R508, R509). -/
def execEyeSweep (c : Fin 8) (eyes : List (Nat × Nat)) (k : Nat) (s : State) : Host.Outcome State Fault Refusal :=
  .next (State.settle
    (let s := s.stackAt k
     if s.timing && decide (s.chanState c = 1) then s.sweep c eyes else s))

/-- The patrol goes on to the next 64 bytes of the populated stack (R510). -/
def State.patrolOn (s : State) (a : Nat) : State :=
  let next := if a + 64 < s.populated then a + 64 else 0
  (s.modStack fun m => { m with patrol := next }).setObj 0x520007 (next / 0x80000)

/-- The next patrol read; one that the stack refuses is no persistent error, and the patrol goes on (R489, R503, R510). -/
def State.patrolNext (s : State) (ok : Bool) (k : Nat) : State :=
  let a := if s.stack.patrol < s.populated then s.stack.patrol else 0
  let addr := 0x1000000000 + a
  let c := (s.place addr).1
  if s.populated = 0 then s
  else if s.requestFails 7 c then (s.refuseAccesses addr 64).patrolOn a
  else
    let s := s.patrolOn a
    if ok && !s.poisoned addr then s
    else
      ((s.bump (ck8 0x510006 c)).bump (ck8 0x510008 c)).modChan c fun ch => { ch with retests := ch.retests ++ [(addr, k)] }

/-- PATROL_READ: `ok` where the read or its replay succeeded (R502, R510). -/
def execPatrolRead (ok : Bool) (k : Nat) (s : State) : Host.Outcome State Fault Refusal :=
  .next (State.settle
    (let s := s.stackAt k
     if s.timing then s.patrolNext ok k else s))

/-- Key bits of a channel under MBIST (R522). -/
def State.mbistChannels (s : State) : List (Fin 8) :=
  (List.finRange 8).filter fun c => s.bit (ck8 0x51001A c) 3

/-- MBIST ends: its channels are ACTIVE, and the result is reported (R523). -/
def State.endMbist (s : State) (result : Nat) : State :=
  let s := s.mbistChannels.foldl (fun s c =>
    (if s.chanState c = 0 then s.setObj (ck8 0x500020 c) 1 else s).setBit (ck8 0x51001A c) 3 false) s.copyFirmware
  let s := (s.setBit 0x520001 4 false).setObj 0x520013 result
  (s.event 0x520002 6).modStack fun k => { k with abort := false, result := none }

/-- Words of the staging area that MAINT finds in error (R536, R537). -/
def State.stageFound (s : State) (finds : List (Nat × Bool)) : State :=
  (finds.filter fun f => inStaging f.1).foldl (fun s f =>
    if f.2 then s.sramUncorrectable (f.1 / 8 * 8) else s.sramCorrected) s

/-- Words that a copy could not read are poisoned in their new storage (R513, R515, R537). -/
def State.poisonWords (s : State) (poison : List Nat) : State :=
  s.modStack fun k => { k with poison := (k.poison ++ (poison.map fun a => a / 4 * 4).filter s.inStack).eraseDups }

/-- REBUILD_DONE: the map and pages of the boundary come into force, with what its copy met (R513, R515, R518 to R520, R523, R532, R536, R537). -/
def execRebuildDone (ends : RebuildEnd) (s : State) : Host.Outcome State Fault Refusal :=
  .next (State.settle
    (let s := s.tick ends.t
     if s.bit 0x520001 1 then
       let s := ((s.boundaryDone.poisonWords ends.poison).stageFound ends.finds).stageLost.checkChannels
       match s.stack.result with
       | some r => s.endMbist r
       | none => s
     else s))

/-- A write of 1 to the MBIST command (R522). -/
def State.mbistRunOp (s : State) : Answer :=
  s.unless (firstAbort [(s.engineState ≠ 0, 0x08000022)]) fun s =>
    if s.bit 0x520001 4 then s
    else
      let mask := s.obj 0x520011 &&& s.inService
      let s := (chanList mask).foldl (fun s c =>
        (s.setObj (0x500020 + c * 0x100) 0).setBit (0x51001A + c * 0x100) 3 true) s
      let s := ((s.setBit 0x520001 4 true).setObj 0x520013 1).setObj 0x520014 0
      let s := (List.finRange 8).foldl (fun s c => s.failQueue c false) s
      ((s.keepBytes fun a => decide (a < 0x1000000000)).resetStore.clearRepeat).modStack fun k =>
        { k with abort := false, result := none, algorithm := s.obj 0x520012 }

/-- MBIST_RUN (R522). -/
def execMbistRun (via : Via) (t : Nat) (s : State) : Host.Outcome State Fault Refusal :=
  .next (State.settle ((s.tick t).access via 0x520010 State.mbistRunOp))

/-- A write of 2 to the MBIST command: a run in progress ends after the row in progress (R522). -/
def State.mbistAbortOp (s : State) : Answer :=
  (if s.bit 0x520001 4 then s.modStack fun k => { k with abort := true } else s).accept

/-- MBIST_ABORT (R522). -/
def execMbistAbort (via : Via) (t : Nat) (s : State) : Host.Outcome State Fault Refusal :=
  .next (State.settle ((s.tick t).access via 0x520010 State.mbistAbortOp))

/-- Quick training after MBIST of a tested channel, which counts as a retrain (R508, R523). -/
def State.mbistTrain (s : State) (eyes : List (Fin 8 × Nat × Nat)) (c : Fin 8) : State :=
  let r := (s.countRetrain c).trainLanes c (lanesOf eyes c)
  if r.2 then r.1 else (r.1.setBit (ck8 0x51001A c) 3 false).retireNow c

/-- The failing rows that MBIST found and the eyes of its quick training are repaired, and its result follows (R523). -/
def State.mbistRepair (s : State) (rows : List (Fin 8 × Fin 32 × Nat)) (eyes : List (Fin 8 × Nat × Nat)) : State :=
  let tested := s.mbistChannels
  let rows := rows.filter fun r => tested.contains r.1
  let before := s.inService
  let s := rows.foldl (fun s r => s.repairRow r.1 r.2.1.val r.2.2 []) (s.setObj 0x520014 rows.length)
  let s := tested.foldl (fun s c => s.mbistTrain eyes c) s
  let s := s.stackBoundary.checkChannels
  let result := if s.stack.abort then 5 else if s.inService ≠ before then 4 else if rows.isEmpty then 2 else 3
  if s.bit 0x520001 1 then s.modStack fun k => { k with result := some result } else s.endMbist result

/-- MBIST_DONE: `rows` are the rows that failed, and `eyes` those of the quick training that follows, by channel and lane (R523). -/
def execMbistDone (rows : List (Fin 8 × Fin 32 × Nat)) (eyes : List (Fin 8 × Nat × Nat)) (t : Nat) (s : State) :
    Host.Outcome State Fault Refusal :=
  .next (State.settle
    (let s := s.tick t
     if s.bit 0x520001 4 && s.stack.result.isNone then s.mbistRepair rows eyes else s))

/-- What the JTAG port is connected to: a wrapper register of the die selected while 1500 access is 1, and BYPASS otherwise (R524). -/
def State.jtag (s : State) : Jtag :=
  if s.obj 0x520015 ≠ 1 then .bypass
  else if s.stack.ir = 0x2A then .wir (s.obj 0x520016)
  else if s.stack.ir = 0x2B then .wdr (s.obj 0x520016)
  else .bypass

/-- An instruction enters the JTAG instruction register (R524). -/
def State.jtagInstruction (s : State) (ir : Nat) : State := s.modStack fun k => { k with ir := ir }

/-- STK_WIR (R524). -/
def execStkWir (s : State) : Host.Outcome State Fault Refusal :=
  .next (State.settle (s.jtagInstruction 0x2A))

/-- STK_WDR (R524). -/
def execStkWdr (s : State) : Host.Outcome State Fault Refusal :=
  .next (State.settle (s.jtagInstruction 0x2B))

/-- A write of 1 to the clear lists object (R525). -/
def State.clearListsOp (s : State) : Answer :=
  s.unless (firstAbort [(s.engineState ≠ 0, 0x08000022)]) fun s => s.modMram fun mr => { mr with clearLists := true }

/-- CLEAR_LISTS (R525). -/
def execClearLists (via : Via) (s : State) : Host.Outcome State Fault Refusal :=
  .next (State.settle (s.access via 0x520008 State.clearListsOp))

/-- Every port's stack-loss range is empty again (R504). -/
def State.clearLoss (s : State) : State :=
  (List.range 16).foldl (fun s n => (s.setObj (0x520020 + n) 0xFFFFFFFF).setObj (0x520030 + n) 0xFFFFFFFF) s

/-- A write of the stack-loss clear: 1 clears every range (R504). -/
def State.stackLossOp (value : Nat) (s : State) : Answer :=
  s.unless (firstAbort [(1 < value, 0x06090030)]) fun s => if value = 1 then s.clearLoss else s

/-- STACK_LOSS_CLEAR (R504). -/
def execStackLossClear (via : Via) (value : Nat) (s : State) : Host.Outcome State Fault Refusal :=
  .next (State.settle (s.access via 0x520040 (State.stackLossOp value)))

end Sys2Proof.Machine
end

