-- ==== Sys2Proof/Machine/Thermal.lean ====
section
/-! DEFINITION. Die sensing, the thermal model, time to limit, and the ink heaters (05_head_thermal.md). -/

namespace Sys2Proof.Machine

/-- A valid sample of die `d` (R184, R187, R189). -/
def State.validSample (s : State) (n : Fin 16) (d code : Nat) : State :=
  let r := s.record n
  let t := 25 + sq 16 12 (rw16 r 0x40) * ((code : Int) - (rw16 r 0x42 : Int) : Int) + sq 16 8 (s.obj (pk 0x340005 n + d))
  let s := s.modPort n fun p => { p with meas := putKey p.meas d t, invalid := dropKey p.invalid d }
  let s := s.setObj (pk 0x34000E n + d) (toBits 16 (clampI (-32768) 32767 (roundQ 8 t)))
  let s := match findKey (s.port.get n).model d with
    | some m =>
      s.modPort n fun p => { p with model := putKey p.model d (m + uq 8 (rb r 0x45) * (t - m)) }
    | none => s.setModel n d t
  s.thermalStages n

/-- An invalid sample of die `d`; the eighth in a row is SENSE_FAULT (R183, R185). -/
def State.invalidSample (s : State) (n : Fin 16) (d : Nat) : State :=
  let c := storeGet (fun _ => 0) (s.port.get n).invalid d + 1
  let s := s.modPort n fun p => { p with invalid := putKey p.invalid d c }
  if c = 8 && !(s.port.get n).senseFault.testBit d then
    let s := s.modPort n fun p => { p with senseFault := p.senseFault ||| 1 <<< d }
    let s := ((s.setBit (pk 0x34001A n) 4 true).event (pk 0x34001B n) 2).bump (pk 0x340022 n)
    (s.raise 141 (n.val * 4 + d) 0).thermalStages n
  else s

/-- A conversion of the sense input that started at clock `a` has given a code (R172, R183). -/
def State.sample (s : State) (n : Fin 16) (a code : Nat) : State :=
  let p := s.port.get n
  let s := s.modPort n fun p => { p with
    tsAt := none, tsCode := code, tsDie := p.die, tsSeq := (p.tsSeq + 1) % 2 ^ 16 }
  if a < p.dieAt + rb (s.record n) 0x44 * 500 then s.bump (pk 0x340023 n)
  else if code ≤ 15 || 4080 ≤ code then s.invalidSample n p.die
  else s.validSample n p.die code

/-- TS_CONVERSION_DONE (R172, R183). -/
def execTsConversionDone (n : Fin 16) (code t : Nat) (s : State) : Host.Outcome State Fault Refusal :=
  .next (State.settle (match (s.port.get n).tsAt with
    | none => s
    | some a => if s.timing && s.portOn n then (s.tick t).sample n a (code % 4096) else s))

/-- THERMAL_IDLE_TICK: 100 µs while no cycle runs (R172, R186). -/
def execThermalIdleTick (n : Fin 16) (t : Nat) (s : State) : Host.Outcome State Fault Refusal :=
  .next (State.settle
    (if s.timing && s.portOn n && (s.port.get n).cur.isNone then
      ((s.tick t).startConversion n).updateModels n fun _ => 0
    else s))

/-- Models that no measurement has set take the reference temperature (R189). -/
def State.initModels (s : State) (n : Fin 16) : State :=
  let s := s.noteRef n
  let s := (List.range (s.dies n)).foldl (fun s d =>
    if (findKey (s.port.get n).model d).isNone then s.setModel n d (s.refTemp n).1 else s) s
  s.thermalStages n

/-- MODEL_INIT_TIMEOUT: 1 ms since the enable (R189). -/
def execModelInitTimeout (n : Fin 16) (t : Nat) (s : State) : Host.Outcome State Fault Refusal :=
  .next (State.settle
    (if s.timing && s.portOn n && s.modelUnset n && decide ((s.port.get n).enabledAt + 500000 ≤ t) then
      (s.tick t).initModels n
    else s))

/-- Energy in nJ of die `d` in the last 16 ms. -/
def State.recentEnergy (s : State) (n : Fin 16) (d : Nat) : Rat :=
  (((s.port.get n).energy.filter fun e => e.2.1 = d && decide (s.clk < e.1 + 8000000)).map (·.2.2)).sum

/-- Time to limit of a die in ms (R190). -/
def State.ttl (s : State) (n : Fin 16) (d : Nat) : Nat :=
  let r := s.record n
  let rth := uq 8 (rw16 r 0x4C)
  let p := s.recentEnergy n d / 16000000
  let tss := (s.refTemp n).1 + p * rth
  let lim := s.thermalField n 0x56
  if (s.port.get n).senseFault.testBit d then 0
  else match s.dieTemp n d with
    | none => 0xFFFFFFFF
    | some t =>
      if lim ≤ t then 0
      else if tss ≤ lim then 0xFFFFFFFF
      else min 0xFFFFFFFE ((rth * (rw16 r 0x4E : Rat) * lnQ ((tss - t) / (tss - lim))).floor.toNat)

/-- Every die's power and time to limit, and the port's smallest (R190, R207). -/
def State.portTtl (s : State) (n : Fin 16) : State :=
  if !s.portOn n then s
  else
    let s := s.noteRef n
    let s := (List.range (s.dies n)).foldl (fun s d =>
      let w := (roundQ 0 (s.recentEnergy n d / 1600000)).toNat
      (s.setObj (pk 0x340012 n + d) (s.ttl n d)).setObj (pk 0x340016 n + d) (min 65535 w)) s
    let least := (List.range (s.dies n)).foldl (fun m d => min m (s.obj (pk 0x340012 n + d))) 0xFFFFFFFF
    let s := s.setObj (pk 0x340009 n) least
    s.modPort n fun p => { p with energy := p.energy.filter fun e => decide (s.clk < e.1 + 8000000) }

/-- TTL_UPDATE: every 1 ms (R190). -/
def execTtlUpdate (t : Nat) (s : State) : Host.Outcome State Fault Refusal :=
  .next (State.settle
    (if s.timing then (List.finRange 16).foldl State.portTtl (s.tick t) else s))

/-- A write of 1 to the limit clear (R195). -/
def limitClearOp (n : Fin 16) (s : State) : Answer :=
  if (s.dieTemps n).all (fun t => decide (t < s.thermalField n 0x54)) && (s.port.get n).senseFault = 0 then
    (s.setBit (pk 0x34001A n) 3 false).accept
  else s.refuse 0x08000022

/-- LIMIT_CLEAR (R195). -/
def execLimitClear (via : Via) (n : Fin 16) (s : State) : Host.Outcome State Fault Refusal :=
  .next (State.settle (s.access via (pk 0x34001C n) (limitClearOp n)))

/-- Key of heater `h`. -/
def hk (k : Key) (h : Fin 4) : Key := k + h.val * 0x100

/-- A heater's hidden state is changed. -/
def State.modHeater (s : State) (h : Fin 4) (f : Heater → Heater) : State :=
  { s with heater := s.heater.set h (f (s.heater.get h)) }

/-- Temperature in degrees C of an averaged code above 0 (R196). -/
def State.ntcTemp (s : State) (h : Fin 4) (code : Rat) : Rat :=
  let r := 10000 * code / (4096 - code)
  1 / (100 / 29815 + lnQ (r / (s.obj (hk 0x49000A h) : Rat)) / (s.obj (hk 0x49000B h) : Rat)) - 27315 / 100

/-- The temperature of the averaged codes; a mean code of 0 has no logarithm, and its temperature is a free value. -/
def State.noteNtc (s : State) (h : Fin 4) : State :=
  let codes := (s.heater.get h).codes
  let avg : Rat := (codes.sum : Rat) / ((max 1 codes.length : Nat) : Rat)
  let (t, s) := if avg = 0 then (let (v, s) := s.draw; (sq 16 8 v, s)) else (s.ntcTemp h avg, s)
  let s := s.modHeater h fun p => { p with temp := some t, code := (roundQ 0 avg).toNat }
  s.setObj (hk 0x49000D h) (toBits 16 (clampI (-32768) 32767 (roundQ 8 t)))

/-- A heater's mode, state and duty are set. -/
def State.setHeater (s : State) (h : Fin 4) (mode st duty : Nat) : State :=
  ((s.setObj (hk 0x490001 h) mode).setObj (hk 0x49000F h) st).setObj (hk 0x49000E h) duty

/-- A code of an open or shorted sensor (R197). -/
def faultCode (code : Nat) : Bool := 4050 ≤ code || code ≤ 40

/-- A converted code is taken; the third fault code in a row is SENSOR_FAULT, and the ports whose reference the channel is fall back (R188, R196, R197, R205). -/
def State.ntcConversion (s : State) (h : Fin 4) (code : Nat) : State :=
  let p := s.heater.get h
  let bad := if faultCode code then p.bad + 1 else 0
  let s := s.modHeater h fun p => { p with codes := (code :: p.codes).take 8, bad := bad }
  let s := s.noteNtc h
  if 3 ≤ bad && s.obj (hk 0x49000F h) ≠ 4 then
    let s := ((s.setHeater h 0 4 0).event (hk 0x490010 h) (if 4050 ≤ code then 1 else 2)).bump (hk 0x490021 h)
    let s := (s.modHeater h fun p => { p with integral := 0, prev := none }).raise 143 h.val 0
    (List.finRange 16).foldl (fun s n => if s.portOn n && s.obj (pk 0x340003 n) = h.val then s.noteRef n else s) s
  else s

/-- NTC_CONVERSION: every 1 ms (R196). -/
def execNtcConversion (h : Fin 4) (code t : Nat) (s : State) : Host.Outcome State Fault Refusal :=
  .next (State.settle (if s.timing && !s.gated 0x490000 then (s.tick t).ntcConversion h (code % 4096) else s))

/-- The PID computes the duty at the end of a period (R199). -/
def State.pid (s : State) (h : Fin 4) (t : Rat) : State :=
  let p := s.heater.get h
  let dt := (s.obj (hk 0x490009 h) : Rat) / 1000
  let lim := uq 16 (s.obj (hk 0x490005 h))
  let e := sq 16 8 (s.obj (hk 0x490002 h)) - t
  let u := uq 16 (s.obj (hk 0x490006 h)) * e + p.integral - uq 16 (s.obj (hk 0x490008 h)) * (t - p.prev.getD t) / dt
  let held := (lim < u && 0 < e) || (u < 0 && e < 0)
  let i := if held then p.integral else clampQ 0 lim (p.integral + uq 16 (s.obj (hk 0x490007 h)) * e * dt)
  let s := s.modHeater h fun p => { p with integral := i, prev := some t }
  let s := s.setObj (hk 0x49000E h) (min (s.obj (hk 0x490005 h)) (roundQ 16 (clampQ 0 lim u)).toNat)
  if u < 0 || lim < u then (s.bump (hk 0x490022 h)).event (hk 0x490010 h) 3 else s

/-- PID_UPDATE: the end of a PID period (R199). -/
def execPidUpdate (h : Fin 4) (t : Nat) (s : State) : Host.Outcome State Fault Refusal :=
  .next (State.settle (match (s.heater.get h).temp with
    | none => s
    | some temp =>
      if s.timing && !s.gated 0x490000 && s.obj (hk 0x49000F h) = 1 then (s.tick t).pid h temp else s))

/-- HEATER_CUT: the comparator trips (R200). -/
def execHeaterCut (h : Fin 4) (t : Nat) (s : State) : Host.Outcome State Fault Refusal :=
  .next (State.settle
    (let s := (s.tick t).modHeater h fun p => { p with tripped := true }
     if s.obj (hk 0x49000F h) = 3 then s
     else (((s.setHeater h 0 3 0).event (hk 0x490010 h) 0).bump (hk 0x490020 h)).raise 144 h.val 0))

/-- A write of 1 to the cut clear (R201). -/
def cutClearOp (h : Fin 4) (s : State) : Answer :=
  if (s.heater.get h).tripped then s.refuse 0x08000022
  else if s.obj (hk 0x49000F h) = 3 then (s.setHeater h 0 0 0).accept
  else s.accept

/-- CUT_CLEAR (R201). -/
def execCutClear (via : Via) (h : Fin 4) (s : State) : Host.Outcome State Fault Refusal :=
  .next (State.settle (s.access via (hk 0x490011 h) (cutClearOp h)))

/-- CUT_COMPARATOR_RELEASE: the NTC voltage is above the threshold again (R201). -/
def execCutComparatorRelease (h : Fin 4) (s : State) : Host.Outcome State Fault Refusal :=
  .next (State.settle (s.modHeater h fun p => { p with tripped := false }))

/-- The latest three converted codes are those of a sound sensor (R197). -/
def Heater.sound (p : Heater) : Bool := 3 ≤ p.codes.length && (p.codes.take 3).all fun c => !faultCode c

/-- A channel goes to mode 0; CUT and SENSOR_FAULT stay (R197, R201, R203). -/
def State.heaterOff (s : State) (h : Fin 4) : State :=
  let st := s.obj (hk 0x49000F h)
  (s.modHeater h fun p => { p with integral := 0, prev := none }).setHeater h 0 (if st = 3 || st = 4 then st else 0) 0

/-- A write of the heater mode; a write of the mode in force changes nothing (R197, R199, R202). -/
def heaterModeOp (h : Fin 4) (mode : Nat) (s : State) : Answer :=
  let st := s.obj (hk 0x49000F h)
  if (mode = 1 || mode = 2) && (st = 3 || st = 4) then s.refuse 0x08000022
  else if 2 < mode then s.refuse 0x06090030
  else
    if st = 3 then s.accept
    else if st = 4 then (if (s.heater.get h).sound then s.setHeater h 0 0 0 else s).accept
    else if s.obj (hk 0x490001 h) = mode then s.accept
    else
      let s := s.modHeater h fun p => { p with integral := 0, prev := none }
      let duty := if mode = 2 then min (s.obj (hk 0x490004 h)) (s.obj (hk 0x490005 h)) else 0
      (s.setHeater h mode mode duty).accept

/-- HEATER_MODE_WRITE (R202). -/
def execHeaterModeWrite (via : Via) (h : Fin 4) (mode : Nat) (s : State) : Host.Outcome State Fault Refusal :=
  .next (State.settle (s.access via (hk 0x490001 h) (heaterModeOp h mode)))

end Sys2Proof.Machine
end

