-- ==== Sys2Proof/Machine/Clocks.lean ====
section
/-! DEFINITION. Reset and start-up, the clock state machine, operating points, gates, SAFE_L, the junction sensor and the VBAT domain (R603 to R635). -/

namespace Sys2Proof.Machine

/-- The MRAM at a reset: erasures asked for before it are made (R525, R573, R658). -/
def Mram.atReset (m : Mram) : Mram :=
  let m := if m.clearLists then { m with repair := RepairLists.blank, clearLists := false } else m
  let m := if m.cfgErase then { m with cfg := none, cfgErase := false } else m
  if m.clearRetired then
    { m with lanesRetired := 0, pairsRetired := 0, laneTimes := [], pairTimes := [], clearRetired := false }
  else m

/-- A channel's repairs are restored, and a channel beyond its budgets is retired at this boundary (R511, R517, R525). -/
def State.restoreChannel (s : State) (c : Fin 8) : State :=
  let r := s.mram.repair
  let m := storeGet (fun _ => 0xFFFFFFFFFF) r.laneSpares c.val
  let used := ((List.range 4).filter fun i => field m (8 * i) 8 ≠ 0xFF).length
  let s := ((s.setObj (ck8 0x510019 c) m).setObj (ck8 0x510010 c) used).setObj (ck8 0x510011 c)
    (b2n (field m 32 8 ≠ 0xFF))
  let rows := r.rows.filter fun x => x.1 = c.val
  let s := s.setObj (ck8 0x510012 c) ((List.range 8).foldl (fun v g =>
    putField v (8 * g) 8 (rows.filter fun x => x.2.1 / 4 = g).length) 0)
  let pages := (r.pages.filter fun x => x.1 = c.val).length
  let s := s.setObj (ck8 0x510013 c) pages
  if r.channels.testBit c.val then
    ((s.setObj (ck8 0x500020 c) 3).setBit 0x200003 c.val false).setBit (ck8 0x51001A c) 1 true
  else if 5 ≤ s.retrains c.val ∨ s.pageBudget < pages then s.channelOut c
  else s

/-- The map in force after a reset: the order and the channels stored in MRAM (R465, R491, R518). -/
def State.restoreStack (s : State) : State :=
  let s := (List.finRange 8).foldl State.restoreChannel s
  let s := s.setObj 0x500002 s.mram.mapOrder
  let s := s.modStack fun k => { k with mapped := s.inService }
  ((s.setObj 0x520003 s.mram.repair.pages.length).setPopulated.placeRegions).setBit 0x520001 0 false

/-- Objects restored from MRAM and the straps (R600, R606, R626, R658). -/
def State.restoreObjects (s : State) (cause straps : Nat) : State :=
  let s := ((s.setObj 0x5E0020 s.mram.lanesRetired).setObj 0x5E0021 s.mram.pairsRetired).setObj 0x200008 s.mram.slotNext
  let s := ((s.setObj 0x21000D (2 ^ cause)).setObj 0x210002 straps).setObj 0x210001 (4 ^ (straps % 4))
  s.eventIf (straps.testBit 3) 0x210004 12

/-- SAFE_L goes low: outputs inert, FAULT, ports and axes OFF, heaters in mode 0 (R137, R289, R630). -/
def State.safeDown (s : State) : State :=
  let before := s
  let s := s.modClocks fun ck_ => { ck_ with safeLow := true }
  let s := (List.finRange 16).foldl (fun s n => ((s.cutPulse s.clk n).cutFe s.clk n).cutFrame s.clk n) s
  let s := (s.event 0x210004 9).raise 128 0xFF 0
  let s := s.enterFault 128
  let s := before.lanesSync ((List.finRange 16).foldl (fun s n => if s.portState n.val = 0 then s else s.portOff n) s)
  let s := (List.finRange 4).foldl (fun s a => ((s.cutStep a).setObj (ak 0x480001 a) 0).axisOff a) s
  (List.finRange 4).foldl State.heaterOff s

/-- Reset values in which the LB7240-16A differs: stack height, regions, and rows of a refresh (R30, R31, R528). -/
def State.layout16 (s : State) : State :=
  let s := [(0x200001, 4), (0x200010, 0x1000000000), (0x200011, 0x180000000), (0x200012, 0x1180000000), (0x200013, 0x80000000),
    (0x200014, 0x1200000000), (0x200015, 0x80000000), (0x200016, 0x1280000000), (0x200017, 0x20000000),
    (0x200018, 0x12A0000000), (0x200019, 0x12A8000000), (0x101802, 0x724016)].foldl (fun (s : State) kv => s.setObj kv.1 kv.2) s
  (List.range 8).foldl (fun s c => s.setObj (0x510014 + c * 0x100) 327) s

/-- Every block but the VBAT domain and the MRAM is reset (R626, R627); the queue of commands lies outside the device. -/
def State.resetDevice (s : State) (cause straps : Nat) (ctl : Ctl) (safeHigh vrHigh : Bool) : State :=
  let t := { State.reset with
    variant := s.variant, clk := s.clk, vbat := s.vbat, mram := s.mram.atReset, pending := s.pending, draws := s.draws
    clocks := { Clocks.reset with ctl := ctl, straps := straps, vrPin := vrHigh, brownOut := decide (cause = 3) } }
  let t := match s.variant with
    | .v32A => t
    | .v16A => t.layout16
  let t := ((t.restoreObjects cause straps).restoreStack).checkChannels
  if safeHigh then t else t.safeDown

/-- The lifetime totals at power-on: of the two copies, the valid one with the higher sequence number; with none valid they start again at 0 (R638, R651; DEDUCED, log entry 180). -/
def State.readTotals (s : State) (latest older : MramRead) : State :=
  let s := (s.mramRead 5 latest).mramRead 5 older
  if !readFails latest then s
  else if !readFails older then s.modMram fun mr => { mr with totals := mr.totalsOld, totalsSeq := mr.totalsSeq - 1 }
  else s.modMram fun mr => { mr with totals := [], totalsOld := [], totalsSeq := 0 }

/-- POWER_ON (R606, R626, R627, R638). -/
def execPowerOn (straps : Nat) (safeHigh : Bool) (vrHigh : PowerUp) (s : State) : Host.Outcome State Fault Refusal :=
  .next (State.settle
    ((s.resetDevice 0 (straps % 16) .rcStart safeHigh vrHigh.vrHigh).readTotals vrHigh.latest vrHigh.older))

/-- RESET_PIN: RESET_L has been low and is high again (R606, R626, R627). -/
def execResetPin (straps : Nat) (safeHigh vrHigh : Bool) (s : State) : Host.Outcome State Fault Refusal :=
  .next (State.settle (s.resetDevice 1 (straps % 16) .rcStart safeHigh vrHigh))

/-- The checks of a software reset (R626). -/
def softResetCheck (value : Nat) (s : State) : Option Nat :=
  firstAbort [(s.engineState ≠ 0 ∧ s.engineState ≠ 6, 0x08000022), (value ≠ 0x74657372, 0x06090030)]

/-- SOFTWARE_RESET: the reset follows the response (R626). -/
def execSoftwareReset (via : Via) (value straps : Nat) (s : State) : Host.Outcome State Fault Refusal :=
  .next (State.settle
    (let r := s.access via 0x21000E fun s => s.unless (softResetCheck value s) fun s => s
     let reaches := via = .reg ∨ (s.slave.al ≠ .init ∧ s.slave.al ≠ .boot)
     if via ≠ .pdo ∧ reaches ∧ (softResetCheck value s).isNone then
       (r.resetDevice 2 (straps % 16) .rcStart (!s.clocks.safeLow) s.clocks.vrPin).answer .done
     else r))

/-- BROWN_OUT: a monitored rail falls below its threshold, and the controller stays in RESET (R625). -/
def execBrownOut (s : State) : Host.Outcome State Fault Refusal :=
  .next (State.settle (s.resetDevice 3 0 .reset true true))

/-- RAILS_BACK_IN_RANGE: 1 ms later internal reset is released and the straps are sampled (R606, R607, R625). -/
def execRailsBackInRange (straps : Nat) (s : State) : Host.Outcome State Fault Refusal :=
  .next (State.settle
    (if s.clocks.ctl = .reset && s.clocks.brownOut then s.resetDevice 3 (straps % 16) .rcStart true true else s))

/-- RC_READY: the RC runs (R602, R607, R613). -/
def execRcReady (s : State) : Host.Outcome State Fault Refusal :=
  .next (State.settle
    (match s.clocks.ctl with
     | .rcStart => s.modClocks fun c => { c with rcReady := true, ctl := .refWait }
     | .holdReset =>
       ((s.modClocks fun c => { c with rcReady := true, ctl := .clockHold, startPending := true }).setObj 0x200021 1).enterFault 129
     | _ => s))

/-- The reference settles: active for the settle delay (R606, R608). -/
def State.refSettled (s : State) : State :=
  match s.clocks.ctl with
  | .refWait => s.modClocks fun c => { c with refReady := true, ctl := .pllLock }
  | .clockHold => s.modClocks fun c => { c with refReady := true }
  | _ => s

/-- REF_READY: the reference has been active for `activeUs` microseconds, which meets the settle delay or does not (R606, R608, R612). -/
def execRefReady (activeUs : Nat) (s : State) : Host.Outcome State Fault Refusal :=
  .next (State.settle (if s.obj 0x210001 * 1000 ≤ activeUs then s.refSettled else s))

/-- A window of 32 RC cycles is out of range by its count of reference cycles (R609). -/
def windowOut (count : Nat) : Bool := count < 22 || 28 < count

/-- REF_WINDOW_OUT_OF_RANGE: a window's count out of range starts the settle delay again (R608, R609, R612). -/
def execRefWindowOutOfRange (count : Nat) (s : State) : Host.Outcome State Fault Refusal :=
  .next (State.settle
    (if windowOut count && (s.clocks.ctl = .refWait ∨ s.clocks.ctl = .clockHold) then
       s.modClocks fun c => { c with refReady := false }
     else s))

/-- The boot ROM reads an MRAM slot, and finds an image whose header checks in it or does not (R628, R651). -/
def State.readImage (s : State) (images : BootImages) (slot : Nat) : Bool × State :=
  let m := if slot = 0 then images.slotA else images.slotB
  ((if slot = 0 then s.mram.slotA else s.mram.slotB).isSome && !readFails m, s.mramRead slot m)

/-- The boot ROM selects an image: the next slot, the other slot, the recovery flash, or the flash alone (R628). -/
def State.selectImage (s : State) (images : BootImages) : Nat × State :=
  let flash := if images.flashOk then 2 else 0xFF
  let first := s.mram.slotNext % 2
  if s.clocks.straps.testBit 2 then (flash, s)
  else match s.readImage images first with
    | (true, s) => (first, s)
    | (false, s) => match s.readImage images (1 - first) with
      | (true, s) => (1 - first, s)
      | (false, s) => (flash, s)

/-- The boot ROM takes the image it selects, and the self-test begins once the stack has trained (R628, R629). -/
def State.boot (s : State) (images : BootImages) : State :=
  let r := s.selectImage images
  let s := r.2.setObj 0x200007 r.1
  if s.allTrained then s.beginSelfTest else s

/-- The boot ROM runs once the SRAM has been cleared, and waits for it until then (R540, R628). -/
def State.bootWhenClear (s : State) (images : BootImages) : State :=
  if s.bit 0x580008 0 then (s.modClocks fun c => { c with startPending := false } : State).boot images
  else s.modClocks fun c => { c with startPending := true }

/-- PLL_LOCKED: RUN, with the core on PLL_C at P0 (R607, R613, R628). -/
def execPllLocked (romOk : BootImages) (s : State) : Host.Outcome State Fault Refusal :=
  .next (State.settle
    (if s.clocks.ctl = .pllLock then (s.modClocks fun c => { c with pll := 15, ctl := .run }).bootWhenClear romOk
     else if s.clocks.ctl = .run && s.clocks.startPending then s.bootWhenClear romOk
     else s))

/-- PLL_FAIL (R608). -/
def execPllFail (s : State) : Host.Outcome State Fault Refusal :=
  .next (State.settle
    (if s.clocks.ctl = .pllLock then
       (s.modClocks fun c => { c with pll := 0, refReady := false, ctl := .refWait }).event 0x210004 2
     else s))

/-- The position unit stops with the timing domain: its extrapolation stands still (R87). -/
def State.freezePosition (s : State) : State :=
  let raw := s.rawExtrap s.clk
  (s.keepTrack s.clk).modPosition fun pos => { pos with heldAt := some raw }

/-- Reference loss in RUN: nothing is recorded, FE and heaters are inert, the engine enters FAULT, the stack enters self-refresh, and the timing domain stops (R87, R137, R203, R487, R602, R610, R611, R692). -/
def State.refLoss (s : State) : State :=
  let s := ((List.finRange 16).foldl (fun s n => (s.haltPort n).cutFrame s.clk n) s).freezePosition
  let s := (List.finRange 4).foldl (fun s h => s.setObj (hk 0x49000E h) 0) s
  let s := (((s.event 0x210004 0).bump 0x210020).raise 129 0xFF 0).enterFault 129
  let s := (List.finRange 4).foldl State.haltMotion ((s.enterSelfRefresh false).dmaStops.setObj 0x200021 1)
  s.modClocks fun c => { c with ctl := .clockHold, refReady := false, pll := 0, psBusy := none, psNext := none }

/-- Reference loss is declared: the second consecutive window out of range, no edge for 1 us, or a PLL unlocked in RUN (R609). -/
def State.refLost (s : State) (cause : RefLossCause) : Bool :=
  match cause with
  | .windows l => 2 ≤ l.length && (l.drop (l.length - 2)).all windowOut
  | .noEdge ns => 1000 ≤ ns
  | .unlock m => decide (s.clocks.ctl = .run) && m % 16 ≠ 0

/-- Reference loss in the states of the clock controller (R610 to R613). -/
def State.refLossAt (s : State) (t : Nat) : State :=
  match s.clocks.ctl with
  | .run => (s.tick t).refLoss
  | .rcStart => s.modClocks fun c => { c with ctl := .holdReset }
  | .clockHold => s.modClocks fun c => { c with refReady := false }
  | _ => s

/-- REF_LOSS: loss of the reference or of a PLL's lock, where the cause declares it (R609 to R613). -/
def execRefLoss (cause : RefLossCause) (t : Nat) (s : State) : Host.Outcome State Fault Refusal :=
  .next (State.settle (if s.refLost cause then s.refLossAt t else s))

/-- Objects whose key satisfies `p` return to their defaults. -/
def State.resetObjects (s : State) (p : Key → Bool) : State :=
  { s with od := s.od.filter (fun x => !p x.1), dom := s.dom.filter fun x => !p x.1 }

/-- Head ports and the position unit on leaving CLOCK_HOLD (R86, R87, R105, R137, R289). -/
def State.portsAfterHold (s : State) : State :=
  let before := s
  let s := (List.finRange 16).foldl (fun s n => (s.portOff n).modPort n fun p => { p with flushDue := false }) s
  let s := before.lanesSync s
  let s := s.resetObjects fun k =>
    k = 0x220001 || k = 0x220030 || (0x220010 ≤ k && k < 0x220030) || (0x220040 ≤ k && k ≤ 0x220042)
  ({ s with position := Position.reset } : State).modeSync before.extrapValid

/-- Heaters, axes, ingest, cameras, Kaleidoscope, the analyser and DMA on leaving CLOCK_HOLD (R203, R247, R364, R386, R425, R457, R555); the history is erased, so that it is not used again (DESIGN CHOICE, log entry 134). -/
def State.blocksAfterHold (s : State) : State :=
  let s := (List.finRange 4).foldl (fun s h => (s.heaterOff h).modHeater h fun p => { Heater.reset with tripped := p.tripped }) s
  let s := s.resetObjects fun k => k / 0x10000 = 0x25 || k / 0x10000 = 0x41 || k / 0x10000 = 0x42 || k / 0x10000 = 0x48 ||
    [0x400001, 0x400020, 0x400026, 0x400030].contains (baseKey k) || (k / 0x10000 = 0x58 && !(0x580008 ≤ baseKey k && baseKey k < 0x580010))
  let s := s.clearBytes (s.obj 0x200014) (s.obj 0x200015)
  { s with
    ingest := Ingest.reset, camera := Vector.replicate 2 Camera.reset, kaleido := Kaleido.reset
    analyser := { Analyser.reset with worked := s.analyser.worked }, axis := Vector.replicate 4 Axis.reset, dma := Vector.replicate 32 DmaChan.reset }

/-- VID code of an operating point (R617). -/
def vidCode (p : Nat) : Nat := if p = 0 then 15 else if p = 1 then 11 else if p = 2 then 8 else 5

/-- A register lies in a block that leaving CLOCK_HOLD resets: head ports, DMA, cameras, analyser, axes, position (R86, R87, R289, R364, R425, R457, R555). -/
def inHoldReset (a : Nat) : Bool :=
  [0x1010, 0x1030, 0x1040, 0x1041, 0x1042, 0x1050, 0x1060].contains (a / 0x10000)

/-- Values captured for register pairs and latches of those blocks are gone (R75, R86, R87, R93). -/
def State.dropHeld (s : State) : State := { s with held := s.held.filter fun h => !inHoldReset h.1 }

/-- The device leaves CLOCK_HOLD (R490, R612, R613). -/
def State.holdExit (s : State) : State :=
  let s := s.modClocks fun c => { c with ctl := .run, pll := 15, vid := vidCode (s.obj 0x210005) }
  let s := ((s.setObj 0x210006 (s.obj 0x210005)).setObj 0x200021 (b2n s.clocks.dcOn)).modStack fun k =>
    if k.sr ≠ .off && !s.bit 0x50000E 2 then { k with sr := .leaving, leftAt := s.stackNow } else k
  ((s.portsAfterHold.blocksAfterHold.dropHeld).event 0x210004 1).bump 0x210021

/-- HOLD_EXIT: the reference has settled and every PLL has locked (R612). -/
def execHoldExit (t : Nat) (s : State) : Host.Outcome State Fault Refusal :=
  .next (State.settle
    (if s.clocks.ctl = .clockHold && s.clocks.refReady then (s.at t).holdExit else s))

/-- The RC's cycles in 100 us lie outside 28.8 to 35.2 MHz (R614). -/
def rcOut (cycles : Nat) : Bool := cycles < 2880 || 3520 < cycles

/-- RC_FAULT: the RC's count over 100 us while the reference is active (R614). -/
def execRcFault (cycles t : Nat) (s : State) : Host.Outcome State Fault Refusal :=
  .next (State.settle
    (let s := s.tick t
     if rcOut cycles && s.clocks.ctl = .run && !s.clocks.rcFault then
       (((s.modClocks fun c => { c with rcFault := true }).event 0x210004 8).bump 0x210027).raise 130 0xFF 0
     else s))

/-- A write of the core source (R615). -/
def coreSourceOp (source : Nat) (s : State) : Answer :=
  let ready := if source = 1 then s.clocks.rcReady else s.clocks.pll.testBit 0
  match firstAbort [(s.engineState ≠ 0 || decide (s.clocks.ctl = .clockHold), 0x08000022), (1 < source, 0x06090030)] with
  | some a => s.refuse a
  | none =>
    if ready then (s.setObj 0x210009 source).accept
    else (some 0x08000022, (s.event 0x210004 3).bump 0x210022)

/-- CORE_SOURCE_SWITCH (R615, R616). -/
def execCoreSourceSwitch (via : Via) (source : Nat) (s : State) : Host.Outcome State Fault Refusal :=
  .next (State.settle (s.access via 0x210009 (coreSourceOp source)))

/-- An operating point comes into force (R619). -/
def State.setPoint (s : State) (p : Nat) : State :=
  if s.obj 0x210006 = p then s else ((s.setObj 0x210006 p).event 0x210004 7).bump 0x210026

/-- The sequencer drives a point's voltage. -/
def State.setVid (s : State) (p : Nat) : State := s.modClocks fun c => { c with vid := vidCode p }

/-- A change of operating point starts: a lower point is in force at once (R619). -/
def State.startPoint (s : State) (p : Nat) : State :=
  let now := s.obj 0x210006
  if p = now then s
  else
    let s := if now < p then s.setPoint p else s
    (s.setVid p).modClocks fun c => { c with psBusy := some p }

/-- A write of the requested operating point (R619, R620, R631). -/
def pstateOp (p : Nat) (s : State) : Answer :=
  let blocked := decide (s.clocks.ctl = .clockHold) || ((s.clocks.vrBlocked || s.clocks.hot) && decide (p < s.obj 0x210006))
  s.unless (firstAbort [(blocked, 0x08000022), (3 < p, 0x06090030)]) fun s =>
    let s := s.setObj 0x210005 p
    if s.clocks.psBusy.isSome then s.modClocks fun c => { c with psNext := some p } else s.startPoint p

/-- PSTATE_REQUEST (R619). -/
def execPstateRequest (via : Via) (point : Nat) (s : State) : Host.Outcome State Fault Refusal :=
  .next (State.settle (s.access via 0x210005 (pstateOp point)))

/-- The change in progress ends, and the latest request made during it is taken (R619). -/
def State.pointDone (s : State) (p : Nat) (timedOut : Bool) : State :=
  let s :=
    if timedOut then
      let s := (s.event 0x210004 5).bump 0x210024
      if p < s.obj 0x210006 then s.setVid (s.obj 0x210006) else s
    else s.setPoint p
  let next := s.clocks.psNext
  let s := s.modClocks fun c => { c with psBusy := none, psNext := none }
  match next with
  | some q => s.startPoint q
  | none => s

/-- A change of operating point ends after the VR settle time, when VR_READY is high or the VR timeout has passed as well (R619). -/
def State.pointEnds (s : State) (vrReady : Bool) (waitedUs : Nat) : Bool :=
  decide (s.obj 0x210007 + (if vrReady then 0 else s.obj 0x210008) ≤ waitedUs)

/-- PSTATE_DONE: `waitedUs` microseconds after the VID code was driven, with VR_READY at a level (R619). -/
def execPstateDone (vrReady : Bool) (waitedUs : Nat) (s : State) : Host.Outcome State Fault Refusal :=
  .next (State.settle
    (match s.clocks.psBusy with
     | some p => if s.pointEnds vrReady waitedUs then s.pointDone p (!vrReady) else s
     | none => s))

/-- The sequencer falls to P3; in CLOCK_HOLD the core runs from the RC, and no point comes into force (R611, R620, R631). -/
def State.fallToP3 (s : State) : State :=
  if s.clocks.ctl = .clockHold then s else ((s.setPoint 3).setVid 3).modClocks fun c => { c with psBusy := none, psNext := none }

/-- VR_FAULT: VR_READY low after its filter outside a change (R620). -/
def execVrFault (t : Nat) (s : State) : Host.Outcome State Fault Refusal :=
  .next (State.settle
    (if s.clocks.ctl = .run && s.clocks.psBusy.isNone then
       let s := (s.tick t).fallToP3.modClocks fun c => { c with vrPin := false, vrBlocked := true }
       (((s.event 0x210004 6).bump 0x210025).raise 131 0xFF 0).enterFault 131
     else s))

/-- VR_READY_RESTORED: VR_READY has been high for 1 ms (R620, R641). -/
def execVrReadyRestored (s : State) : Host.Outcome State Fault Refusal :=
  .next (State.settle (s.modClocks fun c => { c with vrPin := true, vrBlocked := false }))

/-- Gates whose close is refused now (R621). -/
def State.gatesInUse (s : State) : Nat :=
  let b := fun (i : Nat) (c : Bool) => if c then 1 <<< i else 0
  (List.range 16).foldl (fun m n => m ||| b n (s.portState n ≠ 0)) 0 |||
    b 16 (s.obj 0x400001 ≠ 0) ||| b 17 (s.obj 0x400101 ≠ 0) |||
    b 18 (s.obj 0x410001 ≠ 0 || s.obj 0x420001 ≠ 0) |||
    b 19 (s.linkState 0 ≠ 0 || s.linkState 1 ≠ 0) |||
    b 20 ((List.finRange 4).any fun a => s.axisState a ≠ 0) |||
    b 21 ((List.finRange 4).any fun h => s.obj (hk 0x490001 h) ≠ 0) |||
    b 22 ((List.finRange 32).any fun ch => s.obj (dk 0x580013 ch) ≠ 0)

/-- A write of the clock gates; the gates in `busy` have an access that outlasts 64 core clocks (R621, R623). -/
def clockGateOp (gates busy : Nat) (s : State) : Answer :=
  let closes := clearBits 23 (s.obj 0x21000A) gates
  s.unless (firstAbort [(closes &&& s.gatesInUse ≠ 0, 0x08000022), (2 ^ 23 ≤ gates, 0x06090030)]) fun s =>
    let shut := clearBits 23 (2 ^ 23 - 1) gates
    let waits := closes &&& busy
    (s.setObj 0x21000A gates).modClocks fun c => { c with closing := (c.closing &&& shut) ||| waits, closed := clearBits 23 shut ((c.closing &&& shut) ||| waits) }

/-- CLOCK_GATE_WRITE (R621, R623). -/
def execClockGateWrite (via : Via) (gates busy : Nat) (s : State) : Host.Outcome State Fault Refusal :=
  .next (State.settle (s.access via 0x21000A (clockGateOp gates busy)))

/-- GATE_ABORT: 64 core clocks after the close its gate closes anyway (R623). -/
def execGateAbort (gate : Nat) (s : State) : Host.Outcome State Fault Refusal :=
  .next (State.settle
    (if s.clocks.closing.testBit gate then
       ((s.modClocks fun c => { c with closing := putBit c.closing gate false, closed := putBit c.closed gate true }).event
         0x210004 4).bump 0x210023
     else s))

/-- SAFE_L_LOW (R630). -/
def execSafeLLow (t : Nat) (s : State) : Host.Outcome State Fault Refusal :=
  .next (State.settle (if s.clocks.safeLow then s else (s.tick t).safeDown))

/-- SAFE_L_HIGH (R630). -/
def execSafeLHigh (s : State) : Host.Outcome State Fault Refusal :=
  .next (State.settle (s.modClocks fun c => { c with safeLow := false }))

/-- A reading of the junction sensor in Q8.8 degrees (R631). -/
def State.junction (s : State) (temp : Int) : State :=
  let s := (s.setObj 0x21000C (toBits 16 temp)).eventIf (25600 ≤ temp) 0x210004 10
  let s := if temp < 26880 then s.modClocks fun c => { c with hot := false } else s
  if 28160 ≤ temp then
    let s := (s.event 0x210004 11).fallToP3.modClocks fun c => { c with hot := true }
    (s.raise 132 0xFF 0).enterFault 132
  else s

/-- JUNCTION_READING (R631). -/
def execJunctionReading (temp : Int) (t : Nat) (s : State) : Host.Outcome State Fault Refusal :=
  .next (State.settle ((s.tick t).junction temp))

/-- A write of the RTC (R633). -/
def rtcOp (value : Nat) (s : State) : Answer :=
  (s.modVbat fun vb => { vb with rtcBase := value % 2 ^ 64, rtcClk := s.clk, rtcValid := true }).accept

/-- RTC_WRITE (R633). -/
def execRtcWrite (via : Via) (value : Nat) (s : State) : Host.Outcome State Fault Refusal :=
  .next (State.settle (s.access via 0x210010 (rtcOp value)))

/-- RTC_STOP: the VBAT domain has lost power, or its crystal has stopped for 1 s (R633). -/
def execRtcStop (s : State) : Host.Outcome State Fault Refusal :=
  .next (State.settle
    (s.modVbat fun vb => { vb with rtcBase := 0, rtcClk := s.clk, rtcValid := false, retention := [] }))

/-- OPERATING_HOURS_TICK: a whole second in RUN or CLOCK_HOLD (R633, R638). -/
def execOperatingHoursTick (s : State) : Host.Outcome State Fault Refusal :=
  .next (State.settle
    (if s.clocks.ctl = .run ∨ s.clocks.ctl = .clockHold then
       (s.modVbat fun vb => { vb with hours := min (2 ^ 32 - 1) (vb.hours + 1) }).modHealth
         fun hl => { hl with ckSeconds := hl.ckSeconds + 1 }
     else s))

end Sys2Proof.Machine
end

