-- ==== Sys2Proof/Machine/Engine.lean ====
section
/-! DEFINITION. The engine's commands, their checks and the handshake of the command object (R34, R57, R576 to R587, R641, R646). -/

namespace Sys2Proof.Machine

/-- A judged command: the abort that refuses it, if any, its status code (R587), and the state after it. -/
structure Judged where
  abort : Option Nat
  status : Nat
  state : State

/-- A command that takes effect. -/
def State.obey (s : State) : Judged := { abort := none, status := 1, state := s }

/-- A command that is refused. -/
def State.deny (s : State) (abort status : Nat) : Judged := { abort := some abort, status := status, state := s }

/-- A command given in a state not listed for it (R578). -/
def State.wrongState (s : State) : Judged := s.deny 0x08000022 3

/-- ENABLE (R490, R578). -/
def enableCmd (s : State) : Judged :=
  if s.engineState ≠ 0 then s.wrongState
  else if s.slave.al ≠ .op then s.deny 0x08000022 5
  else if s.obj 0x5E0002 ≠ 2 ∧ s.obj 0x5E0002 ≠ 3 then s.deny 0x08000020 6
  else if s.stack.sr ≠ .off && s.stack.byCommand then s.wrongState
  else (s.emptyLines.analyserJobEnd.setEngine 1).stackBoundary.checkChannels.obey

/-- DISABLE (R578). -/
def disableCmd (s : State) : Judged := if s.engineState ≠ 1 then s.wrongState else s.enterDisabled.obey

/-- Base and size of every region; a repeat store of size 0 is none (R31). -/
def State.regions (s : State) : List (Nat × Nat) :=
  [(s.obj 0x200010, s.obj 0x200011), (s.obj 0x200012, s.obj 0x200013), (s.obj 0x200014, s.obj 0x200015),
   (s.obj 0x200016, s.obj 0x200017), (s.tables, s.fixedSize), (s.obj 0x200019, s.fixedSize)].filter fun r => r.2 ≠ 0

/-- Some two regions of a list overlap. -/
def overlapping : List (Nat × Nat) → Bool
  | [] => false
  | r :: t => t.any (fun q => decide (r.1 < q.1 + q.2 ∧ q.1 < r.1 + r.2)) || overlapping t

/-- The region layout is refused (R34, R241, R393). -/
def State.regionInvalid (s : State) : Bool :=
  s.regions.any (fun r => r.1 < 0x1000000000 || decide (0x1000000000 + s.populated < r.1 + r.2)) ||
    overlapping s.regions || decide (s.slots < s.requiredSlots) || decide (s.obj 0x200015 < s.historyNeeded)

/-- Ports with an enabled column. -/
def State.columnPorts (s : State) : List (Fin 16) := (List.finRange 16).filter fun n => !(s.columns n).isEmpty

/-- A port's configuration is refused; a port in ENABLING counts as disabled (R143, R145, R647). -/
def State.portConfigBad (s : State) : Bool :=
  (s.columnPorts.any fun n => !s.portEnabled n.val || s.portState n.val = 4 || s.portState n.val = 5 ||
      (s.columns n).any (fun k => decide (recCols (s.record n) ≤ k)) || s.mram.pairsRetired.testBit (1 + n.val / 4)) ||
    (List.finRange 16).any fun n => (s.port.get n).windup.isSome

/-- The render configuration is refused (R256). -/
def State.renderConfigBad (s : State) : Bool :=
  (s.columnPorts.any fun n => s.spanWidth n = 0) ||
    ((List.finRange 16).any fun n => decide (16384 < s.spanFirst n + s.spanWidth n) ||
      decide (8192 < s.planes n * s.spanWidth n)) ||
    s.renderedPorts.any fun n => decide (s.planeMask n &&& s.obj 0x250012 ≠ s.planeMask n)

/-- Seam zone of a port at its left or right end: start and width (R320). -/
def State.seamZone (s : State) (n : Fin 16) (right : Bool) : Nat × Nat :=
  let m := s.forceMap n
  let w := leAt m (if right then 0x12 else 0x10) 2
  (if right then s.spanFirst n + s.spanWidth n - w else s.spanFirst n, w)

/-- A seam zone has no partner that prints every plane of its port (R321). -/
def State.seamAlone (s : State) (n : Fin 16) (right : Bool) : Bool :=
  let z := s.seamZone n right
  z.2 ≠ 0 && !(s.renderedPorts.any fun m =>
    m ≠ n && s.seamZone m (!right) = z && decide (s.planeMask n &&& s.planeMask m = s.planeMask n))

/-- The enabled columns of a port differ in offset plus trim by more than 1,008 lines (R318). -/
def State.columnSpread (s : State) (n : Fin 16) : Bool :=
  let v := (s.columns n).map fun k => s.offset n k * 256 + s.obj (pk 0x320011 n + k)
  v.any fun a => v.any fun b => decide (a + 1008 * 256 < b)

/-- The Jigsaw configuration is refused (R318, R321). -/
def State.jigsawConfigBad (s : State) : Bool :=
  (s.columnPorts.any fun n => !s.mapPresent (s.mapForce n) || s.columnSpread n) ||
    s.renderedPorts.any fun n => s.seamAlone n true || s.seamAlone n false

/-- An unmaskable map in force refuses ARM under action 1 (R324). -/
def State.cannotMaskBad (s : State) : Bool :=
  (List.finRange 16).any fun n => s.obj (pk 0x380006 n) = 1 && !(s.unmaskable n (s.forceMap n)).isEmpty

/-- The first ARM check that fails, as its status; `pairs` are those whose test fails (R579). -/
def State.armRefusal (s : State) (pairs : List (Fin 5)) : Option Nat :=
  firstAbort [(s.bit 0x520001 1, 19), (s.regionInvalid, 9), (s.obj 0x250010 = 0 && s.obj 0x250020 ≠ 1, 11),
    (s.obj 0x250020 = 1 && decide (s.repPresent < s.repRequired), 12), (!pairs.isEmpty || s.portConfigBad, 13),
    (s.renderConfigBad, 14), (s.jigsawConfigBad, 15), (s.cannotMaskBad, 16), (s.analyserConfigBad, 17),
    (s.obj 0x240005 = 1 && !((List.finRange 4).any fun a => s.axisState a = 5), 18),
    (s.obj 0x230018 ≠ 0 && s.obj 0x230018 ≠ s.forceCrc, 10)]

/-- The pairs that have mismatched since the previous ARM are tested; those that fail count a mismatch (R646). -/
def State.testPairs (s : State) (fails : List Nat) : State :=
  let mask := fails.foldl (fun a p => a ||| 1 <<< p) 0
  let s := s.modHealth fun hl => { hl with pairsSuspect := mask }
  fails.foldl (fun s p => (s.raise 133 p 0).pairMismatch p) s

/-- A refused ARM: the pair tests of check 5 and CONFIG_CRC have their effects where they are reached (R127, R646). -/
def State.armRefused (s : State) (fails : List Nat) (status : Nat) : State :=
  let before := [19, 9, 11, 12].contains status
  let s := if before then s else s.testPairs fails
  s.eventIf (status = 10) 0x230019 7

/-- Entry into ARMED (R127, R323, R393, R415). -/
def State.enterArmed (s : State) : State :=
  let s := (s.testPairs []).setObj 0x5F1009 0xFFFFFFFF
  let s := ((s.modEngine fun eng => { eng with crcUnchecked := decide (s.obj 0x230018 = 0) }).modSched
    fun sch => { sch with setSeq := [], mapSince := [], archived := [] }).modAnalyser fun ana => { ana with marked := [] }
  let s := (List.finRange 16).foldl (fun s n =>
    let s := s.countForce n
    if s.analyser.batched.testBit n.val then s else s.calibrate n) s.setDepths
  s.setEngine 2

/-- ARM: `pairFails` are the pairs whose test fails, of those that have mismatched since the previous ARM (R579, R646). -/
def armCmd (pairFails : List (Fin 5)) (s : State) : Judged :=
  if s.engineState ≠ 1 then s.wrongState
  else
    let fails := pairFails.filter fun p => s.health.pairsSuspect.testBit p.val
    match s.armRefusal fails with
    | some status => (s.armRefused (fails.map (·.val)) status).deny 0x08000020 status
    | none => s.enterArmed.obey

/-- The origin of a job that starts (R57). -/
def State.startOrigin (s : State) : State :=
  match s.obj 0x22000D with
  | 0 => (s.latchOriginAt s.clk).placeFirst
  | 3 => (s.setOrigin (s.obj 0x22000E) s.clk).placeFirst
  | src => (s.modPosition fun pos => { pos with await := some src }).setBit 0x220015 5 false

/-- START (R580). -/
def startCmd (s : State) : Judged :=
  let l := s.obj 0x5F1002
  if s.engineState ≠ 2 then s.wrongState
  else if 2 ^ 31 ≤ l ∧ l ≠ 0xFFFFFFFF then s.deny 0x06090030 4
  else
    let s := (s.setObj 0x5F1009 l).setEngine 3
    ((s.modEngine fun eng => { eng with inJob := true }).startOrigin).obey

/-- A cycle keeps the columns whose lines lie in the job (R95). -/
def State.trimCycle (s : State) (n : Fin 16) (c : Cycle) : Cycle :=
  { c with
    events := c.events.filter fun kt => s.takesPart n c.m kt.1
    part := (List.range 8).foldl (fun a k => if c.part.testBit k && s.takesPart n c.m k then a ||| 1 <<< k else a) 0 }

/-- The port's cycles follow a new last line: one that has passed its load deadline or its first event keeps what it has for the lines still in the job, and one that has not is placed again (R95, R100). -/
def State.replace (s : State) (n : Fin 16) : State :=
  let s := s.modPort n fun p => { p with
    cur := p.cur.map (s.trimCycle n), blanked := (p.blanked.map (s.trimCycle n)).filter fun c => !c.events.isEmpty }
  match (s.port.get n).next with
  | none => s.placeOn n
  | some c =>
    let d := s.trimCycle n c
    if !c.released then s.placeNext n c.m
    else if d.events.isEmpty then s.placeNext n ((c.m + 1) % 2 ^ 32)
    else s.modPort n fun p => { p with next := some d }

/-- DRAIN (R581). -/
def drainCmd (s : State) : Judged :=
  let l := s.obj 0x5F1002
  let early := s.renderedPorts.any fun n => match s.fireLine n with
    | some f => !lineAtOrBeyond l f
    | none => false
  if s.engineState ≠ 3 ∧ s.engineState ≠ 5 then s.wrongState
  else if 2 ^ 31 ≤ l || early then s.deny 0x06090030 4
  else ((List.finRange 16).foldl State.replace (s.setObj 0x5F1009 l)).obey

/-- HOLD (R578). -/
def holdCmd (s : State) : Judged :=
  if 2 ≤ s.engineState ∧ s.engineState ≤ 4 then s.enterHold.obey else s.wrongState

/-- RESUME (R170, R578). -/
def resumeCmd (s : State) : Judged :=
  if s.engineState ≠ 5 then s.wrongState
  else if (List.finRange 16).any fun n => (s.port.get n).windup.isSome then s.deny 0x08000022 8
  else (s.setEngine s.engine.heldFrom).obey

/-- STOP (R578). -/
def stopCmd (s : State) : Judged := if s.inJobState then s.enterStandby.obey else s.wrongState

/-- A lasting cause holds (R486, R519, R578, R620, R631, R641). -/
def State.lastingCause (s : State) : Bool :=
  decide (s.stack.sr ≠ .off) || s.bit 0x520001 2 || s.clocks.safeLow || decide (s.clocks.ctl ≠ .run) ||
    decide (s.obj 0x5E0002 = 4) || s.mram.pairsRetired.testBit 0 || s.clocks.vrBlocked || s.clocks.hot

/-- CLEAR_FAULT (R578, R586, R641). -/
def clearFaultCmd (s : State) : Judged :=
  if s.engineState ≠ 6 then s.wrongState
  else if s.lastingCause then s.deny 0x08000022 7
  else (s.setObj 0x5F1008 0xFFFF).enterDisabled.obey

/-- COMMIT (R118, R124, R578). -/
def commitCmd (ckptErr : Nat) (s : State) : Judged :=
  match s.commitRefusal, commitOp ckptErr s with
  | some (result, _), (abort, t) => { abort := abort, status := if result = 3 then 20 else if result = 4 then 21 else 3, state := t }
  | none, (_, t) => t.obey

/-- The command of a code (R578). -/
def engineCmd (code : Nat) (pairFails : List (Fin 5)) (ckptErr : Nat) (s : State) : Judged :=
  match code with
  | 1 => enableCmd s
  | 2 => disableCmd s
  | 3 => armCmd pairFails s
  | 4 => startCmd s
  | 5 => drainCmd s
  | 6 => holdCmd s
  | 7 => resumeCmd s
  | 8 => stopCmd s
  | 9 => clearFaultCmd s
  | 10 => commitCmd ckptErr s
  | _ => s.deny 0x06090030 22

/-- A judged command is reported: last command, status, counters and CMD_REFUSED (R578, R587). -/
def State.report (code : Nat) (v : Judged) : Answer :=
  let s := (v.state.setObj 0x5F100B code).setObj 0x5F1004 v.status
  match v.abort with
  | none => (none, s.bump 0x5F1020)
  | some a => (some a, (s.bump 0x5F1021).event 0x5F100C 2)

/-- A write of the command object (R578, R584); code 0 is never executed. -/
def commandOp (code : Nat) (f : State → Judged) (s : State) : Answer := State.report code (f s)

/-- The sequence of a mapped command is acknowledged (R585). -/
def State.acknowledge (s : State) : State :=
  let q := s.obj 0x5F1003
  let s := s.setObj 0x5F1005 q
  s.modSlave fun sl => { sl with cmdRef := some q }

/-- A command by SDO, from ENG_CMD, or mapped in an RxPDO whose sequence has changed (R583 to R585). -/
def State.command (s : State) (via : Via) (code : Nat) (f : State → Judged) : State :=
  match via with
  | .sdo => s.access .sdo 0x5F1001 (commandOp code f)
  | .reg => (commandOp code f s).2.answer .busDone
  | .pdo => if s.slave.al = .op then (commandOp code f s).2.acknowledge else s

/-- The end of a command that acts on the engine: state changes without a command that it makes due (R582, R583). -/
def State.commandAt (s : State) (via : Via) (code t : Nat) (f : State → Judged) : State :=
  ((s.tick t).command via code f).autoEngine

/-- ENABLE. -/
def execEnable (via : Via) (t : Nat) (s : State) : Host.Outcome State Fault Refusal :=
  .next (State.settle (s.commandAt via 1 t enableCmd))

/-- DISABLE. -/
def execDisable (via : Via) (t : Nat) (s : State) : Host.Outcome State Fault Refusal :=
  .next (State.settle (s.commandAt via 2 t disableCmd))

/-- ARM: `pairFails` as for `armCmd` (R579, R646). -/
def execArm (via : Via) (pairFails : List (Fin 5)) (t : Nat) (s : State) : Host.Outcome State Fault Refusal :=
  .next (State.settle (s.commandAt via 3 t (armCmd pairFails)))

/-- START. -/
def execStart (via : Via) (t : Nat) (s : State) : Host.Outcome State Fault Refusal :=
  .next (State.settle (s.commandAt via 4 t startCmd))

/-- DRAIN. -/
def execDrain (via : Via) (t : Nat) (s : State) : Host.Outcome State Fault Refusal :=
  .next (State.settle (s.commandAt via 5 t drainCmd))

/-- HOLD. -/
def execHold (via : Via) (t : Nat) (s : State) : Host.Outcome State Fault Refusal :=
  .next (State.settle (s.commandAt via 6 t holdCmd))

/-- RESUME. -/
def execResume (via : Via) (t : Nat) (s : State) : Host.Outcome State Fault Refusal :=
  .next (State.settle (s.commandAt via 7 t resumeCmd))

/-- STOP. -/
def execStop (via : Via) (t : Nat) (s : State) : Host.Outcome State Fault Refusal :=
  .next (State.settle (s.commandAt via 8 t stopCmd))

/-- CLEAR_FAULT. -/
def execClearFault (via : Via) (t : Nat) (s : State) : Host.Outcome State Fault Refusal :=
  .next (State.settle (s.commandAt via 9 t clearFaultCmd))

/-- COMMIT: `ckptErr` as for `commitOp` (R118, R278). -/
def execCommit (via : Via) (ckptErr t : Nat) (s : State) : Host.Outcome State Fault Refusal :=
  .next (State.settle (s.commandAt via 10 t (commitCmd ckptErr)))

end Sys2Proof.Machine
end

