-- ==== Sys2Proof/Machine/Health.lean ====
section
/-! DEFINITION. The start-up self-test, counter checkpoints, and the commands of the health object (R636 to R661). -/

namespace Sys2Proof.Machine

/-- A lane fails in the start-up self-test: as under R644, with its retest at once (R648). -/
def State.startupLane (s : State) (retest l : Nat) : State :=
  let s := (((s.setObj 0x5E0003 (s.obj 0x5E0003 ||| 1 <<< l)).bump 0x240088).event 0x240013 7).raise 149 l 0
  let s := s.laneFailure l
  if s.laneSpent l || retest.testBit l then s.retireLane l else s

/-- A pair fails in the start-up self-test: a mismatch, with its retest at once (R642, R646, R648). -/
def State.startupPair (s : State) (retest p : Nat) : State :=
  let s := ((s.setObj 0x5E0003 (s.obj 0x5E0003 ||| 1 <<< (17 + p))).raise 133 p 0).pairMismatch p
  if retest.testBit p then s.retirePair p else s

/-- The MRAM's device records fail their CRC: the test fails, and they are rebuilt empty (R648, R651). -/
def State.recordsLost (s : State) : State :=
  let s := ((s.setBit 0x5E0003 24 true).setObj 0x5E0020 0).setObj 0x5E0021 0
  s.modMram fun mr => { mr with
      mapOrder := 0, lanesRetired := 0, pairsRetired := 0, laneFails := [], laneTimes := [], pairTimes := [] }

/-- No render lane, or no decision pair, is in service (R648). -/
def State.unitsMissing (s : State) : Bool := s.lanesIn.isEmpty || s.mram.pairsRetired.testBit 0

/-- Result of the start-up self-test, from its detail (R649). -/
def startupResult (detail : Nat) : Nat :=
  if detail = 0 then 2 else if detail / 2 ^ 22 = 0 then 3 else 4

/-- The failures of the start-up self-test, in the order of R648; units retired before are not tested. -/
def State.startupFailures (s : State) (lanes lanesRetest pairs pairsRetest : Nat) (checker crc : Bool) (mram : MramRead) : State :=
  let tested := s.lanesIn
  let keep := (List.range 5).filter fun p => !s.mram.pairsRetired.testBit p
  let s := s.setObj 0x5E0003 0
  let s := s.mramRead 8 mram
  let s := if readFails mram then s.recordsLost else s
  let s := (tested.filter fun l => lanes.testBit l).foldl (fun s l => s.startupLane lanesRetest l) s
  let s := (keep.filter fun p => pairs.testBit p).foldl (fun s p => s.startupPair pairsRetest p) s
  let s := (s.setBit 0x5E0003 22 checker).setBit 0x5E0003 23 crc
  s.setBit 0x5E0003 25 s.unitsMissing

/-- The start-up self-test ends with its result, and the rotation of the online test starts (R287, R649). -/
def State.startupDone (s : State) : State :=
  let r := startupResult (s.obj 0x5E0003)
  let s := s.setObj 0x5E0002 r
  let s := if r = 4 then s.raise 172 0xFF 0 else s
  (s.modRender fun ren => { ren with started := true }).assignLanes

/-- STARTUP_SELFTEST_DONE: the lanes and pairs that failed, those whose retest failed as well, and the fixed tests that failed (R648, R649). -/
def execStartupSelftestDone (lanes lanesRetest pairs pairsRetest : Nat) (checker crc : Bool) (mram : MramRead) (t : Nat) (s : State) :
    Host.Outcome State Fault Refusal :=
  .next (State.settle
    (if s.obj 0x5E0002 = 1 then
       ((s.tick t).startupFailures lanes lanesRetest pairs pairsRetest checker crc mram).startupDone
     else s))

/-- COUNTER_CHECKPOINT: the checkpoint interval has passed in operating time (R638); an entry into DISABLED requests one within its own command. -/
def execCounterCheckpoint (s : State) : Host.Outcome State Fault Refusal :=
  .next (State.settle
    (if s.obj 0x5E0005 ≤ s.health.ckSeconds then
       (s.modHealth fun hl => { hl with ckSeconds := 0 }).requestCheckpoint
     else s))

/-- CHECKPOINT: a write of 1 to the health command (R638). -/
def execCheckpoint (via : Via) (s : State) : Host.Outcome State Fault Refusal :=
  .next (State.settle (s.access via 0x5E0006 fun s => s.requestCheckpoint.accept))

/-- Every lifetime increment is added to its total and set to 0, in the older of the two copies (R637, R638). -/
def State.addLifetime (s : State) : State :=
  let totals := s.health.lifetime.foldl (fun (l : List (Nat × Nat)) kv =>
    storePut (fun _ => 0) l kv.1 (min (2 ^ 64 - 1) (storeGet (fun _ => 0) l kv.1 + kv.2))) s.mram.totals
  (s.modMram fun mr => { mr with totals := totals, totalsSeq := mr.totalsSeq + 1, totalsOld := mr.totals }).modHealth fun hl => { hl with lifetime := [] }

/-- A checkpoint ends; one requested meanwhile follows (R638). -/
def State.checkpointDone (s : State) : State :=
  let s := s.addLifetime
  let s := ((List.finRange 16).filter fun n => s.portEnabled n.val).foldl State.storeHealth s
  let s := ((s.event 0x5E0004 0).setObj 0x5E0007 s.vbat.hours).bump 0x5E0053
  s.modHealth fun hl => { hl with ckBusy := s.health.ckAgain, ckAgain := false }

/-- CHECKPOINT_DONE (R637, R638). -/
def execCheckpointDone (s : State) : Host.Outcome State Fault Refusal :=
  .next (State.settle (if s.health.ckBusy then s.checkpointDone else s))

/-- A write of 2 to the health command (R658). -/
def clearRetirementsOp (s : State) : Answer :=
  s.unless (firstAbort [(s.engineState ≠ 0, 0x08000022)]) fun s => s.modMram fun mr => { mr with clearRetired := true }

/-- CLEAR_RETIREMENTS (R658). -/
def execClearRetirements (via : Via) (s : State) : Host.Outcome State Fault Refusal :=
  .next (State.settle (s.access via 0x5E0006 clearRetirementsOp))

/-- A write of 3 to the health command: the log is empty, and its sequence goes on (R653). -/
def clearLogOp (s : State) : Answer :=
  s.unless (firstAbort [(s.engineState ≠ 0, 0x08000022)]) fun s => s.modMram fun mr => { mr with log := [] }

/-- CLEAR_LOG (R653). -/
def execClearLog (via : Via) (s : State) : Host.Outcome State Fault Refusal :=
  .next (State.settle (s.access via 0x5E0006 clearLogOp))

/-- A write of the health command (R638, R653, R658, R659). -/
def healthCommandOp (v : Nat) : State → Answer :=
  if v = 1 then fun s => s.requestCheckpoint.accept
  else if v = 2 then clearRetirementsOp
  else if v = 3 then clearLogOp
  else fun s => s.refuse 0x06090030

end Sys2Proof.Machine
end

