-- ==== Sys2Proof/Machine/ObjTable.lean ====
section
/-! DEFINITION. The object dictionary as the spec's object tables give it: access, width, mapping, kind and range of every object (R18, R31, R39, R91, R133, R134, R176 to R178, R207, R208, R250, R298, R334, R365, R388, R429, R459, R494, R528, R529, R556, R566, R571, R587, R593, R597, R600, R634, R659). -/

namespace Sys2Proof.Machine

/-- Access codes of an object (R11). -/
inductive Acc where
  | ro | rw | rws | wo
  deriving DecidableEq, Repr

/-- What a PDO may map an object to (R566). -/
inductive Pdo where
  | no | tx | rx
  deriving DecidableEq, Repr

/-- A number, a counter, an object whose written ones clear bits, or bytes. -/
inductive ObjKind where
  | val | ctr | w1c | dom
  deriving DecidableEq, Repr

/-- `n` objects of one layout from `key` upward, instance 0 of a family: width in bits, access, mapping, kind, and for a number its range, with 0 allowed beside it, and the number of which it is a multiple. -/
structure ObjRow where
  key : Key
  n : Nat
  bits : Nat
  acc : Acc
  pdo : Pdo
  kind : ObjKind
  signed : Bool
  zero : Bool
  lo : Int
  hi : Int
  mult : Nat
  deriving DecidableEq, Repr

/-- A number with every code of its type in range. -/
def ObjRow.any (key n bits : Nat) (acc : Acc) (pdo : Pdo) : ObjRow :=
  { key, n, bits, acc, pdo, kind := .val, signed := false, zero := false, lo := 0, hi := 2 ^ bits - 1, mult := 1 }

/-- A number that is only read. -/
def ObjRow.roVal (key n bits : Nat) (pdo : Pdo) : ObjRow := .any key n bits .ro pdo

/-- An unsigned number with a range. -/
def ObjRow.val (key n bits : Nat) (acc : Acc) (pdo : Pdo) (lo hi : Int) : ObjRow :=
  { ObjRow.any key n bits acc pdo with lo, hi }

/-- A signed number with a range. -/
def ObjRow.int (key n bits : Nat) (acc : Acc) (pdo : Pdo) (lo hi : Int) : ObjRow :=
  { ObjRow.any key n bits acc pdo with signed := true, lo, hi }

/-- An unsigned number with a range, 0 beside it, or steps. -/
def ObjRow.num (key n bits : Nat) (acc : Acc) (pdo : Pdo) (zero : Bool) (lo hi : Int) (mult : Nat) : ObjRow :=
  { ObjRow.any key n bits acc pdo with zero, lo, hi, mult }

/-- Counters. -/
def ObjRow.ctr (key n bits : Nat) (pdo : Pdo) : ObjRow := { ObjRow.any key n bits .rw pdo with kind := .ctr }

/-- Objects whose written ones clear bits. -/
def ObjRow.w1c (key n bits : Nat) (pdo : Pdo) : ObjRow := { ObjRow.any key n bits .rw pdo with kind := .w1c }

/-- Bytes. -/
def ObjRow.dom (key n : Nat) (acc : Acc) : ObjRow := { ObjRow.any key n 0 acc .no with kind := .dom }

/-- Objects of index 0x1000 to 0x1C33. -/
def objects1p0 : List ObjRow :=
  [.roVal 0x100000 1 32 .no,
   .roVal 0x100100 1 8 .tx,
   .dom 0x100800 1 .ro,
   .dom 0x100900 1 .ro,
   .dom 0x100a00 1 .ro,
   .any 0x101001 1 32 .rw .no,
   .any 0x101101 1 32 .rw .no,
   .roVal 0x101801 4 32 .no,
   .val 0x160000 1 8 .rw .no 0 32,
   .any 0x160001 32 32 .rw .no,
   .val 0x160100 1 8 .rw .no 0 32,
   .any 0x160101 32 32 .rw .no,
   .val 0x160200 1 8 .rw .no 0 32,
   .any 0x160201 32 32 .rw .no,
   .val 0x160300 1 8 .rw .no 0 32,
   .any 0x160301 32 32 .rw .no,
   .val 0x1a0000 1 8 .rw .no 0 32,
   .any 0x1a0001 32 32 .rw .no,
   .val 0x1a0100 1 8 .rw .no 0 32,
   .any 0x1a0101 32 32 .rw .no,
   .val 0x1a0200 1 8 .rw .no 0 32,
   .any 0x1a0201 32 32 .rw .no,
   .val 0x1a0300 1 8 .rw .no 0 32,
   .any 0x1a0301 32 32 .rw .no,
   .roVal 0x1c0001 4 8 .no,
   .val 0x1c1200 1 8 .rw .no 0 4,
   .any 0x1c1201 4 16 .rw .no,
   .val 0x1c1300 1 8 .rw .no 0 4,
   .any 0x1c1301 4 16 .rw .no,
   .val 0x1c3201 1 16 .rw .no 0 2,
   .val 0x1c3202 1 32 .rw .no 0x1e848 0x5f5e100,
   .roVal 0x1c3204 1 16 .no,
   .roVal 0x1c3205 1 32 .no,
   .val 0x1c3301 1 16 .rw .no 0 2,
   .val 0x1c3302 1 32 .rw .no 0x1e848 0x5f5e100,
   .roVal 0x1c3304 1 16 .no,
   .roVal 0x1c3305 1 32 .no]

/-- Objects of index 0x2000 to 0x2100. -/
def objects2p0 : List ObjRow :=
  [.roVal 0x200001 1 8 .no,
   .roVal 0x200002 1 64 .no,
   .roVal 0x200003 1 8 .tx,
   .dom 0x200004 1 .ro,
   .roVal 0x200005 1 64 .no,
   .roVal 0x200006 1 32 .no,
   .roVal 0x200007 2 8 .no,
   .roVal 0x20000a 1 8 .no,
   .roVal 0x20000b 1 16 .no,
   .roVal 0x20000c 1 32 .no,
   .num 0x200010 1 64 .rw .no false 0x1000000000 0x17fc000000 0x4000000,
   .num 0x200011 1 64 .rw .no false 0x10000000 0x600000000 0x4000000,
   .num 0x200012 1 64 .rw .no false 0x1000000000 0x17fc000000 0x4000000,
   .num 0x200013 1 64 .rw .no false 0 0x600000000 0x4000000,
   .num 0x200014 1 64 .rw .no false 0x1000000000 0x17fc000000 0x4000000,
   .num 0x200015 1 64 .rw .no false 0x10000000 0x600000000 0x4000000,
   .num 0x200016 1 64 .rw .no false 0x1000000000 0x17fc000000 0x4000000,
   .num 0x200017 1 64 .rw .no false 0x8000000 0x200000000 0x4000000,
   .roVal 0x200018 2 64 .no,
   .val 0x200020 1 16 .rw .no 10 10000,
   .roVal 0x200021 1 8 .tx,
   .roVal 0x200022 1 32 .tx,
   .w1c 0x200023 1 8 .tx,
   .roVal 0x210001 2 8 .no,
   .roVal 0x210003 1 32 .tx,
   .w1c 0x210004 1 16 .tx,
   .val 0x210005 1 8 .rw .rx 0 3,
   .roVal 0x210006 1 8 .tx,
   .val 0x210007 1 16 .rw .no 10 1000,
   .val 0x210008 1 16 .rw .no 100 10000,
   .val 0x210009 1 8 .rw .no 0 1,
   .any 0x21000a 1 32 .rw .no,
   .roVal 0x21000b 1 32 .tx,
   .roVal 0x21000c 1 16 .tx,
   .roVal 0x21000d 1 8 .no,
   .any 0x21000e 1 32 .wo .no,
   .any 0x210010 1 64 .rw .tx,
   .roVal 0x210011 1 32 .tx,
   .dom 0x210012 1 .rw,
   .ctr 0x210020 8 32 .tx]

/-- Objects of index 0x2200 to 0x2300. -/
def objects2p1 : List ObjRow :=
  [.any 0x220001 2 1 .rw .no,
   .any 0x220003 1 8 .rw .no,
   .val 0x220004 1 64 .rw .no 1 0x10000000000,
   .num 0x220005 1 32 .rw .no true 4 0x80000000 1,
   .val 0x220006 1 8 .rw .no 0 7,
   .val 0x220007 1 8 .rw .no 0 15,
   .val 0x220008 1 8 .rw .no 1 16,
   .val 0x220009 1 16 .rw .no 1 1000,
   .val 0x22000a 1 16 .rw .no 20 2000,
   .val 0x22000b 1 16 .rw .no 1 4096,
   .any 0x22000c 1 8 .rw .no,
   .val 0x22000d 1 8 .rw .no 0 3,
   .val 0x22000e 1 64 .rw .no 0 0xffffffffffff,
   .roVal 0x220010 4 64 .tx,
   .roVal 0x220014 1 32 .tx,
   .roVal 0x220015 1 16 .tx,
   .w1c 0x220016 1 16 .tx,
   .roVal 0x220017 1 32 .tx,
   .roVal 0x220018 1 64 .no,
   .any 0x220019 1 32 .rw .no,
   .roVal 0x220020 8 64 .tx,
   .roVal 0x220028 4 32 .tx,
   .roVal 0x22002c 1 32 .tx,
   .val 0x220030 1 8 .rw .no 0 2,
   .val 0x220031 1 16 .rw .no 250 10000,
   .val 0x220032 1 8 .rw .no 8 40,
   .num 0x220033 1 16 .rw .no true 10 10000 1,
   .val 0x220034 1 16 .rw .no 1 100,
   .val 0x220035 2 8 .rw .no 0 1,
   .int 0x220037 1 64 .rw .no (-0x8000000000000000) 0x7fffffffffffffff,
   .val 0x220038 1 64 .rw .no 0 0xffffffffff,
   .val 0x220039 1 8 .rw .no 1 16,
   .any 0x22003a 1 32 .rw .no,
   .roVal 0x220040 1 32 .tx,
   .roVal 0x220041 2 64 .tx,
   .ctr 0x220050 10 32 .tx,
   .val 0x230001 1 8 .rw .no 1 255,
   .val 0x230002 1 8 .rw .no 0 1,
   .val 0x230003 1 8 .rw .no 1 64,
   .num 0x230004 1 16 .rw .no false 0 20000 2]

/-- Objects of index 0x2300 to 0x2500. -/
def objects2p2 : List ObjRow :=
  [.val 0x230005 1 16 .rw .no 512 8192,
   .val 0x230006 1 8 .rw .no 0 7,
   .num 0x230007 1 8 .rw .no true 1 64 1,
   .val 0x230008 1 16 .rw .no 10 10000,
   .any 0x230009 1 1 .rw .rx,
   .roVal 0x23000a 1 8 .tx,
   .val 0x230010 1 8 .wo .rx 1 1,
   .any 0x230011 1 32 .rw .rx,
   .roVal 0x230012 2 8 .tx,
   .roVal 0x230014 2 32 .tx,
   .roVal 0x230016 2 32 .no,
   .any 0x230018 1 32 .rw .no,
   .w1c 0x230019 1 16 .tx,
   .ctr 0x230020 7 32 .tx,
   .val 0x240001 1 16 .rw .no 256 2048,
   .val 0x240002 1 8 .rw .no 0 1,
   .any 0x240003 1 16 .rw .no,
   .any 0x240004 1 8 .rw .no,
   .any 0x240005 1 1 .rw .no,
   .val 0x240006 1 8 .rw .no 0 1,
   .val 0x240007 1 16 .rw .no 1 2048,
   .val 0x240008 1 8 .rw .no 0 1,
   .roVal 0x240010 1 32 .tx,
   .roVal 0x240011 2 8 .tx,
   .w1c 0x240013 1 16 .tx,
   .roVal 0x240014 2 16 .tx,
   .any 0x240020 16 32 .rw .no,
   .dom 0x240030 8 .rw,
   .dom 0x240040 16 .rws,
   .dom 0x240050 16 .ro,
   .roVal 0x240060 16 32 .tx,
   .roVal 0x240070 16 8 .tx,
   .ctr 0x240080 11 32 .tx,
   .any 0x250001 2 1 .rw .no,
   .val 0x250003 1 8 .rw .no 0 3,
   .val 0x250004 2 64 .rw .no 0 0xffffffffffff,
   .any 0x250006 2 32 .rw .no,
   .val 0x250008 1 16 .rw .no 1024 65535,
   .any 0x250010 1 16 .rw .no,
   .val 0x250011 1 8 .rw .no 0 2]

/-- Objects of index 0x2500 to 0x2500. -/
def objects2p3 : List ObjRow :=
  [.val 0x250012 1 8 .rw .no 1 255,
   .val 0x250013 1 8 .rw .no 0 3,
   .val 0x250014 1 16 .rw .no 1 1024,
   .val 0x250015 1 16 .rw .no 10 10000,
   .val 0x250016 1 16 .rw .no 50 50000,
   .val 0x250017 1 8 .rw .no 1 64,
   .val 0x250018 1 16 .rw .no 10 10000,
   .val 0x250019 1 16 .rw .no 20 10000,
   .val 0x25001a 1 8 .rw .no 0 1,
   .any 0x250020 1 1 .rw .no,
   .val 0x250021 1 32 .rw .no 256 0xffffffff,
   .roVal 0x250030 1 8 .tx,
   .roVal 0x250031 3 32 .no,
   .roVal 0x250034 6 32 .tx,
   .roVal 0x25003a 1 32 .no,
   .roVal 0x25003b 1 32 .tx,
   .w1c 0x25003c 1 16 .tx,
   .roVal 0x25003d 1 32 .tx,
   .ctr 0x250040 18 32 .tx]

/-- Objects of index 0x3000 to 0x3400. -/
def objects3p0 : List ObjRow :=
  [.any 0x300001 1 1 .rw .no,
   .val 0x300002 1 8 .rw .no 5 200,
   .num 0x300003 1 16 .rws .no false 250 4000 2,
   .num 0x300004 1 16 .rws .no false 40 2000 2,
   .val 0x300005 1 16 .rws .no 1 65535,
   .any 0x300006 1 1 .rw .no,
   .val 0x300007 1 8 .rw .no 1 255,
   .val 0x300008 1 8 .rw .no 0 20,
   .val 0x300009 1 8 .rw .no 20 60,
   .val 0x30000a 1 8 .rw .no 0 1,
   .roVal 0x30000b 1 32 .no,
   .num 0x300010 1 32 .rw .no false 0 0xffffffff 64,
   .num 0x300011 1 16 .rw .no false 250 4000 2,
   .val 0x300012 1 8 .rw .no 40 200,
   .val 0x300013 1 16 .rw .no 1 65535,
   .val 0x300014 1 32 .rw .no 50 0x989680,
   .val 0x300015 1 8 .wo .rx 1 2,
   .dom 0x300020 1 .rw,
   .roVal 0x310001 2 8 .tx,
   .roVal 0x310003 1 64 .no,
   .roVal 0x310004 2 32 .no,
   .roVal 0x310006 3 16 .tx,
   .w1c 0x310009 1 16 .tx,
   .roVal 0x31000a 3 32 .tx,
   .roVal 0x31000d 2 8 .tx,
   .roVal 0x31000f 1 16 .no,
   .roVal 0x310010 1 8 .tx,
   .val 0x320001 8 32 .rw .no 0 0x40000,
   .any 0x320009 8 8 .rws .no,
   .roVal 0x320011 8 8 .tx,
   .any 0x320019 1 8 .rw .no,
   .roVal 0x32001a 1 32 .no,
   .roVal 0x32001b 3 32 .tx,
   .roVal 0x32001e 1 16 .tx,
   .roVal 0x32001f 1 8 .tx,
   .ctr 0x330001 23 32 .tx,
   .num 0x340001 1 16 .rw .no false 0 65534 2,
   .any 0x340002 1 1 .rw .no,
   .val 0x340003 1 8 .rw .no 0 4,
   .int 0x340004 1 16 .rw .no 0 25600]

/-- Objects of index 0x3400 to 0x3800. -/
def objects3p1 : List ObjRow :=
  [.int 0x340005 4 16 .rw .no (-2048) 2048,
   .roVal 0x340009 1 32 .tx,
   .roVal 0x34000a 8 16 .tx,
   .roVal 0x340012 4 32 .tx,
   .roVal 0x340016 4 16 .tx,
   .roVal 0x34001a 1 8 .tx,
   .w1c 0x34001b 1 8 .tx,
   .val 0x34001c 1 1 .wo .rx 1 1,
   .ctr 0x340020 4 32 .tx,
   .dom 0x380001 1 .rws,
   .dom 0x380002 1 .ro,
   .any 0x380003 1 32 .rws .no,
   .val 0x380005 1 8 .rw .no 1 8,
   .val 0x380006 1 8 .rw .no 0 1,
   .roVal 0x380007 1 8 .tx,
   .w1c 0x380008 1 8 .tx,
   .roVal 0x380009 6 16 .tx,
   .roVal 0x38000f 1 32 .tx,
   .dom 0x380010 2 .ro,
   .roVal 0x380012 1 64 .no,
   .val 0x380013 1 1 .wo .no 1 1,
   .ctr 0x380020 8 32 .tx]

/-- Objects of index 0x4000 to 0x4100. -/
def objects4p0 : List ObjRow :=
  [.any 0x400001 1 1 .rw .no,
   .val 0x400002 1 8 .rw .no 1 4,
   .val 0x400003 1 16 .rw .no 80 2500,
   .val 0x400004 1 8 .rw .no 0 15,
   .any 0x400005 1 8 .rw .no,
   .val 0x400006 1 16 .rw .no 8 16384,
   .val 0x400007 1 16 .rw .no 16 16384,
   .val 0x400008 1 8 .rw .no 0 4,
   .val 0x400009 1 16 .rw .no 1 1000,
   .num 0x40000a 1 16 .rw .no true 10 10000 1,
   .val 0x40000b 1 8 .rw .no 0 2,
   .val 0x40000c 2 64 .rw .no 0 0xffffffffffff,
   .val 0x40000e 1 16 .rw .no 1 1000,
   .val 0x40000f 1 1 .wo .rx 1 1,
   .val 0x400010 1 8 .rw .no 8 119,
   .val 0x400011 1 8 .rw .no 0 2,
   .val 0x400012 1 8 .rw .no 1 2,
   .val 0x400013 1 8 .rw .no 0 3,
   .dom 0x400014 1 .rw,
   .any 0x400015 1 64 .rw .no,
   .roVal 0x400020 1 8 .tx,
   .roVal 0x400021 1 8 .no,
   .roVal 0x400022 1 32 .no,
   .roVal 0x400023 1 32 .tx,
   .roVal 0x400024 2 64 .tx,
   .roVal 0x400026 1 32 .tx,
   .w1c 0x400027 1 16 .tx,
   .any 0x400030 1 64 .rw .no,
   .any 0x400031 1 8 .wo .no,
   .ctr 0x400040 16 32 .tx,
   .any 0x410001 1 1 .rw .no,
   .any 0x410002 1 1 .rw .rx,
   .any 0x410003 1 16 .rw .no,
   .any 0x410004 1 8 .rw .no,
   .any 0x410005 1 16 .rw .no,
   .any 0x410006 1 8 .rw .no,
   .any 0x410007 1 16 .rw .no,
   .val 0x410008 1 8 .rw .no 0 1,
   .dom 0x410009 3 .rw,
   .roVal 0x41000c 1 8 .tx]

/-- Objects of index 0x4100 to 0x4200. -/
def objects4p1 : List ObjRow :=
  [.w1c 0x41000d 1 8 .tx,
   .roVal 0x41000e 1 32 .tx,
   .roVal 0x41000f 1 32 .no,
   .val 0x410010 1 8 .rw .no 0 4,
   .int 0x410011 1 32 .rw .no (-0x80000000) 0x7fffffff,
   .val 0x410012 4 16 .rw .no 0 32767,
   .any 0x410016 3 16 .rw .no,
   .dom 0x410019 1 .rw,
   .val 0x410020 1 8 .rw .no 0 4,
   .int 0x410021 1 32 .rw .no (-0x80000000) 0x7fffffff,
   .val 0x410022 4 16 .rw .no 0 32767,
   .any 0x410026 3 16 .rw .no,
   .dom 0x410029 1 .rw,
   .roVal 0x410030 1 8 .no,
   .dom 0x410040 2 .ro,
   .ctr 0x410050 5 32 .tx,
   .any 0x420001 1 1 .rw .no,
   .val 0x420002 1 8 .rw .no 0 1,
   .val 0x420003 1 16 .rw .no 256 65535,
   .val 0x420004 1 16 .rw .no 256 32768,
   .val 0x420005 1 16 .rw .no 256 65280,
   .any 0x420006 1 16 .rw .no,
   .any 0x420007 1 8 .rw .no,
   .val 0x420008 1 8 .rw .no 1 255,
   .val 0x420009 1 32 .rw .no 1024 0x40000,
   .val 0x42000a 1 16 .rw .no 100 60000,
   .any 0x42000b 1 1 .rw .no,
   .val 0x42000c 1 16 .rw .no 64 65535,
   .val 0x42000d 1 8 .rw .no 1 255,
   .val 0x42000e 1 16 .rw .no 0 1024,
   .val 0x42000f 2 16 .rw .no 0 4095,
   .any 0x420011 1 16 .rw .no,
   .val 0x420012 1 16 .rw .no 0 4096,
   .dom 0x420013 1 .rw,
   .num 0x420014 1 32 .rw .no true 189 0x80000000 1,
   .val 0x420015 1 8 .rw .no 0 16,
   .val 0x420016 1 8 .rw .no 0 7,
   .any 0x420017 1 1 .rw .no,
   .val 0x420018 1 8 .wo .rx 1 3,
   .any 0x420020 1 1 .rw .no]

/-- Objects of index 0x4200 to 0x4800. -/
def objects4p2 : List ObjRow :=
  [.val 0x420021 1 64 .rw .no 0 0xffffffffffff,
   .dom 0x420022 1 .rw,
   .val 0x420023 1 16 .rw .no 0 16383,
   .any 0x420024 1 16 .rw .no,
   .dom 0x420025 1 .rw,
   .any 0x420030 1 1 .rw .no,
   .val 0x420031 1 64 .rw .no 0 0xffffffffffff,
   .dom 0x420032 1 .rw,
   .val 0x420033 1 16 .rw .no 0 16383,
   .any 0x420034 1 16 .rw .no,
   .dom 0x420035 1 .rw,
   .dom 0x420040 2 .ro,
   .any 0x420042 1 32 .wo .rx,
   .roVal 0x420043 1 16 .tx,
   .roVal 0x420044 1 8 .tx,
   .w1c 0x420045 1 16 .tx,
   .roVal 0x420046 1 8 .tx,
   .roVal 0x420047 1 32 .tx,
   .roVal 0x420048 1 64 .no,
   .ctr 0x420050 14 32 .tx,
   .dom 0x420060 8 .rw,
   .roVal 0x420070 16 16 .tx,
   .roVal 0x420080 16 32 .no,
   .any 0x480001 2 1 .rw .no,
   .num 0x480003 1 16 .rw .no false 100 10000 2,
   .num 0x480004 1 16 .rw .no false 20 10000 2,
   .any 0x480005 1 1 .rw .no,
   .val 0x480006 1 32 .rw .no 1 0x4c4b40,
   .val 0x480007 2 32 .rw .no 1 0x80000000,
   .val 0x480009 1 32 .rw .no 0 0x80000000,
   .val 0x48000a 1 32 .rw .no 1 0x80000000,
   .int 0x48000b 2 64 .rw .no (-0x8000000000000000) 0x7fffffffffffffff,
   .any 0x48000d 1 1 .rw .no,
   .any 0x48000e 1 8 .rw .no,
   .val 0x48000f 1 16 .rw .no 1 10000,
   .val 0x480010 1 8 .wo .rx 1 10,
   .int 0x480011 1 64 .rw .rx (-0x8000000000000000) 0x7fffffffffffffff,
   .val 0x480018 1 8 .rw .no 0 1,
   .val 0x480019 1 32 .rw .no 1 0x4c4b40,
   .val 0x48001a 1 32 .rw .no 0 0x80000000]

/-- Objects of index 0x4800 to 0x4900. -/
def objects4p3 : List ObjRow :=
  [.val 0x48001b 1 32 .rw .no 1 0x80000000,
   .int 0x48001c 1 64 .rw .no (-0x8000000000000000) 0x7fffffffffffffff,
   .val 0x48001d 1 32 .rw .no 0 0x80000000,
   .int 0x480020 1 64 .rw .no (-0x8000000000000000) 0x7fffffffffffffff,
   .val 0x480021 1 32 .rw .no 0 0x80000000,
   .dom 0x480022 1 .wo,
   .roVal 0x480023 1 8 .tx,
   .roVal 0x480024 1 64 .tx,
   .any 0x480028 1 1 .rw .no,
   .val 0x480029 1 16 .rw .no 16 65535,
   .val 0x48002a 1 8 .rw .no 1 64,
   .any 0x48002b 1 32 .rw .no,
   .val 0x48002c 1 64 .rw .no 0 0xffffffffffff,
   .int 0x48002d 2 64 .rw .no (-0x8000000000000000) 0x7fffffffffffffff,
   .roVal 0x480030 1 8 .tx,
   .roVal 0x480031 2 64 .tx,
   .roVal 0x480033 1 32 .tx,
   .roVal 0x480034 1 8 .tx,
   .w1c 0x480035 1 16 .tx,
   .roVal 0x480036 1 8 .tx,
   .roVal 0x480037 1 32 .tx,
   .ctr 0x480040 6 32 .tx,
   .val 0x490001 1 8 .rw .rx 0 2,
   .int 0x490002 1 16 .rw .rx 0 30720,
   .val 0x490003 1 8 .rw .no 1 100,
   .any 0x490004 1 16 .rw .rx,
   .any 0x490005 1 16 .rw .no,
   .any 0x490006 3 32 .rw .no,
   .val 0x490009 1 16 .rw .no 1 1000,
   .val 0x49000a 1 32 .rw .no 1000 0x186a0,
   .val 0x49000b 1 16 .rw .no 2000 6000,
   .int 0x49000c 1 16 .rw .no 5120 32000,
   .roVal 0x49000d 1 16 .tx,
   .roVal 0x49000e 1 16 .tx,
   .roVal 0x49000f 1 8 .tx,
   .w1c 0x490010 1 8 .tx,
   .val 0x490011 1 1 .wo .rx 1 1,
   .ctr 0x490020 3 32 .tx]

/-- Objects of index 0x5000 to 0x5200. -/
def objects5p0 : List ObjRow :=
  [.val 0x500001 1 8 .rw .no 0 3,
   .roVal 0x500002 1 8 .no,
   .val 0x500003 1 16 .rw .no 0 5000,
   .val 0x500004 1 8 .rw .no 17 64,
   .any 0x500005 1 8 .rw .no,
   .val 0x500006 1 32 .rw .no 1024 0x100000,
   .val 0x500007 1 16 .rw .no 100 65535,
   .val 0x500008 1 8 .rw .no 0 8,
   .val 0x500009 1 8 .rw .no 1 64,
   .val 0x50000a 1 8 .rw .no 2 64,
   .val 0x50000b 1 8 .wo .no 1 2,
   .roVal 0x50000c 1 16 .tx,
   .roVal 0x50000d 2 8 .tx,
   .w1c 0x50000f 1 16 .tx,
   .val 0x500010 8 16 .rw .no 100 65535,
   .ctr 0x500018 2 32 .tx,
   .roVal 0x500020 5 8 .tx,
   .roVal 0x500025 2 32 .tx,
   .roVal 0x500027 1 8 .tx,
   .ctr 0x500040 6 32 .tx,
   .ctr 0x500048 8 32 .tx,
   .ctr 0x510001 11 32 .tx,
   .roVal 0x510010 1 8 .tx,
   .roVal 0x510011 1 1 .tx,
   .roVal 0x510012 1 64 .tx,
   .roVal 0x510013 1 32 .tx,
   .roVal 0x510014 1 32 .no,
   .roVal 0x510015 4 8 .tx,
   .roVal 0x510019 1 64 .no,
   .roVal 0x51001a 1 8 .tx,
   .roVal 0x520001 1 8 .tx,
   .w1c 0x520002 1 16 .tx,
   .roVal 0x520003 2 32 .tx,
   .roVal 0x520005 1 32 .no,
   .val 0x520006 1 16 .rw .no 1 168,
   .roVal 0x520007 1 32 .no,
   .val 0x520008 1 1 .wo .no 1 1,
   .dom 0x520009 1 .ro,
   .val 0x520010 1 8 .wo .no 1 2,
   .any 0x520011 1 8 .rw .no]

/-- Objects of index 0x5200 to 0x5E00. -/
def objects5p1 : List ObjRow :=
  [.val 0x520012 1 8 .rw .no 0 2,
   .roVal 0x520013 1 8 .tx,
   .roVal 0x520014 1 32 .no,
   .any 0x520015 1 1 .rw .no,
   .any 0x520016 1 8 .rw .no,
   .roVal 0x520020 32 32 .tx,
   .val 0x520040 1 1 .wo .no 1 1,
   .ctr 0x520041 4 32 .tx,
   .roVal 0x580001 1 8 .tx,
   .w1c 0x580002 1 8 .tx,
   .roVal 0x580003 1 64 .no,
   .val 0x580005 1 1 .wo .no 1 1,
   .roVal 0x580008 1 8 .tx,
   .w1c 0x580009 1 8 .tx,
   .any 0x58000a 2 32 .rw .no,
   .num 0x58000c 1 16 .rw .no true 1 10000 1,
   .ctr 0x58000d 3 32 .tx,
   .num 0x580010 1 32 .rw .no false 0 0xffffffff 32,
   .val 0x580011 1 8 .wo .rx 1 2,
   .val 0x580012 1 8 .rw .no 1 64,
   .roVal 0x580013 2 8 .tx,
   .roVal 0x580015 2 32 .tx,
   .w1c 0x580017 1 8 .tx,
   .ctr 0x580020 6 32 .tx,
   .roVal 0x5e0001 2 8 .tx,
   .roVal 0x5e0003 1 32 .no,
   .w1c 0x5e0004 1 8 .tx,
   .val 0x5e0005 1 32 .rw .no 60 86400,
   .val 0x5e0006 1 8 .wo .no 1 3,
   .roVal 0x5e0007 1 32 .tx,
   .w1c 0x5e0010 4 32 .tx,
   .roVal 0x5e0014 1 16 .tx,
   .roVal 0x5e0015 1 32 .tx,
   .any 0x5e0018 4 32 .rw .no,
   .roVal 0x5e0020 1 32 .tx,
   .roVal 0x5e0021 1 8 .tx,
   .dom 0x5e0022 3 .ro,
   .dom 0x5e0030 8 .ro,
   .dom 0x5e0040 16 .ro,
   .ctr 0x5e0050 9 32 .tx]

/-- Objects of index 0x5F00 to 0x5F20. -/
def objects5p2 : List ObjRow :=
  [.any 0x5f0001 1 64 .rw .no,
   .val 0x5f0002 1 8 .rw .no 1 8,
   .any 0x5f0003 1 64 .rw .no,
   .any 0x5f0004 1 1 .rw .no,
   .dom 0x5f0005 1 .rw,
   .val 0x5f0006 1 16 .rw .no 1 1024,
   .any 0x5f0007 1 1 .rw .no,
   .roVal 0x5f0008 1 8 .no,
   .roVal 0x5f0009 1 16 .no,
   .val 0x5f1001 1 8 .wo .rx 1 10,
   .any 0x5f1002 1 32 .rw .rx,
   .any 0x5f1003 1 8 .rw .rx,
   .roVal 0x5f1004 4 8 .tx,
   .roVal 0x5f1008 1 16 .tx,
   .roVal 0x5f1009 1 32 .tx,
   .roVal 0x5f100a 1 64 .tx,
   .roVal 0x5f100b 1 8 .tx,
   .w1c 0x5f100c 1 8 .tx,
   .ctr 0x5f1020 4 32 .tx,
   .roVal 0x5f2001 8 32 .tx,
   .any 0x5f2011 8 32 .rw .no,
   .any 0x5f2021 8 32 .rw .no,
   .roVal 0x5f2030 1 32 .tx,
   .ctr 0x5f2031 2 32 .tx]

/-- The objects whose index begins with a hexadecimal digit. -/
def objectsOf (g : Nat) : List ObjRow :=
  if g = 1 then objects1p0 else
  if g = 2 then objects2p0 ++ objects2p1 ++ objects2p2 ++ objects2p3 else
  if g = 3 then objects3p0 ++ objects3p1 else
  if g = 4 then objects4p0 ++ objects4p1 ++ objects4p2 ++ objects4p3 else
  if g = 5 then objects5p0 ++ objects5p1 ++ objects5p2 else
  []

/-- Instances of an index family (R19, R39). -/
def famCount (hi : Nat) : Nat :=
  if (0x30 ≤ hi && hi ≤ 0x34) || hi = 0x38 then 16
  else if hi = 0x40 then 2
  else if hi = 0x48 || hi = 0x49 then 4
  else if hi = 0x50 || hi = 0x51 then 8
  else if hi = 0x58 then 32
  else 1

/-- The row of an object, none where the dictionary holds no such object. -/
def rowOf (k : Key) : Option ObjRow :=
  if instOf k < famCount (k / 0x10000) then
    (objectsOf (k / 0x100000)).find? fun r => decide (r.key ≤ baseKey k ∧ baseKey k < r.key + r.n)
  else none

/-- The dictionary lists an index (R39). -/
def indexListed (i : Nat) : Bool :=
  decide (instOf (i * 0x100) < famCount (i / 0x100)) &&
    (objectsOf (i / 0x1000)).any fun r => r.key / 0x100 = baseKey (i * 0x100) / 0x100

/-- A value lies in a row's range (R132 and the like). -/
def ObjRow.inRange (r : ObjRow) (v : Nat) : Bool :=
  let x : Int := if r.signed then sx r.bits v else v
  (r.zero && decide (v = 0)) || (decide (r.lo ≤ x) && decide (x ≤ r.hi) && decide (v % r.mult = 0))

end Sys2Proof.Machine
end

