-- ==== Sys2Proof/Machine/Objects.lean ====
section
/-! DEFINITION. What a read of an object returns: the stored value, or the value that the spec has the device compute (R11, R571, R600, and the object tables of the blocks). -/

namespace Sys2Proof.Machine

/-- CLK_STATUS (R635). -/
def State.clkStatus (s : State) : Nat :=
  let c := s.clocks
  let hold := decide (c.ctl = .clockHold)
  b2n c.rcReady + 2 * b2n c.refReady + 4 * (c.pll % 16) + 64 * b2n hold +
    128 * b2n (hold || s.obj 0x210009 = 1) + 256 * b2n hold + 512 * (s.obj 0x210006 % 4) + 2048 * b2n c.psBusy.isSome +
    4096 * b2n c.vrPin + 8192 * b2n s.vbat.rtcValid + 16384 * b2n c.safeLow + 32768 * b2n c.rcFault +
    65536 * (c.straps % 16) + 1048576 * (c.vid % 16)

/-- The core domain runs on the RC (R611, R615). -/
def State.coreOnRc (s : State) : Bool := decide (s.clocks.ctl = .clockHold) || s.obj 0x210009 = 1

/-- Core clock in kHz (R603, R617). -/
def State.coreKhz (s : State) : Nat :=
  if s.coreOnRc then 32000
  else match s.obj 0x210006 with
    | 0 => 1200000 | 1 => 900000 | 2 => 600000 | _ => 150000

/-- Slow-request status: drive, pin, and the causes present (R113, R114). -/
def State.slowStatus (s : State) : Nat :=
  b2n s.sched.drive + 2 * b2n (s.sched.drive || s.sched.external) + 4 * b2n (decide (s.sched.overAt = some s.clk)) +
    8 * b2n (decide (s.sched.margin ≠ 0)) + 16 * b2n s.thermalCause + 32 * b2n (s.obj 0x230009 = 1)

/-- SA_STATUS (R430); CAUGHT_UP is reported while the analyser is enabled, so that it reads 0 at reset (DEDUCED, log entry 133). -/
def State.analyserStatus (s : State) : Nat :=
  let a := s.analyser
  b2n (s.obj 0x420001 = 1) + 4 * b2n (!a.batches.isEmpty) + 8 * b2n (!a.bands.isEmpty) +
    16 * b2n ((List.range 16).any s.budgetSpent) + 32 * b2n (s.obj 0x420001 = 1 && decide (a.unread = a.made)) + 64 * b2n s.camDegraded

/-- First line of the next band, 0xFFFF_FFFF for none (0x4200:47). -/
def State.nextBand (s : State) : Nat :=
  match s.analyser.bands with
  | b :: _ => b.start
  | [] => 0xFFFFFFFF

/-- Objects of an axis that follow from its motion (R459). -/
def State.axisObj (s : State) (a : Fin 4) (b : Key) : Option Nat :=
  let x := s.axis.get a
  let k := s.axisKin a
  let ratio := if s.axisState a = 4 then x.ratioAt (s.masterRun x) else 0
  if b = 0x480023 then some x.queue.length
  else if b = 0x480024 then some (toBits 64 (roundQ 32 ratio))
  else if b = 0x480031 then some (toBits 64 (s.axisPos a))
  else if b = 0x480032 then some (toBits 64 x.gen.count)
  else if b = 0x480033 then some (toBits 32 (roundQ 0 k.2.1))
  else if b = 0x480034 then
    let ramping := decide (s.axisState a = 4 ∧ x.ramp ≠ 0 ∧ 0 ≤ s.masterRun x ∧ s.masterRun x < x.ramp)
    let lagging := !s.stepsHalted a && s.stepLag a ≠ 0
    some (putBit (putBit (putBit (s.obj (ak 0x480034 a)) 4 ramping) 2 lagging) 5 (s.driverOn a))
  else if b = 0x480037 then some (toBits 32 (s.walkFixed a (s.extrapolated s.clk)))
  else none

/-- Objects of a stack channel that follow from its queues and banks (R494, R528). -/
def State.chanObj (s : State) (c : Fin 8) (b : Key) : Option Nat :=
  let ch := s.chan c
  let mask := fun (l : List Nat) => l.foldl (fun m i => m ||| 1 <<< i) 0
  if b = 0x500021 then some (s.loadAt c s.stackNow).1
  else if b = 0x500022 then some (s.loadAt c s.stackNow).2
  else if b = 0x500023 then some ch.reads.length
  else if b = 0x500024 then some ch.writes.length
  else if b = 0x500025 then some (mask (ch.inOrder.map (·.1)))
  else if b = 0x500026 then some (mask (ch.throttled.map fun (x : Nat × Nat) => x.1 / 8))
  else if b = 0x500027 then some (ch.banks.foldl (fun m x => max m x.2.owed) 0)
  else if b = 0x510015 then some (min 5 (s.retrains c.val))
  else if b = 0x51001A then some (putBit (s.obj (ck8 b c)) 2 (decide (s.chanState c = 1)))
  else none

/-- Objects of ingest that follow from its store (R250). -/
def State.ingestObj (s : State) (k : Key) : Option Nat :=
  if k = 0x250031 then some s.slots
  else if k = 0x250032 then some s.slotSize
  else if k = 0x250033 then some s.requiredSlots
  else if k = 0x250034 then some (s.cumSeq % 2 ^ 32)
  else if k = 0x250036 then some s.limitRow
  else if k = 0x250037 then some s.needRow
  else if k = 0x250038 then some s.completeRow
  else if k = 0x250039 then some s.repPresent
  else if k = 0x25003A then some s.repRequired
  else if k = 0x25003D then some (((s.ingest.rate.filter fun (r : Nat × Nat) => decide (s.clk < r.1 + 50000000)).map (·.2)).sum / 100000)
  else none

/-- Objects of the clocks and the VBAT domain (R634). -/
def State.clockObj (s : State) (k : Key) : Option Nat :=
  if k = 0x210003 then some s.clkStatus
  else if k = 0x210006 then (if s.coreOnRc then some 0xFF else none)
  else if k = 0x21000B then some s.coreKhz
  else if k = 0x210010 then some s.rtc
  else if k = 0x210011 then some s.vbat.hours
  else none

/-- Version word of the firmware that runs (R600, R628). -/
def State.firmwareVersion (s : State) : Nat :=
  if s.obj 0x200007 = 0xFF then Config.romVersion % 2 ^ 32 else Config.imageVersion s.firmwareImage % 2 ^ 32

/-- Objects that the device computes, by the key of instance 0; the rest are stored. -/
def State.computed (s : State) (k : Key) : Option Nat :=
  let b := baseKey k
  let i := instOf k
  match k / 0x10000 with
  | 0x10 => if k = 0x100100 then some s.errorRegister else if k = 0x101804 then some (Config.deviceSerial % 2 ^ 32) else none
  | 0x20 => if k = 0x200005 then some (Config.deviceSerial % 2 ^ 64) else if k = 0x200006 then some s.firmwareVersion else none
  | 0x21 => s.clockObj k
  | 0x22 =>
    if k = 0x220010 then some (s.guarded s.clk)
    else if k = 0x220011 then some (s.extrapolated s.clk)
    else if k = 0x220012 then some s.measured
    else if k = 0x220015 then some (putBit (s.obj k) 7 (decide (s.obj 0x200021 = 2)))
    else none
  | 0x23 =>
    if k = 0x23000A then some s.slowStatus
    else if k = 0x230016 then some s.shadowCrc
    else if k = 0x230017 then some s.forceCrc
    else none
  | 0x25 => s.ingestObj k
  | 0x41 => if k = 0x41000F then some s.recordSize else if k = 0x410030 then some s.recordCount else none
  | 0x42 =>
    if k = 0x420043 then some (s.analyser.made - s.analyser.unread)
    else if k = 0x420044 then some s.analyserStatus
    else if k = 0x420046 then some s.analyser.requests.length
    else if k = 0x420047 then some s.nextBand
    else if k = 0x420048 then some s.historyNeeded
    else none
  | 0x5E => if k = 0x5E0014 then some s.mram.log.length else if k = 0x5E0015 then some s.mram.logSeq else none
  | 0x5F => if 0x5F2001 ≤ k ∧ k ≤ 0x5F2008 then some (field s.pend (32 * (k - 0x5F2001)) 32) else none
  | _ =>
    if k = 0x500001 then some s.mram.mapOrder
    else if b = 0x30000B then some (i * 0x10000)
    else if b / 0x10000 = 0x40 ∧ i < 2 then
      (let c : Fin 2 := if i = 0 then 0 else 1
       if b = 0x400021 then some (s.camSlots c) else if b = 0x400022 then some (s.camSlotSize c) else none)
    else if b = 0x380003 then
      (if h : i < 16 then some (s.obj k % 2 ^ 14 + nozState (s.shadowMap ⟨i, h⟩) (s.obj k % 2 ^ 14) * 65536) else none)
    else if b / 0x10000 = 0x48 then (if h : i < 4 then s.axisObj ⟨i, h⟩ b else none)
    else if b / 0x10000 = 0x50 ∨ b / 0x10000 = 0x51 then (if h : i < 8 then s.chanObj ⟨i, h⟩ b else none)
    else none

/-- The key that holds an object: device-wide sub-indexes of the stack and DMA families lie at instance 0 (R493, R556). -/
def homeKey (k : Key) : Key :=
  let b := baseKey k
  if (0x500000 ≤ b ∧ b < 0x500020) ∨ (0x580000 ≤ b ∧ b < 0x580010) then b else k

/-- A numeric object as it reads; WO objects read 0 (R11). -/
def State.readObj (s : State) (k : Key) : Nat :=
  let k := homeKey k
  match rowOf k with
  | none => 0
  | some r => if r.acc = .wo then 0 else (s.computed k).getD (s.obj k) % 2 ^ r.bits

/-- Keys of the objects whose row satisfies `p`, ascending: in each index family instance by instance (R39). -/
def keysOf (p : ObjRow → Bool) : List (ObjRow × Key) :=
  (List.range 0x60).flatMap fun (hi : Nat) =>
    let rows := (objectsOf (hi / 16)).filter fun r => decide (r.key / 0x10000 = hi) && p r
    (List.range (famCount hi)).flatMap fun i => rows.flatMap fun r =>
      ((List.range r.n).map fun j => (r, r.key + j + i * 0x100)).filter fun x => homeKey x.2 = x.2

/-- Lifetime totals of every counter, ascending (R637). -/
def State.totalsBytes (s : State) : Bytes :=
  (keysOf fun r => r.kind = .ctr).flatMap fun x => leBytes 8 (storeGet (fun _ => 0) s.mram.totals x.2)

/-- The repair list (R529). -/
def State.repairBytes (s : State) : Bytes :=
  let entry := fun (c bank row kind i : Nat) => leBytes 1 c ++ leBytes 1 bank ++ leBytes 2 row ++ leBytes 1 kind ++ leBytes 1 i ++ [0, 0]
  (s.mram.repair.rows.flatMap fun (r : Nat × Nat × Nat × Nat) => entry r.1 r.2.1 r.2.2.1 1 r.2.2.2) ++
    s.mram.repair.pages.flatMap fun (r : Nat × Nat × Nat) => entry r.1 r.2.1 r.2.2 2 0

/-- Bytes of a health object (R659). -/
def State.healthBytes (s : State) (k : Key) : Bytes :=
  if k = 0x5E0022 then (List.range 5).flatMap fun p => leBytes 1 (failsWithin s.mram.pairTimes p s.vbat.hours 360000)
  else if k = 0x5E0023 then (List.range 17).flatMap fun l => leBytes 2 (storeGet (fun _ => 0) s.mram.laneFails l)
  else if k = 0x5E0024 then s.totalsBytes
  else if k < 0x5E0040 then
    (List.range 70 ++ (List.range 18).map (· + 128)).flatMap fun l =>
      leBytes 2 (storeGet (fun _ => 0) s.health.laneWarn ((k - 0x5E0030) * 256 + l))
  else (List.range 256).flatMap fun b => leBytes 2 (storeGet (fun _ => 0) s.health.bins ((k - 0x5E0040) * 256 + b))

/-- Bytes of a port's DOMAIN object (R178, R300, R327, R334). -/
def State.jigsawBytes (s : State) (n : Fin 16) (b : Key) : Bytes :=
  if b = 0x380001 then s.shadowMap n
  else if b = 0x380002 then s.forceMap n
  else if b = 0x380010 then (List.range (s.nozzles n)).flatMap fun u => leBytes 8 (s.num (s.firingAddr n u) 5)
  else s.domain (pk b n)

/-- Bytes of a render object: LUTs and gain tables (R298). -/
def State.renderBytes (s : State) (k : Key) : Bytes :=
  if 0x240030 ≤ k ∧ k < 0x240038 then (List.range 256).flatMap fun u => leBytes 2 (s.lut (k - 0x240030) u)
  else if h : k - 0x240040 < 16 then
    s.bytes (s.gainShadow ⟨k - 0x240040, h⟩) (s.gainLen ⟨k - 0x240040, h⟩)
  else if h : k - 0x240050 < 16 then
    s.bytes (s.gainForce ⟨k - 0x240050, h⟩) (s.gainLen ⟨k - 0x240050, h⟩)
  else []

/-- Bytes of Kaleidoscope's parameters: tone curves and colour matrices (R388). -/
def State.kaleidoBytes (s : State) (k : Key) : Bytes :=
  let p := s.snapshot
  if k ≤ 0x41000B then (List.range 257).flatMap fun i => leBytes 2 (p.toneEntry (k - 0x410009) i)
  else
    let c : Fin 2 := if k = 0x410019 then 0 else 1
    (List.range 9).flatMap fun i => leBytes 2 (toBits 16 (p.ccm c (i / 3) (i % 3)))

/-- Bytes of the analyser's tables (R429). -/
def State.analyserBytes (s : State) (k : Key) : Bytes :=
  if k = 0x420022 ∨ k = 0x420032 then
    (List.range 65).flatMap fun i => leBytes 4 (toBits 32 (s.knot (if k = 0x420022 then 0 else 1) i))
  else if (k = 0x420025 ∨ k = 0x420035) ∧ s.domain k = [] then List.replicate 6 0xFF#8
  else if 0x420060 ≤ k ∧ k < 0x420068 ∧ s.domain k = [] then List.replicate 6 0#8
  else s.domain k

/-- Strings of the device (R571, R600). -/
def State.stringBytes (s : State) (k : Key) : Bytes :=
  let ascii := fun (l : List Char) => l.map fun c => BitVec.ofNat 8 c.toNat
  if k = 0x100800 then ascii "LB7240".toList
  else if k = 0x100900 then Config.dieRevision
  else if k = 0x100A00 then Config.softwareVersion s.firmwareVersion
  else match s.variant with
    | .v32A => ascii "LB7240-32A".toList
    | .v16A => ascii "LB7240-16A".toList

/-- A DOMAIN or string object as it reads. -/
def State.readDomain (s : State) (k : Key) : Bytes :=
  let b := baseKey k
  match b / 0x10000 with
  | 0x10 => s.stringBytes k
  | 0x20 => s.stringBytes k
  | 0x21 => if s.vbat.retention.isEmpty then List.replicate 256 0#8 else s.vbat.retention
  | 0x24 => s.renderBytes k
  | 0x38 => if h : instOf k < 16 then s.jigsawBytes ⟨instOf k, h⟩ b else []
  | 0x41 => if paramDoms.contains k then s.kaleidoBytes k else s.statsRead
  | 0x42 => if k = 0x420040 ∨ k = 0x420041 then s.resultRead else s.analyserBytes k
  | 0x52 => s.repairBytes
  | 0x5E => s.healthBytes k
  | _ => s.domain k

end Sys2Proof.Machine
end

