-- ==== Sys2Proof/Machine/Dictionary.lean ====
section
/-! DEFINITION. Writes of objects: the rules of each block in the order of R564, and what an accepted write changes. -/

namespace Sys2Proof.Machine

/-- Calls `f` with an instance number, and refuses one that the family does not have. -/
def withInst (count i : Nat) (f : Fin count → Answer) (s : State) : Answer :=
  if h : i < count then f ⟨i, h⟩ else s.refuse 0x06020000

/-- A command object of which only the listed values act; another value is out of range, after the state that would refuse every listed one (R564, orders 5 and 7). -/
def byValue (v : Nat) (l : List (Nat × (State → Answer))) (s : State) : Answer :=
  match l.find? fun x => x.1 = v with
  | some x => x.2 s
  | none => if l.all fun x => (x.2 s).1 = some 0x08000022 then s.refuse 0x08000022 else s.refuse 0x06090030

/-- The engine command of a written code, with no test and no read that fails. -/
def plainCommand (code : Nat) : State → Answer := commandOp code (engineCmd code [] 0)

/-- Operations of ports and of the scheduler that have a row of their own. -/
def portOp (via : Via) (b i v : Nat) : Option (State → Answer) :=
  if b = 0x230010 then some (byValue v [(1, commitOp 0)])
  else if b = 0x300001 then some fun s => withInst 16 i (fun n => byValue v [(0, portDisableOp n), (1, portEnableOp n)] s) s
  else if b = 0x300015 then some fun s => withInst 16 i (fun n => byValue v [(1, windupStartOp n []), (2, windupStopOp n)] s) s
  else if b = 0x34001C then some fun s => withInst 16 i (fun n => byValue v [(0, State.accept), (1, limitClearOp n)] s) s
  else if b = 0x380003 then some fun s => withInst 16 i (fun n => nozzleEditOp via n v s) s
  else if b = 0x380013 then some fun s => withInst 16 i (fun n => firingResetOp n v s) s
  else if b = 0x490001 then some fun s => withInst 4 i (fun h => heaterModeOp h v s) s
  else if b = 0x490011 then some fun s => withInst 4 i (fun h => byValue v [(0, State.accept), (1, cutClearOp h)] s) s
  else none

/-- Operations of ingest, the cameras, Kaleidoscope and the analyser that have a row of their own. -/
def imageOp (b i v : Nat) : Option (State → Answer) :=
  if b = 0x200010 ∨ b = 0x200011 ∨ (0x250011 ≤ b ∧ b ≤ 0x250013) then some (storeConfigOp b v)
  else if b = 0x200012 ∨ b = 0x200013 ∨ b = 0x250020 ∨ b = 0x250021 then some (repeatConfigOp b v)
  else if b = 0x250001 then some (linkEnableOp 0 v)
  else if b = 0x250002 then some (linkEnableOp 1 v)
  else if b = 0x250010 then some (jobIdOp v)
  else if b = 0x400001 then some fun s => withInst 2 i (fun c => captureEnableOp c v s) s
  else if b = 0x40000F then some fun s => withInst 2 i (fun c => triggerCommandOp c v s) s
  else if b = 0x400015 then some fun s => withInst 2 i (fun c => directOp c v s) s
  else if b = 0x400030 then some fun s => withInst 2 i (fun c => holdMaskOp c v s) s
  else if b = 0x400031 then some fun s => withInst 2 i (fun c => reprocessOp c v s) s
  else if b = 0x410001 then some (kaleidoEnableOp v)
  else if b = 0x410002 then some (freezeOp v)
  else if paramKeys.contains b then some (processParamOp b (leBytes 4 v))
  else if b = 0x420018 then some (analyserCommandOp v)
  else if b = 0x420042 then some (applyOp v)
  else none

/-- Operations of the position unit, the axes, the stack, DMA, the clocks, the health object and the engine that have a row of their own. -/
def systemOp (b i v : Nat) : Option (State → Answer) :=
  if b = 0x220001 then some fun s => byValue v [(0, encoderDisableOp), (1, encoderEnableOp s.position.a s.position.b 0)] s
  else if b = 0x220030 then some (barModeOp v)
  else if b = 0x210005 then some (pstateOp v)
  else if b = 0x210009 then some (coreSourceOp v)
  else if b = 0x21000A then some (clockGateOp v 0)
  else if b = 0x21000E then some fun s => match softResetCheck v s with
    | some a => s.refuse a
    | none => (s.resetDevice 2 s.clocks.straps .rcStart (!s.clocks.safeLow) s.clocks.vrPin).accept
  else if b = 0x210010 then some (rtcOp v)
  else if b = 0x480001 then some fun s => withInst 4 i (fun a => axisEnableOp a v s) s
  else if b = 0x480010 then some fun s => withInst 4 i (fun a => axisCommandOp a v s) s
  else if b = 0x480028 then some fun s => withInst 4 i (fun a => walkEnableOp a v s) s
  else if b = 0x500001 then some (State.mapOrderOp v)
  else if b = 0x50000B then some (byValue v [(1, State.selfRefreshEnterOp), (2, State.selfRefreshExitOp)])
  else if b = 0x520008 then some (byValue v [(0, State.accept), (1, State.clearListsOp)])
  else if b = 0x520010 then some (byValue v [(1, State.mbistRunOp), (2, State.mbistAbortOp)])
  else if b = 0x520040 then some (State.stackLossOp v)
  else if b = 0x580005 then some (byValue v [(0, State.accept), (1, fun s => s.clearBusStop.accept)])
  else if b = 0x580011 then some fun s => withInst 32 i (fun ch => byValue v [(1, dmaStartOp ch), (2, dmaAbortOp ch 0 0 [])] s) s
  else if b = 0x5E0006 then some (healthCommandOp v)
  else if b = 0x5F1001 then some fun s => ((plainCommand v s).1, (plainCommand v s).2.autoEngine)
  else none

/-- The operation of an object that has a row of its own. -/
def ownOp (via : Via) (k v : Nat) : Option (State → Answer) :=
  let b := baseKey k
  let i := instOf k
  match portOp via b i v with
  | some f => some f
  | none => match imageOp b i v with
    | some f => some f
    | none => systemOp b i v

/-- A written RS-FEC enable, MAC or IPv4 address belongs to a link that is not OFF (R213). -/
def State.linkBusy (s : State) (k v : Nat) : Bool :=
  let up := fun (l : Fin 2) => decide (s.linkState l ≠ 0)
  if k = 0x250003 then
    (decide (v % 2 ≠ s.obj k % 2) && up 0) || (decide (v / 2 % 2 ≠ s.obj k / 2 % 2) && up 1)
  else if k = 0x250004 ∨ k = 0x250006 then up 0
  else if k = 0x250005 ∨ k = 0x250007 then up 1
  else false

/-- Objects written only while the engine is in DISABLED or STANDBY (R32, R60, R99, R122, R250, R297, R333, R428, R454, R493, R634), by the key of instance 0. -/
def idleOnly (b : Key) : Bool :=
  let within := fun (lo hi : Nat) => decide (lo ≤ b ∧ b ≤ hi)
  within 0x200010 0x200017 || within 0x210007 0x210008 || within 0x220002 0x22000E || within 0x220031 0x22003A ||
    b = 0x230005 || within 0x240001 0x240008 || within 0x240020 0x24002F || within 0x240030 0x240037 ||
    within 0x250014 0x25001A || within 0x320001 0x320008 || b = 0x320019 || within 0x380005 0x380006 ||
    b = 0x420009 || b = 0x420020 || b = 0x420021 || b = 0x420023 || b = 0x420024 || b = 0x420030 || b = 0x420031 ||
    b = 0x420033 || b = 0x420034 || within 0x480029 0x48002E || within 0x500003 0x50000A || within 0x500010 0x500017

/-- An axis does not take a write of an object in its present state (R437, R459). -/
def axisBarred (b st : Nat) : Bool :=
  ((b = 0x480002 || b = 0x480003 || b = 0x480004 || b = 0x480005 || b = 0x48000E || b = 0x48000F) && st ≠ 0) ||
    (((0x480006 ≤ b && b ≤ 0x48000D) || (0x480018 ≤ b && b ≤ 0x48001D)) && 2 ≤ st)

/-- A write is not accepted in the present state of the engine, the slave, a link, a port, a camera, an axis or a heater (R564, order 5). -/
def State.writeBarred (s : State) (k v : Nat) : Bool :=
  let b := baseKey k
  let at_ := instOf k * 0x100
  (idleOnly b && decide (2 ≤ s.engineState)) ||
  match b / 0x10000 with
  | 0x16 => s.slave.al ≠ .preop
  | 0x1A => s.slave.al ≠ .preop
  | 0x1C => (b / 0x100 = 0x1C12 || b / 0x100 = 0x1C13 || b = 0x1C3201) && decide (s.slave.al ≠ .preop)
  | 0x20 => (b = 0x200016 || b = 0x200017) && (s.obj 0x400001 = 1 || s.obj 0x400101 = 1)
  | 0x25 => s.linkBusy k v
  | 0x30 =>
    (((b = 0x300002 || (0x300006 ≤ b && b ≤ 0x30000A)) && s.portState (instOf k) ≠ 0) ||
      (0x300010 ≤ b && b ≤ 0x300014 && (if h : instOf k < 16 then (s.port.get ⟨instOf k, h⟩).windup.isSome else false)))
  | 0x40 => ((0x400002 ≤ b && b ≤ 0x40000A) || (0x400010 ≤ b && b ≤ 0x400013)) && s.obj (0x400001 + at_) = 1
  | 0x41 => (b = 0x410003 || b = 0x410010 || b = 0x410020 || b = 0x410011 || b = 0x410021) && s.kaleidoOn
  | 0x48 => axisBarred b (s.obj (0x480030 + at_))
  | 0x49 => (b = 0x490003 || b = 0x49000A || b = 0x49000B || b = 0x49000C) && s.obj (0x490001 + at_) ≠ 0
  | 0x52 => b = 0x520015 && s.engineState ≠ 0
  | _ => false

/-- A strobe width, gap or cap breaks the limits of the port's record (R176, R192). -/
def portValueBad (r : Bytes) (b v : Nat) : Bool :=
  let warm := if r.isEmpty then 0 else rw16 r 0x22
  if b = 0x300003 then !r.isEmpty && !fieldIn v (rw16 r 0x18) (rw16 r 0x1A)
  else if b = 0x300004 then !r.isEmpty && decide (v < rw16 r 0x1E)
  else if b = 0x300005 then !r.isEmpty && decide (rw16 r 0x20 < v)
  else if b = 0x340001 then decide (warm < v)
  else if b = 0x340002 then v = 1 && warm = 0
  else false

/-- An axis value breaks a rule beside its range (R435, R459). -/
def State.axisValueBad (s : State) (at_ b v : Nat) : Bool :=
  let o := fun (k : Key) => s.obj (k + at_)
  if b = 0x480003 then decide (1000000000 < o 0x480006 * 2 * v)
  else if b = 0x480006 then decide (1000000000 < v * 2 * o 0x480003)
  else if b = 0x48000B then decide (sx 64 v < -(2 ^ 47 : Int) ∨ sx 64 (o 0x48000C) ≤ sx 64 v)
  else if b = 0x48000C then decide ((2 ^ 47 : Int) ≤ sx 64 v ∨ sx 64 v ≤ sx 64 (o 0x48000B))
  else if b = 0x480019 then decide (o 0x480006 < v)
  else if b = 0x48002B then decide (2 * o 0x480029 * o 0x48002A < v)
  else if b = 0x48002D then v = 0
  else false

/-- Sum of the four weights of error diffusion (R297). -/
def weightSum (v : Nat) : Nat := v % 16 + v / 16 % 16 + v / 256 % 16 + v / 4096 % 16

/-- A camera, Kaleidoscope or analyser value breaks a rule beside its range (R365, R384, R388, R429). -/
def State.imageValueBad (s : State) (at_ b v : Nat) : Bool :=
  if b = 0x400005 then ! [0x2A, 0x2B, 0x2C, 0x2E].contains v
  else if b = 0x40000B then v = 1 && s.obj (0x40000C + at_) = 0
  else if b = 0x40000C then v = 0 && s.obj (0x40000B + at_) = 1
  else if b = 0x410003 then ! [16, 32, 64, 128, 256].contains v
  else if b = 0x410011 ∨ b = 0x410021 then v = 0
  else if b = 0x42000F then decide (s.obj 0x420010 ≤ v)
  else if b = 0x420010 then decide (v ≤ s.obj 0x42000F)
  else if b = 0x420024 then decide (v < s.obj 0x420023)
  else if b = 0x420034 then decide (v < s.obj 0x420033)
  else false

/-- A value breaks a rule of its object beside its range (R564, order 7). -/
def State.valueBad (s : State) (k v : Nat) : Bool :=
  let b := baseKey k
  let at_ := instOf k * 0x100
  match b / 0x10000 with
  | 0x1C => (b / 0x100 = 0x1C12 && b ≠ 0x1C1200 && !(0x1600 ≤ v && v ≤ 0x1603)) ||
      (b / 0x100 = 0x1C13 && b ≠ 0x1C1300 && !(0x1A00 ≤ v && v ≤ 0x1A03))
  | 0x22 => b = 0x220019 && v ≠ 0
  | 0x24 => (b = 0x240003 && weightSum v ≠ 16) ||
      (0x240020 ≤ b && b ≤ 0x24002F && (16383 < v % 65536 || 8192 < v / 65536))
  | 0x25 => (b = 0x250004 || b = 0x250005) && v.testBit 40
  | 0x30 => (b = 0x300010 && 0x02800000 ≤ v) || portValueBad (s.domain (0x300020 + at_)) b v
  | 0x32 => 0x320001 ≤ b && b ≤ 0x320008 && s.variant = .v16A && 131072 < v
  | 0x34 => portValueBad (s.domain (0x300020 + at_)) b v
  | 0x48 => s.axisValueBad at_ b v
  | 0x50 => b = 0x500005 && s.obj 0x500004 ≤ v
  | 0x52 => b = 0x520016 && s.obj 0x200001 ≤ v
  | 0x58 => b = 0x580010 && 0x02800000 ≤ v
  | 0x5F => b = 0x5F0002 && ! [1, 2, 4, 8].contains v
  | _ => s.imageValueBad at_ b v

/-- Bits that a PDO maps: the lengths of its entries in use. -/
def State.pdoBits (s : State) (pdo : Nat) : Nat :=
  ((List.range (s.obj (pdo * 0x100))).map fun i => s.obj (pdo * 0x100 + i + 1) % 256).sum

/-- Bytes of the assigned PDOs of an assignment object. -/
def State.assignedBytes (s : State) (assign : Nat) : Nat :=
  ((List.range (s.obj (assign * 0x100))).map fun i => (s.pdoBits (s.obj (assign * 0x100 + i + 1)) + 7) / 8).sum

/-- The abort of a mapping entry: an object that the PDO cannot map, or with another length (R566). -/
def mappingAbort (pdo entry : Nat) : Option Nat :=
  if entry / 0x10000 = 0 then none
  else
    let want : Pdo := if pdo / 0x100 = 0x16 then .rx else .tx
    match rowOf (entry / 0x100) with
    | some r => if r.pdo = want ∧ r.bits = entry % 256 then none else some 0x06040041
    | none => some 0x06040041

/-- A mapping or assignment object is written (R566). -/
def State.writeMapping (s : State) (k v : Nat) : Answer :=
  let entry := decide (k / 0x10000 ≠ 0x1C) && decide (k % 0x100 ≠ 0)
  match if entry then mappingAbort (k / 0x100) v else none with
  | some a => s.refuse a
  | none =>
    let t := s.setObj k v
    if 128 < t.assignedBytes 0x1C12 ∨ 512 < t.assignedBytes 0x1C13 then s.refuse 0x06040042 else t.accept

/-- What an accepted write of a number brings about beside the new value. -/
def State.afterWrite (s : State) (k v : Nat) : State :=
  let b := baseKey k
  let i := instOf k
  if b = 0x300002 ∨ b = 0x300008 then (if h : i < 16 then s.reportLoadTime ⟨i, h⟩ else s)
  else if h : 0x240020 ≤ b ∧ b - 0x240020 < 16 then (s.emptyMaps ⟨b - 0x240020, h.2⟩).unityGains ⟨b - 0x240020, h.2⟩
  else if b = 0x40000B ∧ v = 1 then (if h : i < 2 then s.restartTrigger ⟨i, h⟩ else s)
  else if b = 0x490004 ∨ b = 0x490005 then
    (if h : i < 4 then
      (if s.obj (hk 0x49000F ⟨i, h⟩) = 2 then
        s.setHeater ⟨i, h⟩ 2 2 (min (s.obj (hk 0x490004 ⟨i, h⟩)) (s.obj (hk 0x490005 ⟨i, h⟩))) else s)
     else s)
  else if b = 0x58000C then s.scrubSync
  else if b = 0x480005 then (if h : i < 4 then s.modGen ⟨i, h⟩ fun g => { g with turn := some s.clk } else s)
  else if b = 0x420011 then (List.finRange 16).foldl State.noteOff s
  else if b = 0x230007 then (List.finRange 16).foldl State.noteMargin s
  else s

/-- A number without a row of its own is written, after the checks of its state and range (R90, R119, R132, R564). -/
def State.writePlain (s : State) (r : ObjRow) (k v : Nat) : Answer :=
  if s.writeBarred k v then s.refuse 0x08000022
  else if r.acc = .rws && s.locked then s.lockedWrite.refuse 0x08000021
  else match r.kind with
    | .ctr => if v = 0 then (s.setObj k 0).accept else s.refuse 0x06090030
    | .w1c =>
      let t := s.setObj k (clearBits r.bits (s.obj k) v)
      (if baseKey k = 0x580002 ∧ v % 2 = 1 then t.clearBusStop else t).accept
    | _ =>
      if !r.inRange v || s.valueBad k v then s.refuse 0x06090030
      else if k / 0x10000 = 0x16 ∨ k / 0x10000 = 0x1A ∨ k / 0x100 = 0x1C12 ∨ k / 0x100 = 0x1C13 then s.writeMapping k v
      else ((s.setObj k v).afterWrite k v).accept

/-- The abort of an object that the dictionary does not hold (R564, orders 1 and 2). -/
def missingAbort (k : Key) : Nat := if indexListed (k / 0x100) then 0x06090011 else 0x06020000

/-- A numeric object is written (R564); the assignment of lanes follows the ports rendered (R289). -/
def State.writeNum (s : State) (via : Via) (k v : Nat) : Answer :=
  let k := homeKey k
  match rowOf k with
  | none => s.refuse (missingAbort k)
  | some r =>
    if r.acc = .ro then s.refuse 0x06010002
    else
      let a := match ownOp via k v with
        | some f => f s
        | none => s.writePlain r k v
      (a.1, s.lanesSync a.2)

/-- Length that a DOMAIN object must have, where it has one (R564, order 4). -/
def State.domainLength (s : State) (k : Key) : Option Nat :=
  let b := baseKey k
  if b = 0x210012 then some 256
  else if 0x240030 ≤ b ∧ b ≤ 0x240037 then some 512
  else if h : 0x240040 ≤ b ∧ b - 0x240040 < 16 then some (s.gainLen ⟨b - 0x240040, h.2⟩)
  else if b = 0x420022 ∨ b = 0x420032 then some 260
  else if b = 0x420025 ∨ b = 0x420035 ∨ (0x420060 ≤ b ∧ b ≤ 0x420067) then some 6
  else none

/-- Some 16-bit entry has one of its bits 15 to 12 set (R297). -/
def entriesBad (d : Bytes) : Bool := (List.range (d.length / 2)).any fun i => decide (4095 < leAt d (2 * i) 2)

/-- The bytes of a DOMAIN object come into force (R297, R429, R633). -/
def State.putDomain (s : State) (k : Key) (d : Bytes) : Answer :=
  let b := baseKey k
  if b = 0x210012 then (s.modVbat fun vb => { vb with retention := d }).accept
  else if h : 0x240040 ≤ b ∧ b - 0x240040 < 16 then
    (if s.locked then s.lockedWrite.refuse 0x08000021
     else if entriesBad d then s.refuse 0x06090030
     else (s.setBytes (s.gainShadow ⟨b - 0x240040, h.2⟩) d).accept)
  else if 0x240030 ≤ b ∧ b ≤ 0x240037 then (if entriesBad d then s.refuse 0x06090030 else (s.setDomain k d).accept)
  else if b = 0x420013 then (if d.length % 8 ≠ 0 ∨ 512 < d.length then s.refuse 0x06070010 else (s.setDomain k d).accept)
  else (s.setDomain k d).accept

/-- A DOMAIN object is written (R564, R565). -/
def State.writeDomain (s : State) (k : Key) (d : Bytes) : Answer :=
  let b := baseKey k
  let i := instOf k
  match rowOf k with
  | none => s.refuse (missingAbort k)
  | some r =>
    if r.acc = .ro then s.refuse 0x06010002
    else if b = 0x300020 then withInst 16 i (fun n => hdrWriteOp n d s) s
    else if b = 0x380001 then withInst 16 i (fun n => mapWriteOp n d s) s
    else if b = 0x400014 then withInst 2 i (fun c => settingsSetOp c d s) s
    else if b = 0x480022 then withInst 4 i (fun a => segmentQueueOp a d s) s
    else if paramDoms.contains b then processParamOp b d s
    else if (s.domainLength k).getD d.length ≠ d.length then s.refuse 0x06070010
    else if s.writeBarred k 0 then s.refuse 0x08000022
    else s.putDomain k d

end Sys2Proof.Machine
end

