-- ==== Sys2Proof/Machine/RegMap.lean ====
section
/-! DEFINITION. The register blocks: the fields of the word at every register address (R36, R92, R135, R179, R209, R210, R251, R299, R336, R366, R389, R430, R460, R495, R530, R557, R558, R601, R635, R660, R661). -/

namespace Sys2Proof.Machine

/-- Access codes of a field (R11); a `wo` field whose written 0 does nothing is `cmd`. -/
inductive RegAcc where
  | rw | rws | ro | rc | w1c | wo | cmd
  deriving DecidableEq, Repr

/-- Where a field's value lives. -/
inductive RegSrc where
  /-- bits of a numeric object from bit `at` -/
  | obj (k : Key) (at_ : Nat)
  /-- an object in ns, as timing clocks -/
  | clocks (k : Key)
  /-- an object less 1 -/
  | less1 (k : Key)
  /-- bytes of a DOMAIN object from offset `ofs` -/
  | dom (k : Key) (ofs : Nat)
  /-- a lane number whose none reads all ones -/
  | lane (k : Key)
  /-- a number with some bits reserved inside the field -/
  | masked (k : Key) (mask : Nat)
  /-- a value computed from the state, which only reads -/
  | val (f : State → Nat)

/-- A field: its lowest bit, its width, its access and its value. -/
structure RegField where
  lo : Nat
  w : Nat
  acc : RegAcc
  src : RegSrc

/-- A 32-bit word of a register block. -/
inductive RegWord where
  | fields (l : List RegField)
  /-- LO of a read-only pair or latch: a read captures the registers at the listed addresses (R75, R93) -/
  | roLo (k : Key) (caps : List Nat)
  /-- HI of a read-only pair: the next read after a capture returns the captured value (R93) -/
  | roHi (k : Key) (w : Nat)
  /-- companion of a latch: every read after a capture returns the captured value (R75) -/
  | companion (k : Key) (lo w : Nat)
  | rwLo (k : Key)
  | rwHi (k : Key) (w : Nat)
  /-- DESC_LINE, and the word with DESC_CAP and READY (R180) -/
  | descLine (n : Fin 16) (k i : Nat)
  | descCap (n : Fin 16) (k i : Nat)

/-- Fields by access. -/
def rw (lo w : Nat) (k : Key) (at_ : Nat := 0) : RegField := ⟨lo, w, .rw, .obj k at_⟩
def rws (lo w : Nat) (k : Key) : RegField := ⟨lo, w, .rws, .obj k 0⟩
def ro (lo w : Nat) (k : Key) (at_ : Nat := 0) : RegField := ⟨lo, w, .ro, .obj k at_⟩
def w1c (w : Nat) (k : Key) : RegField := ⟨0, w, .w1c, .obj k 0⟩
def cmd (lo w : Nat) (k : Key) : RegField := ⟨lo, w, .cmd, .obj k 0⟩
def valF (lo w : Nat) (f : State → Nat) : RegField := ⟨lo, w, .ro, .val f⟩
def domF (lo w : Nat) (k : Key) (ofs : Nat) : RegField := ⟨lo, w, .rw, .dom k ofs⟩

/-- A word of one field of all 32 bits. -/
def rwWord (k : Key) : RegWord := .fields [rw 0 32 k]
def roWord (k : Key) : RegWord := .fields [ro 0 32 k]
def rcWord (k : Key) : RegWord := .fields [⟨0, 32, .rc, .obj k 0⟩]

/-- Two 16-bit halves. -/
def rwHalves (a b : Key) : RegWord := .fields [rw 0 16 a, rw 16 16 b]
def roHalves (a b : Key) : RegWord := .fields [ro 0 16 a, ro 16 16 b]

/-- A reserved word: it reads 0 and ignores writes (R12). -/
def reserved : RegWord := .fields []

/-- The word of a table of offsets, reserved where the table has none. -/
def regAt : List (Nat × RegWord) → Nat → RegWord
  | [], _ => reserved
  | (o, w) :: t, x => if x = o then w else regAt t x

/-- Counter registers in the order of their objects: `n` words from offset `base`. -/
def counters (base n : Nat) (k : Key) (o : Nat) (rest : RegWord) : RegWord :=
  if base ≤ o ∧ o < base + 4 * n then rcWord (k + (o - base) / 4) else rest

/-- The position block (R92). -/
def positionWord (o : Nat) : RegWord :=
  let at_ := 0x10600000
  counters 0x300 10 0x220050 o <|
  if 0x100 ≤ o ∧ o < 0x140 then
    let l := (o - 0x100) / 0x10
    match o % 0x10 with
    | 0 => .roLo (0x220020 + 2 * l) [at_ + o + 4, at_ + o + 8, at_ + o + 12, at_ + 0x140 + 4 * l]
    | 4 => .companion (0x220020 + 2 * l) 32 32
    | 8 => .companion (0x220021 + 2 * l) 0 32
    | _ => .companion (0x220021 + 2 * l) 32 32
  else if 0x140 ≤ o ∧ o < 0x150 then .companion (0x220028 + (o - 0x140) / 4) 0 32
  else regAt
    [(0x000, .fields [rw 0 1 0x220001, rw 1 1 0x220002, rw 2 1 0x220007, rw 3 1 0x220006, rw 4 1 0x220006 1,
        rw 5 1 0x220006 2, rw 6 1 0x220007 1, rw 7 1 0x220007 2, rw 8 1 0x220007 3, rw 16 8 0x220003]),
     (0x004, .fields [ro 0 11 0x220015]), (0x008, .fields [w1c 15 0x220016]), (0x00C, .fields [rw 0 2 0x22000D]),
     (0x010, .rwLo 0x220004), (0x014, .rwHi 0x220004 32), (0x018, roWord 0x220017),
     (0x01C, .fields [rw 0 8 0x220008, rw 8 8 0x22000C, rw 16 16 0x22000B]), (0x020, rwHalves 0x220009 0x22000A),
     (0x024, rwWord 0x220005),
     (0x030, .roLo 0x220012 [at_ + 0x34]), (0x034, .roHi 0x220012 16), (0x038, .roLo 0x220011 [at_ + 0x3C]),
     (0x03C, .roHi 0x220011 16), (0x040, .roLo 0x220010 [at_ + 0x44]), (0x044, .roHi 0x220010 16),
     (0x048, .roLo 0x220013 [at_ + 0x4C]), (0x04C, .roHi 0x220013 16), (0x050, roWord 0x220014), (0x054, rcWord 0x220019),
     (0x058, .rwLo 0x22000E), (0x05C, .rwHi 0x22000E 32), (0x060, .roLo 0x220018 [at_ + 0x64]), (0x064, .roHi 0x220018 32),
     (0x150, roWord 0x22002C),
     (0x200, .fields [rw 0 2 0x220030, rw 2 1 0x220035, rw 3 1 0x220036, rw 8 6 0x220032, rw 16 5 0x220039]),
     (0x204, .fields [rw 0 16 0x220031]), (0x208, .fields [rw 0 16 0x220033]), (0x20C, .fields [rw 0 16 0x220034]),
     (0x210, .rwLo 0x220037), (0x214, .rwHi 0x220037 32), (0x218, .rwLo 0x220038), (0x21C, .rwHi 0x220038 8),
     (0x220, rwWord 0x22003A), (0x224, roWord 0x220040), (0x228, .roLo 0x220041 [at_ + 0x22C]), (0x22C, .roHi 0x220041 8),
     (0x230, .roLo 0x220042 [at_ + 0x234]), (0x234, .roHi 0x220042 32)] o

/-- The fire scheduler block (R135). -/
def schedulerWord (o : Nat) : RegWord :=
  counters 0x100 7 0x230020 o <|
  if 0x400 ≤ o ∧ o < 0x800 then
    let b := (o - 0x400) / 0x40 * 0x100
    let x := o % 0x40
    if x < 0x20 then .fields [rw 0 19 (0x320001 + b + x / 4)]
    else if x < 0x28 then
      let k := 0x320009 + b + (x - 0x20)
      .fields [rws 0 8 k, rws 8 8 (k + 1), rws 16 8 (k + 2), rws 24 8 (k + 3)]
    else if x < 0x30 then
      let k := 0x320011 + b + (x - 0x28)
      .fields [ro 0 8 k, ro 8 8 (k + 1), ro 16 8 (k + 2), ro 24 8 (k + 3)]
    else if x = 0x30 then .fields [rw 0 8 (0x320019 + b)]
    else if x = 0x34 then roWord (0x32001C + b)
    else if x = 0x38 then roWord (0x32001D + b)
    else .fields [ro 0 16 (0x32001E + b), ro 16 4 (0x32001F + b)]
  else if 0x800 ≤ o ∧ o < 0x880 then roWord (0x32001A + (o - 0x800) / 8 * 0x100 + o % 8 / 4)
  else regAt
    [(0x000, .fields [rw 0 8 0x230001, rw 8 1 0x230002, rw 16 7 0x230003]),
     (0x004, .fields [ro 0 1 0x230012, ro 1 2 0x23000A, valF 3 1 fun s => b2n s.sched.lockstep, valF 4 1 fun s => b2n s.extrapValid]),
     (0x008, .fields [w1c 9 0x230019]), (0x00C, .fields [cmd 0 1 0x230010, ro 8 3 0x230013]),
     (0x010, rwHalves 0x230004 0x230005),
     (0x014, .fields [rw 0 3 0x230006, rw 3 1 0x230009, rw 8 8 0x230007, rw 16 16 0x230008]),
     (0x018, rwWord 0x230011), (0x01C, roWord 0x230016), (0x020, roWord 0x230017), (0x024, rwWord 0x230018),
     (0x028, roWord 0x230014), (0x02C, roWord 0x230015)] o

/-- The thermal registers of a head port (R209). -/
def thermalWord (n : Fin 16) (o : Nat) : RegWord :=
  let b := n.val * 0x100
  counters 0x360 4 (0x340020 + b) o <|
  if 0x310 ≤ o ∧ o < 0x320 then roHalves (0x34000A + b + (o - 0x310) / 4) (0x34000E + b + (o - 0x310) / 4)
  else if 0x320 ≤ o ∧ o < 0x330 then roWord (0x340012 + b + (o - 0x320) / 4)
  else if 0x340 ≤ o ∧ o < 0x350 then .fields [rw 0 16 (0x340005 + b + (o - 0x340) / 4)]
  else if 0x350 ≤ o ∧ o < 0x360 then .fields [ro 0 16 (0x340016 + b + (o - 0x350) / 4)]
  else regAt
    [(0x300, .fields [rw 0 1 (0x340002 + b), rw 1 3 (0x340003 + b), ⟨16, 11, .rw, .clocks (0x340001 + b)⟩]),
     (0x304, .fields [ro 0 6 (0x34001A + b)]), (0x308, .fields [w1c 4 (0x34001B + b)]),
     (0x30C, .fields [rw 0 16 (0x340004 + b), cmd 16 1 (0x34001C + b)]), (0x330, roWord (0x340009 + b))] o

/-- The block of a head port (R179, R180, R209). -/
def headPortWord (n : Fin 16) (o : Nat) : RegWord :=
  let b := n.val * 0x100
  let at_ := 0x10100000 + n.val * 0x1000
  counters 0x100 23 (0x330001 + b) o <|
  if 0x200 ≤ o ∧ o < 0x300 then .fields [⟨0, 32, .ro, .dom (0x300020 + b) (o - 0x200)⟩]
  else if 0x300 ≤ o ∧ o < 0x400 then thermalWord n o
  else if 0x800 ≤ o ∧ o < 0xC00 then
    let j := (o - 0x800) / 8
    if o % 8 = 0 then .descLine n (j / 16) (j % 16) else .descCap n (j / 16) (j % 16)
  else regAt
    [(0x000, .fields [rw 0 1 (0x300001 + b), rw 1 1 (0x300006 + b), rw 2 1 (0x30000A + b), rw 8 8 (0x300002 + b),
        rw 16 5 (0x300008 + b), rw 24 6 (0x300009 + b)]),
     (0x004, .fields [ro 0 3 (0x310001 + b), ro 4 4 (0x310002 + b),
        valF 8 1 fun s => b2n (s.obj (0x300006 + b) = 1 && !(s.domain (0x300020 + b)).isEmpty && decide (s.echoMode n.val ≠ 0)),
        valF 9 1 fun s => b2n (s.port.get n).windup.isSome, valF 10 1 fun s => b2n (decide (s.obj (0x300008 + b) ≠ 0))]),
     (0x008, .fields [w1c 10 (0x310009 + b)]),
     (0x010, .fields [⟨0, 11, .rws, .clocks (0x300003 + b)⟩, ⟨16, 11, .rws, .clocks (0x300004 + b)⟩]),
     (0x014, .fields [⟨0, 11, .ro, .clocks (0x310006 + b)⟩, ⟨16, 11, .ro, .clocks (0x310007 + b)⟩]),
     (0x018, .fields [rws 0 13 (0x300005 + b), ro 16 13 (0x310008 + b)]),
     (0x01C, .fields [rw 0 8 (0x300007 + b), ro 8 8 (0x310010 + b)]), (0x020, roWord (0x310005 + b)),
     (0x024, .roLo (0x310003 + b) [at_ + 0x28]), (0x028, .roHi (0x310003 + b) 32), (0x02C, roWord (0x310004 + b)),
     (0x030, .fields [rw 0 32 (0x300010 + b)]),
     (0x034, .fields [⟨0, 11, .rw, .clocks (0x300011 + b)⟩, rw 16 8 (0x300012 + b), cmd 24 2 (0x300015 + b)]),
     (0x038, .fields [rw 0 16 (0x300013 + b)]), (0x03C, rwWord (0x300014 + b)),
     (0x040, .fields [ro 0 3 (0x31000E + b), ro 16 15 (0x31000F + b)]), (0x044, roWord (0x31000A + b)),
     (0x048, roWord (0x31000B + b)), (0x04C, roWord (0x31000C + b)),
     (0x050, .fields [valF 0 12 fun s => (s.port.get n).tsCode, valF 12 2 fun s => (s.port.get n).tsDie,
        valF 16 16 fun s => (s.port.get n).tsSeq])] o

/-- The block of a heater (R210). -/
def heaterWord (h : Fin 4) (o : Nat) : RegWord :=
  let b := h.val * 0x100
  counters 0x40 3 (0x490020 + b) o <| regAt
    [(0x00, .fields [rw 0 2 (0x490001 + b), rw 8 8 (0x490003 + b)]),
     (0x04, .fields [ro 0 3 (0x49000F + b), valF 3 1 fun s => b2n (s.heater.get h).tripped]),
     (0x08, .fields [w1c 5 (0x490010 + b)]), (0x0C, rwHalves (0x490002 + b) (0x49000C + b)),
     (0x10, rwHalves (0x490004 + b) (0x490005 + b)), (0x14, rwWord (0x490006 + b)), (0x18, rwWord (0x490007 + b)),
     (0x1C, rwWord (0x490008 + b)), (0x20, .fields [rw 0 16 (0x490009 + b)]), (0x24, rwWord (0x49000A + b)),
     (0x28, .fields [rw 0 16 (0x49000B + b)]), (0x2C, roHalves (0x49000D + b) (0x49000E + b)),
     (0x30, .fields [valF 0 12 fun s => (s.heater.get h).code,
        valF 16 10 fun s => Config.cutDac (s.obj (0x49000C + b)) (s.obj (0x49000A + b)) (s.obj (0x49000B + b))]),
     (0x34, .fields [cmd 0 1 (0x490011 + b)])] o

/-- The raster ingest block (R251). -/
def ingestWord (o : Nat) : RegWord :=
  counters 0x100 18 0x250040 o <|
  if 0x040 ≤ o ∧ o < 0x060 then roWord (0x250031 + (o - 0x040) / 4)
  else regAt
    [(0x000, .fields [rw 0 1 0x250001, rw 1 1 0x250002, rw 2 2 0x250003, rw 4 2 0x250011, rw 6 2 0x250013, rw 8 8 0x250012,
        rw 16 1 0x250020, rw 17 1 0x25001A]),
     (0x004, .fields [ro 0 4 0x250030]), (0x008, .fields [w1c 11 0x25003C]), (0x00C, rwHalves 0x250010 0x250008),
     (0x010, .rwLo 0x250004), (0x014, .rwHi 0x250004 16), (0x018, .rwLo 0x250005), (0x01C, .rwHi 0x250005 16),
     (0x020, rwWord 0x250006), (0x024, rwWord 0x250007), (0x028, .fields [rw 0 16 0x250014, rw 16 8 0x250017]),
     (0x02C, rwHalves 0x250015 0x250016), (0x030, rwHalves 0x250018 0x250019), (0x034, rwWord 0x250021),
     (0x060, roWord 0x250039), (0x064, roWord 0x25003A), (0x068, roWord 0x25003B), (0x06C, roWord 0x25003D)] o

/-- Bit mask of the planes that render screens for a port (R252). -/
def State.planesRendered (s : State) (n : Fin 16) : Nat := if s.renderedPorts.contains n then s.planeMask n else 0

/-- The render registers (R299). -/
def renderWord (o : Nat) : RegWord :=
  counters 0x200 11 0x240080 o <|
  if 0x1000 ≤ o ∧ o < 0x2000 then
    let k := 0x240030 + (o - 0x1000) / 0x200
    .fields [domF 0 12 k (o % 0x200), domF 16 12 k (o % 0x200 + 2)]
  else if h : 0x040 ≤ o ∧ (o - 0x040) / 0x10 < 16 then
    let n : Fin 16 := ⟨(o - 0x040) / 0x10, h.2⟩
    match o % 0x10 with
    | 0 => rwWord (0x240020 + n.val)
    | 4 => roWord (0x240060 + n.val)
    | 8 => .fields [⟨0, 5, .ro, .lane (0x240070 + n.val)⟩, valF 8 8 fun s => s.planesRendered n]
    | _ => .fields [valF 0 32 fun s => (s.render.port.get n).lastSquash]
  else regAt
    [(0x000, .fields [rw 0 1 0x240002, rw 1 1 0x240005, rw 2 1 0x240006, rw 3 1 0x240008, rw 8 8 0x240004, rw 16 12 0x240001]),
     (0x004, .fields [ro 0 4 0x240012, ⟨8, 5, .ro, .lane 0x240011⟩]), (0x008, .fields [w1c 11 0x240013]),
     (0x00C, .fields [rw 0 16 0x240003]), (0x010, .fields [rw 0 12 0x240007]), (0x014, .fields [ro 0 17 0x240010]),
     (0x018, roHalves 0x240014 0x240015)] o

/-- The Jigsaw registers (R336). -/
def jigsawWord (o : Nat) : RegWord :=
  if 0x8800 ≤ o ∧ o < 0x8C00 then counters 0 8 (0x380020 + (o - 0x8800) / 0x40 * 0x100) (o % 0x40) reserved
  else if 0x8100 ≤ o ∧ o < 0x8500 then
    let b := (o - 0x8100) / 0x40 * 0x100
    regAt
      [(0x00, .fields [rw 0 4 (0x380005 + b), rw 4 1 (0x380006 + b), cmd 8 1 (0x380013 + b)]),
       (0x04, .fields [⟨0, 32, .rws, .masked (0x380003 + b) 0x33FFF⟩]), (0x08, .fields [ro 0 7 (0x380007 + b)]),
       (0x0C, .fields [w1c 8 (0x380008 + b)]), (0x10, roHalves (0x380009 + b) (0x38000A + b)),
       (0x14, roHalves (0x38000B + b) (0x38000C + b)), (0x18, roHalves (0x38000D + b) (0x38000E + b)),
       (0x1C, roWord (0x38000F + b))] (o % 0x40)
  else if o = 0x8000 then
    let mask := fun (i : Nat) (s : State) =>
      (List.range 16).foldl (fun m n => m ||| b2n (s.bit (0x380007 + n * 0x100) i) <<< n) 0
    .fields [valF 0 16 (mask 0), valF 16 16 (mask 1)]
  else reserved

/-- The block of a camera (R366). -/
def cameraWord (c : Fin 2) (o : Nat) : RegWord :=
  let b := c.val * 0x100
  let at_ := 0x10400000 + c.val * 0x10000
  counters 0x100 16 (0x400040 + b) o <|
  if 0x400 ≤ o ∧ o < 0x600 then
    let i := (o - 0x400) / 8
    if o % 8 = 0 then .fields [valF 0 3 fun s => (s.camSlot c i).st] else .fields [valF 0 32 fun s => (s.camSlot c i).frame]
  else regAt
    [(0x000, .fields [rw 0 1 (0x400001 + b), ⟨2, 2, .rw, .less1 (0x400002 + b)⟩, rw 4 4 (0x400004 + b), rw 8 6 (0x400005 + b),
        rw 14 2 (0x40000B + b), rw 16 2 (0x400011 + b), ⟨18, 1, .rw, .less1 (0x400012 + b)⟩, rw 19 2 (0x400013 + b),
        rw 21 3 (0x400008 + b)]),
     (0x004, .fields [ro 0 8 (0x400020 + b)]), (0x008, .fields [w1c 12 (0x400027 + b)]),
     (0x00C, rwHalves (0x400006 + b) (0x400007 + b)), (0x010, .fields [rw 0 12 (0x400003 + b), rw 16 16 (0x400009 + b)]),
     (0x014, .fields [rw 0 16 (0x40000A + b), rw 16 10 (0x40000E + b)]), (0x018, .rwLo (0x40000C + b)),
     (0x01C, .rwHi (0x40000C + b) 16), (0x020, .rwLo (0x40000D + b)), (0x024, .rwHi (0x40000D + b) 16),
     (0x028, .fields [rw 0 7 (0x400010 + b), cmd 8 1 (0x40000F + b)]), (0x02C, .rwLo (0x400015 + b)),
     (0x030, .rwHi (0x400015 + b) 32), (0x034, .fields [ro 0 8 (0x400021 + b), valF 8 24 fun s => s.camSlotSize c / 0x10000]),
     (0x038, roWord (0x400026 + b)), (0x03C, roWord (0x400023 + b)),
     (0x040, .roLo (0x400024 + b) [at_ + 0x44, at_ + 0x48, at_ + 0x4C]), (0x044, .companion (0x400024 + b) 32 32),
     (0x048, .companion (0x400025 + b) 0 32), (0x04C, .companion (0x400025 + b) 32 32), (0x050, .rwLo (0x400030 + b)),
     (0x054, .rwHi (0x400030 + b) 32), (0x058, .fields [⟨0, 6, .wo, .obj (0x400031 + b) 0⟩])] o

/-- The registers of Kaleidoscope (R389). -/
def kaleidoWord (o : Nat) : RegWord :=
  counters 0x200 5 0x410050 o <|
  if 0x100 ≤ o ∧ o < 0x180 then
    let k := 0x410010 + (o - 0x100) / 0x40 * 0x10
    let x := o % 0x40
    if x = 0x00 then .fields [rw 0 3 k]
    else if x = 0x04 then rwWord (k + 1)
    else if x = 0x08 then rwHalves (k + 2) (k + 3)
    else if x = 0x0C then rwHalves (k + 4) (k + 5)
    else if x = 0x10 then rwHalves (k + 6) (k + 7)
    else if x = 0x14 then .fields [rw 0 16 (k + 8)]
    else if x < 0x28 then .fields [domF 0 16 (k + 9) (x - 0x18), domF 16 16 (k + 9) (x - 0x16)]
    else if x = 0x28 then .fields [domF 0 16 (k + 9) 16]
    else reserved
  else if 0x1000 ≤ o ∧ o < 0x1C00 then
    let k := 0x410009 + (o - 0x1000) / 0x400
    let x := o % 0x400
    if x < 0x200 then .fields [domF 0 16 k x, domF 16 16 k (x + 2)] else if x = 0x200 then .fields [domF 0 16 k x] else reserved
  else regAt
    [(0x000, .fields [rw 0 1 0x410001, rw 1 1 0x410002, rw 2 1 0x410008, rw 8 8 0x410004, rw 16 8 0x410006]),
     (0x004, .fields [ro 0 5 0x41000C]), (0x008, .fields [w1c 5 0x41000D]), (0x00C, rwHalves 0x410005 0x410007),
     (0x010, .fields [rw 0 9 0x410003]), (0x014, roWord 0x41000E), (0x018, roWord 0x41000F),
     (0x01C, .fields [ro 0 5 0x410030, valF 8 4 fun s => s.kaleido.cursor % max 1 s.recordCount])] o

/-- The analyser's registers (R430). -/
def analyserWord (o : Nat) : RegWord :=
  let at_ := 0x10420000
  counters 0x8100 14 0x420050 o <|
  if 0x8200 ≤ o ∧ o < 0x8280 then
    let k := 0x420020 + (o - 0x8200) / 0x40 * 0x10
    regAt [(0x00, .fields [rw 0 1 k]), (0x04, .rwLo (k + 1)), (0x08, .rwHi (k + 1) 16),
      (0x0C, .fields [rw 0 14 (k + 3), rw 16 14 (k + 4)]), (0x10, .fields [domF 0 16 (k + 5) 0, domF 16 16 (k + 5) 2]),
      (0x14, .fields [domF 0 16 (k + 5) 4])] (o % 0x40)
  else if 0x8300 ≤ o ∧ o < 0x8340 then
    let k := 0x420060 + (o - 0x8300) / 8
    if o % 8 = 0 then .fields [domF 0 16 k 0, domF 16 16 k 2] else .fields [domF 0 16 k 4]
  else if 0x8400 ≤ o ∧ o < 0x8440 then roWord (0x420080 + (o - 0x8400) / 4)
  else if 0x8480 ≤ o ∧ o < 0x84C0 then .fields [ro 0 16 (0x420070 + (o - 0x8480) / 4)]
  else if 0x8800 ≤ o ∧ o < 0x8C00 then
    (if o % 0x200 ≤ 0x100 then .fields [domF 0 32 (0x420022 + (o - 0x8800) / 0x200 * 0x10) (o % 0x200)] else reserved)
  else if 0x9000 ≤ o ∧ o < 0x9200 then .fields [domF 0 32 0x420013 (o - 0x9000)]
  else regAt
    [(0x8000, .fields [rw 0 1 0x420001, rw 1 1 0x420002, rw 2 1 0x42000B, rw 3 1 0x420017, rw 8 3 0x420016]),
     (0x8004, .fields [ro 0 7 0x420044]), (0x8008, .fields [w1c 13 0x420045]), (0x800C, .fields [⟨0, 2, .wo, .obj 0x420018 0⟩]),
     (0x8010, rwHalves 0x420003 0x420004), (0x8014, rwHalves 0x420005 0x420006),
     (0x8018, .fields [rw 0 8 0x420007, rw 8 8 0x420008, rw 16 8 0x42000D]), (0x801C, rwWord 0x420009),
     (0x8020, rwHalves 0x42000A 0x42000C), (0x8024, rwHalves 0x42000E 0x420011), (0x8028, rwHalves 0x42000F 0x420010),
     (0x802C, .fields [rw 0 16 0x420012, rw 16 8 0x420015]), (0x8030, rwWord 0x420014),
     (0x8034, .fields [⟨0, 32, .wo, .obj 0x420042 0⟩]), (0x8038, .fields [ro 0 9 0x420043, ro 16 6 0x420046]),
     (0x803C, roWord 0x420047), (0x8040, .roLo 0x420048 [at_ + 0x8044]), (0x8044, .roHi 0x420048 32)] o

/-- The block of an axis (R460). -/
def axisWord (a : Fin 4) (o : Nat) : RegWord :=
  let b := a.val * 0x100
  let at_ := 0x10500000 + b
  counters 0xC0 6 (0x480040 + b) o <| regAt
    [(0x00, .fields [rw 0 1 (0x480001 + b), rw 1 1 (0x480002 + b), rw 2 1 (0x480005 + b), rw 3 1 (0x48000D + b),
        rw 4 1 (0x48000E + b), rw 5 1 (0x48000E + b) 1, rw 6 1 (0x480018 + b), rw 7 1 (0x480028 + b), cmd 8 4 (0x480010 + b)]),
     (0x04, .fields [ro 0 3 (0x480030 + b), ro 8 8 (0x480034 + b), ro 16 3 (0x480036 + b)]),
     (0x08, .fields [w1c 10 (0x480035 + b)]), (0x0C, rwHalves (0x480003 + b) (0x480004 + b)), (0x10, rwWord (0x480006 + b)),
     (0x14, rwWord (0x480007 + b)), (0x18, rwWord (0x480008 + b)), (0x1C, rwWord (0x480009 + b)), (0x20, rwWord (0x48000A + b)),
     (0x24, .rwLo (0x48000B + b)), (0x28, .rwHi (0x48000B + b) 16), (0x2C, .rwLo (0x48000C + b)), (0x30, .rwHi (0x48000C + b) 16),
     (0x34, .fields [rw 0 16 (0x48000F + b)]), (0x38, .rwLo (0x480011 + b)), (0x3C, .rwHi (0x480011 + b) 32),
     (0x40, rwWord (0x480019 + b)), (0x44, rwWord (0x48001A + b)), (0x48, rwWord (0x48001B + b)), (0x4C, rwWord (0x48001D + b)),
     (0x50, .rwLo (0x48001C + b)), (0x54, .rwHi (0x48001C + b) 16), (0x58, .rwLo (0x480020 + b)), (0x5C, .rwHi (0x480020 + b) 32),
     (0x60, rwWord (0x480021 + b)), (0x64, .roLo (0x480024 + b) [at_ + 0x68]), (0x68, .roHi (0x480024 + b) 32),
     (0x6C, .fields [rw 0 16 (0x480029 + b), rw 16 8 (0x48002A + b), ro 24 4 (0x480023 + b)]), (0x70, rwWord (0x48002B + b)),
     (0x74, .rwLo (0x48002C + b)), (0x78, .rwHi (0x48002C + b) 16), (0x7C, .rwLo (0x48002D + b)), (0x80, .rwHi (0x48002D + b) 32),
     (0x84, .rwLo (0x48002E + b)), (0x88, .rwHi (0x48002E + b) 16), (0x8C, .roLo (0x480031 + b) [at_ + 0x90]),
     (0x90, .roHi (0x480031 + b) 16), (0x94, .roLo (0x480032 + b) [at_ + 0x98]), (0x98, .roHi (0x480032 + b) 16),
     (0x9C, roWord (0x480033 + b)), (0xA0, roWord (0x480037 + b))] o

/-- The block of a stack channel; offsets below 0x100 and from 0x800 to 0x87F are device-wide (R495, R530). -/
def channelWord (c : Fin 8) (o : Nat) : RegWord :=
  let b := c.val * 0x100
  let at_ := 0x10200000 + c.val * 0x1000
  counters 0x200 6 (0x500040 + b) o <| counters 0x220 8 (0x500048 + b) o <| counters 0x400 11 (0x510001 + b) o <|
  counters 0x040 2 0x500018 o <|
  if 0x020 ≤ o ∧ o < 0x040 then .fields [rw 0 16 (0x500010 + (o - 0x020) / 4)]
  else if 0x800 ≤ o ∧ o < 0x880 then roWord ((if o % 8 = 0 then 0x520020 else 0x520030) + (o - 0x800) / 8)
  else regAt
    [(0x000, .fields [rw 0 2 0x500001, ro 2 2 0x500002, cmd 4 2 0x50000B, rw 8 4 0x500008, rw 16 7 0x500009, rw 24 7 0x50000A]),
     (0x004, .fields [ro 0 4 0x50000E, ro 8 3 0x50000D, ro 16 16 0x50000C]), (0x008, .fields [w1c 9 0x50000F]),
     (0x00C, .fields [rw 0 16 0x500003]), (0x010, .fields [rw 0 7 0x500004, rw 8 7 0x500005]), (0x014, rwWord 0x500006),
     (0x018, .fields [rw 0 16 0x500007]),
     (0x080, .fields [ro 0 5 0x520001]), (0x084, .fields [w1c 8 0x520002]), (0x088, .fields [rw 0 16 0x520006, cmd 16 1 0x520008]),
     (0x08C, .fields [cmd 0 2 0x520010, rw 2 1 0x520015, rw 8 3 0x520016, rw 16 8 0x520011]),
     (0x090, .fields [rw 0 2 0x520012, ro 8 3 0x520013]), (0x094, roWord 0x520003), (0x098, roWord 0x520004),
     (0x09C, roWord 0x520005),
     (0x100, .fields [ro 0 2 (0x500020 + b), ro 8 8 (0x500021 + b), ro 16 8 (0x500022 + b)]),
     (0x104, .fields [ro 0 7 (0x500023 + b), ro 8 7 (0x500024 + b), ro 16 4 (0x500027 + b)]), (0x108, roWord (0x500025 + b)),
     (0x10C, roWord (0x500026 + b)),
     (0x300, .fields [ro 0 5 (0x51001A + b), ro 5 3 (0x510010 + b), ro 8 1 (0x510011 + b), ro 9 7 (0x510015 + b)]),
     (0x304, .fields [ro 0 8 (0x510016 + b), ro 8 8 (0x510017 + b), ro 16 2 (0x510018 + b)]),
     (0x308, .roLo (0x510019 + b) [at_ + 0x30C]), (0x30C, .roHi (0x510019 + b) 8), (0x310, .roLo (0x510012 + b) [at_ + 0x314]),
     (0x314, .roHi (0x510012 + b) 32), (0x318, roWord (0x510013 + b))] o

/-- The block of a DMA channel; offsets from 0x30 are engine-wide (R557). -/
def dmaWord (ch : Fin 32) (o : Nat) : RegWord :=
  let b := ch.val * 0x100
  counters 0x18 6 (0x580020 + b) o <| regAt
    [(0x00, .fields [cmd 0 2 (0x580011 + b), rw 8 7 (0x580012 + b)]), (0x04, .fields [ro 0 2 (0x580013 + b), ro 2 3 (0x580014 + b)]),
     (0x08, .fields [w1c 5 (0x580017 + b)]), (0x0C, .fields [rw 0 32 (0x580010 + b)]), (0x10, roWord (0x580015 + b)),
     (0x14, roWord (0x580016 + b)), (0x30, .fields [ro 0 8 0x580001]), (0x34, .fields [w1c 2 0x580002]),
     (0x38, .roLo 0x580003 [0x10300000 + ch.val * 0x40 + 0x3C]), (0x3C, .roHi 0x580003 8)] o

/-- The clocks and power block (R635). -/
def clocksWord (o : Nat) : RegWord :=
  counters 0x100 8 0x210020 o <|
  if 0x200 ≤ o ∧ o < 0x300 then .fields [domF 0 32 0x210012 (o - 0x200)]
  else regAt
    [(0x000, .fields [rw 0 2 0x210005, rw 2 1 0x210009]), (0x004, .fields [ro 0 24 0x210003]), (0x008, .fields [w1c 14 0x210004]),
     (0x00C, .fields [rw 0 23 0x21000A]), (0x010, .fields [valF 0 23 fun s => s.clocks.closed]), (0x014, rwHalves 0x210007 0x210008),
     (0x018, .fields [ro 0 16 0x21000C, valF 16 16 fun s => s.coreKhz / 1000]), (0x01C, .fields [ro 0 4 0x21000D]),
     (0x020, .fields [⟨0, 32, .wo, .obj 0x21000E 0⟩]), (0x024, .rwLo 0x210010), (0x028, .rwHi 0x210010 32), (0x02C, roWord 0x210011)] o

/-- The health block with the SRAM registers (R558, R660). -/
def healthWord (o : Nat) : RegWord :=
  counters 0x100 9 0x5E0050 o <| counters 0xE020 3 0x58000D o <|
  if 0x010 ≤ o ∧ o < 0x020 then .fields [w1c 32 (0x5E0010 + (o - 0x010) / 4)]
  else if 0x020 ≤ o ∧ o < 0x030 then rwWord (0x5E0018 + (o - 0x020) / 4)
  else regAt
    [(0x000, .fields [ro 0 6 0x5E0001]), (0x004, .fields [⟨0, 2, .wo, .obj 0x5E0006 0⟩]), (0x008, .fields [w1c 7 0x5E0004]),
     (0x00C, .fields [ro 0 3 0x5E0002]), (0x030, .fields [ro 0 17 0x5E0020]), (0x034, .fields [ro 0 5 0x5E0021]),
     (0x038, rwWord 0x5E0005), (0x03C, roWord 0x5E0007), (0x040, .fields [ro 0 14 0x5E0014]), (0x044, roWord 0x5E0015),
     (0xE000, .fields [ro 0 2 0x580008]), (0xE004, .fields [w1c 3 0x580009]), (0xE008, .fields [rw 0 14 0x58000C]),
     (0xE00C, rwWord 0x58000A), (0xE010, rwWord 0x58000B)] o

/-- Milliseconds that have passed in the window of the lane under test (R661). -/
def State.windowMs (s : State) : Nat := if s.testLane = 0xFF then 0 else min 100 ((s.clk - s.render.windowAt) / 500000)

/-- The self-test block (R661). -/
def selfTestWord (o : Nat) : RegWord :=
  if 0x100 ≤ o ∧ o < 0x144 then .fields [⟨0, 16, .ro, .dom 0x5E0023 ((o - 0x100) / 2)⟩]
  else if 0x180 ≤ o ∧ o < 0x194 then .fields [⟨0, 8, .ro, .dom 0x5E0022 ((o - 0x180) / 4)⟩]
  else regAt
    [(0x000, .fields [⟨0, 5, .ro, .lane 0x240011⟩, valF 8 8 State.windowMs]), (0x004, .fields [ro 0 26 0x5E0003]),
     (0x008, .fields [valF 0 17 fun s => s.render.retest.foldl (fun m l => m ||| 1 <<< l) 0])] o

/-- The events block (R601). -/
def eventsWord (o : Nat) : RegWord :=
  counters 0x200 4 0x5F1020 o <| counters 0x210 2 0x5F2031 o <|
  if o < 0x020 then roWord (0x5F2001 + o / 4)
  else if o < 0x040 then rwWord (0x5F2011 + (o - 0x020) / 4)
  else if o < 0x060 then rwWord (0x5F2021 + (o - 0x040) / 4)
  else regAt
    [(0x060, roWord 0x5F2030), (0x100, .fields [ro 0 3 0x5F1006, ro 4 3 0x5F1007, ro 8 8 0x5F100B]),
     (0x104, .fields [cmd 0 8 0x5F1001, rw 8 8 0x5F1003]), (0x108, rwWord 0x5F1002),
     (0x10C, .fields [ro 0 8 0x5F1004, ro 8 8 0x5F1005, ro 16 16 0x5F1008]), (0x110, roWord 0x5F1009),
     (0x114, .roLo 0x5F100A [0x10A00118]), (0x118, .roHi 0x5F100A 32), (0x120, .fields [w1c 6 0x5F100C]),
     (0x124, .fields [w1c 5 0x200023])] o

/-- Calls `f` with an instance number below `n`. -/
def instWord (n i : Nat) (f : Fin n → RegWord) : RegWord := if h : i < n then f ⟨i, h⟩ else reserved

/-- The word at a register address (R36). -/
def regWord (a : Nat) : RegWord :=
  let o := a % 0x10000
  match a / 0x10000 with
  | 0x1010 => instWord 16 (o / 0x1000) fun n => headPortWord n (o % 0x1000)
  | 0x1020 => instWord 8 (o / 0x1000) fun c => channelWord c (o % 0x1000)
  | 0x1030 => instWord 32 (o / 0x40) fun ch => dmaWord ch (o % 0x40)
  | 0x1040 => cameraWord 0 o
  | 0x1041 => cameraWord 1 o
  | 0x1042 => if o < 0x8000 then kaleidoWord o else analyserWord o
  | 0x1050 => instWord 4 (o / 0x100) fun a => axisWord a (o % 0x100)
  | 0x1051 => instWord 4 (o / 0x100) fun h => heaterWord h (o % 0x100)
  | 0x1060 => positionWord o
  | 0x1061 => schedulerWord o
  | 0x1070 => if o < 0x8000 then renderWord o else jigsawWord o
  | 0x1071 => ingestWord o
  | 0x1080 => clocksWord o
  | 0x1090 => healthWord o
  | 0x10A0 => eventsWord o
  | 0x10B0 => selfTestWord o
  | _ => reserved

/-- The gate bit of the block at a register address (R621). -/
def regGate (a : Nat) : Option Nat :=
  match a / 0x10000 with
  | 0x1010 => some (a / 0x1000 % 16)
  | 0x1030 => some 22
  | 0x1040 => some 16
  | 0x1041 => some 17
  | 0x1042 => some 18
  | 0x1050 => some 20
  | 0x1051 => some 21
  | 0x1071 => some 19
  | _ => none

/-- The block at a register address is gated (R622). -/
def State.regGated (s : State) (a : Nat) : Bool :=
  match regGate a with
  | some g => s.clocks.closed.testBit g
  | none => false

end Sys2Proof.Machine
end

