-- ==== Sys2Proof/Machine/Registers.lean ====
section
/-! DEFINITION. Reads and writes of registers by access code, register pairs and captures (R11 to R14, R60, R61, R75, R93, R99, R119, R175, R180, R622). -/

namespace Sys2Proof.Machine

/-- Value of a field's source. -/
def State.srcValue (s : State) (w : Nat) : RegSrc → Nat
  | .obj k at_ => field (s.readObj k) at_ w
  | .clocks k => s.readObj k / 2
  | .less1 k => s.readObj k - 1
  | .dom k ofs => leAt (s.readDomain k) ofs ((w + 7) / 8)
  | .lane k => s.readObj k
  | .masked k m => s.readObj k &&& m
  | .val f => f s

/-- A field as it reads, in its place in the word; a write-only field reads 0 (R11). -/
def State.fieldRead (s : State) (f : RegField) : Nat :=
  match f.acc with
  | .wo => 0
  | .cmd => 0
  | _ => (s.srcValue f.w f.src % 2 ^ f.w) <<< f.lo

/-- A word as it reads where nothing has been captured for it. -/
def State.wordRead (s : State) : RegWord → Nat
  | .fields l => (l.map s.fieldRead).sum
  | .roLo k _ => s.readObj k % 2 ^ 32
  | .roHi k w => field (s.readObj k) 32 w
  | .companion k lo w => field (s.readObj k) lo w
  | .rwLo k => s.readObj k % 2 ^ 32
  | .rwHi k w => field (s.readObj k) 32 w
  | .descLine n k i => (s.slot n k i).line
  | .descCap n k i => (s.slot n k i).cap % 2 ^ 13 + b2n (s.slot n k i).ready <<< 31

/-- A field is cleared by its read; with `inc`, a counter holds the increment of the same clock (R11, R13). -/
def State.clearRead (s : State) (inc : Bool) (f : RegField) : State :=
  match f.acc, f.src with
  | .rc, .obj k _ =>
    let t := s.setObj k 0
    if inc && (rowOf (baseKey k)).any fun r => r.kind = .ctr then t.bump k else t
  | _, _ => s

/-- A read of the register at an address: its value and the state after it (R11, R13, R75, R93, R622). -/
def State.regRead (s : State) (a : Nat) (inc : Bool) : Nat × State :=
  if s.regGated a then (0, s)
  else
    let w := regWord a
    let held := s.heldAt a
    match w with
    | .fields l => (s.wordRead w, l.foldl (State.clearRead · inc) s)
    | .roLo _ caps => (s.wordRead w, caps.foldl (fun t c => t.hold c (s.wordRead (regWord c) + 1)) s)
    | .roHi _ _ => if held = 0 then (s.wordRead w, s) else (held - 1, s.hold a 0)
    | .companion _ _ _ => (if held = 0 then s.wordRead w else held - 1, s)
    | _ => (s.wordRead w, s)

/-- The object that a field's write reaches. -/
def RegSrc.key : RegSrc → Key
  | .obj k _ => k
  | .clocks k => k
  | .less1 k => k
  | .dom k _ => k
  | .lane k => k
  | .masked k _ => k
  | .val _ => 0

/-- A value is written to a field. -/
def State.fieldWrite (s : State) (f : RegField) (v : Nat) : Answer :=
  match f.src with
  | .obj k at_ => s.writeNum .reg k (if f.acc = .w1c then v <<< at_ else putField (s.readObj k) at_ f.w v)
  | .clocks k => s.writeNum .reg k (2 * v)
  | .less1 k => s.writeNum .reg k (v + 1)
  | .dom k ofs =>
    let d := patch (s.readDomain k) ofs (leBytes ((f.w + 7) / 8) v)
    s.writeDomain k (if k = 0x420013 then padTo 512 d else d)
  | .masked k _ => s.writeNum .reg k v
  | _ => s.accept

/-- The block of an address ignores a write as a whole where it refuses one of its fields (R202, R251, R299, R336, R366, R389, R430, R460, R495, R530, R557, R635, R660); the position, scheduler, head port and event blocks ignore the field alone (R61, R135, R179, R601). -/
def wholeWords (a : Nat) : Bool :=
  !((0x10100000 ≤ a && a < 0x10110000) || (0x10600000 ≤ a && a < 0x10620000) || (0x10A00000 ≤ a && a < 0x10A10000))

/-- One field takes its bits of a written word; `hw` has the bits that hardware sets in the same clock (R14). A refused field joins the second part. -/
def State.writeOne (f : RegField) (v hw : Nat) (r : State × List RegField) : State × List RegField :=
  match r.1.fieldWrite f (field v f.lo f.w) with
  | (some a, t) => (t.refusedAs a f.src.key, f :: r.2)
  | (none, t) =>
    match f.acc, f.src with
    | .w1c, .obj k _ => (t.setObj k (t.obj k ||| field hw f.lo f.w), r.2)
    | _, _ => (t, r.2)

/-- The fields of a word are written, the last of the list first; collects the refused fields. -/
def writeFields (v hw : Nat) : List RegField → State × List RegField → State × List RegField
  | [], r => r
  | f :: t, r =>
    let r := writeFields v hw t r
    match f.acc with
    | .ro => r
    | .rc => r
    | .rws => if r.1.locked then r else State.writeOne f v hw r
    | .cmd => if field v f.lo f.w = 0 then r else State.writeOne f v hw r
    | _ => State.writeOne f v hw r

/-- A field in bit 0 that the word switches off. -/
def switchedOff (v : Nat) (f : RegField) : Bool := f.lo = 0 && f.w = 1 && !v.testBit 0

/-- The order in which the fields of a word take effect, last first: an enable in bit 0 that is switched off, the settings from the highest bit down, so that an enable acts on the settings written with it, then the commands (DESIGN CHOICE, log entry 5). -/
def fieldOrder (v : Nat) (l : List RegField) : List RegField :=
  let rest := l.filter fun f => f.acc ≠ .cmd
  (l.filter fun f => f.acc = .cmd) ++ (rest.filter fun f => !switchedOff v f) ++ rest.filter (switchedOff v)

/-- What the refusal of a field leaves of a word that is ignored as a whole: the events and counters of the refusal. -/
def State.refusedField (v : Nat) (s : State) (f : RegField) : State :=
  match s.fieldWrite f (field v f.lo f.w) with
  | (some a, t) => t.refusedAs a f.src.key
  | (none, _) => s.configRefused f.src.key

/-- A written word of fields: shadow fields of a locked set are refused once (R119), and an accepted write of ENC_CTRL or BAR_CTRL clears CONFIG_ERR (R92). -/
def State.writeWord (s : State) (a v hw : Nat) (l : List RegField) : State :=
  let s := if s.locked && l.any (fun f => f.acc = .rws) then s.lockedWrite else s
  let r := writeFields v hw (fieldOrder v l) (s, [])
  if wholeWords a && !r.2.isEmpty then r.2.foldl (State.refusedField v) s
  else if (a = 0x10600000 ∨ a = 0x10600200) ∧ r.2 = [] then r.1.setBit 0x220015 10 false
  else r.1

/-- The value that the HI register of a read-write pair brings into force with its LO. -/
def State.pairValue (s : State) (k : Key) (w a v : Nat) : Nat :=
  let held := s.heldAt (a - 4)
  let lo := if held = 0 then s.readObj k % 2 ^ 32 else held - 1
  let x := lo + (v % 2 ^ w) <<< 32
  match rowOf k with
  | some r => if r.signed then toBits r.bits (sx (32 + w) x) else x
  | none => x

/-- A write of the register at an address (R11, R12, R14, R93, R622). -/
def State.regWrite (s : State) (a v hw : Nat) : State :=
  if s.regGated a then s
  else match regWord a with
    | .fields l => s.writeWord a v hw l
    | .rwLo k => if s.writeBarred k (s.obj k) then s.configRefused k else s.hold a (v % 2 ^ 32 + 1)
    | .rwHi k w =>
      match (s.hold (a - 4) 0).writeNum .reg k (s.pairValue k w a v) with
      | (none, t) => t
      | (some _, t) => t.configRefused k
    | .descLine n k i => s.modPort n fun p => { p with
        slots := putKey p.slots (16 * k + i) { s.slot n k i with line := v % 2 ^ 32 } }
    | .descCap n k i => (slotDescOp n k i (field v 0 13) (v.testBit 31) s).2
    | _ => s

/-- An address is that of a register (R36, R38). -/
def isRegister (a : Nat) : Bool := inRegisters a && a % 4 = 0

/-- A read of a register of 32 bits on the bus. -/
def State.busRead (s : State) (a : Nat) (inc : Bool) : State :=
  if isRegister a then
    let r := s.regRead a inc
    r.2.answer (.busData r.1)
  else s.answer .decodeError

/-- A write of a register of 32 bits on the bus. -/
def State.busWrite (s : State) (a v hw : Nat) : State :=
  if isRegister a then (s.regWrite a v hw).answer .busDone else s.answer .decodeError

/-- REGISTER_WRITE: `hw` has the bits of the word that hardware sets in the same clock (R11, R12, R14). -/
def execRegisterWrite (addr value hw : Nat) (s : State) : Host.Outcome State Fault Refusal :=
  .next (State.settle (s.busWrite addr value hw))

/-- RC_REGISTER_READ: `inc` says that an event increments the counter in the same clock (R11, R13). -/
def execRcRegisterRead (addr : Nat) (inc : Bool) (s : State) : Host.Outcome State Fault Refusal :=
  .next (State.settle (s.busRead addr inc))

/-- PAIR_LO_READ (R75, R93). -/
def execPairLoRead (addr : Nat) (s : State) : Host.Outcome State Fault Refusal :=
  .next (State.settle (s.busRead addr false))

/-- PAIR_HI_WRITE (R93). -/
def execPairHiWrite (addr value : Nat) (s : State) : Host.Outcome State Fault Refusal :=
  .next (State.settle (s.busWrite addr value 0))

end Sys2Proof.Machine
end

