-- ==== Sys2Proof/Machine/Window.lean ====
section
/-! DEFINITION. The register window of the object dictionary (R594 to R597). -/

namespace Sys2Proof.Machine

/-- One access on the bus to a register, SRAM or the stack. -/
def State.busAccess (s : State) (master : Master) (write : Bool) (a width value collide : Nat) (ecc : EccFind) : State × Resp :=
  if inRegisters a then
    if width = 4 ∧ a % 4 = 0 then
      if write then (s.regWrite a value 0, .busDone)
      else
        let r := s.regRead a false
        (r.2, .busData r.1)
    else (s, .decodeError)
  else s.memoryAccess master write a width value collide ecc

/-- What a window access comes to: its result code, and the abort or the data read. -/
structure Viewed where
  result : Nat
  abort : Option Nat
  data : Nat
  state : State

/-- One window access at address `a`; the checks stand in the order of R564 (R594, R596, R597). -/
def State.windowAt (s : State) (write : Bool) (a value collide : Nat) (ecc : EccFind) : Viewed :=
  let w := s.obj 0x5F0002
  let fail := fun (t : State) (r code : Nat) => ({ result := r, abort := some code, data := 0, state := t.setObj 0x5F0008 r } : Viewed)
  if 2 ^ 40 ≤ a ∨ a % w ≠ 0 ∨ (inRegisters a ∧ w ≠ 4) then fail s 2 0x06090030
  else if write && s.obj 0x5F0007 = 0 then fail s 4 0x08000020
  else
    let r := s.busAccess .window write a w (value % 2 ^ (8 * w)) collide ecc
    match r.2 with
    | .decodeError => fail r.1 1 0x06060000
    | .errorResponse => fail r.1 3 0x06060000
    | x =>
      let t := r.1.setObj 0x5F0008 0
      { result := 0, abort := none, data := (match x with | .busData d => d | _ => 0),
        state := if t.obj 0x5F0004 = 1 then t.setObj 0x5F0001 (a + w) else t }

/-- Accesses of a block in ascending order, with the collisions and the SRAM error that each meets; the first that fails ends it (R535 to R537, R595). -/
def windowRun (write : Bool) : Nat → Nat → Bytes → Nat → Bytes → List (Nat × EccFind) → State → Option Nat × Bytes × State
  | 0, _, _, fin, out, _, s => (none, out, s.setObj 0x5F0009 fin)
  | n + 1, a, d, fin, out, met, s =>
    let w := s.obj 0x5F0002
    let m := met.headD (0, .clean)
    let v := s.windowAt write a (leAt d 0 w) m.1 m.2
    match v.abort with
    | some c => (some c, out, v.state.setObj 0x5F0009 fin)
    | none => windowRun write n (a + w) (d.drop w) (fin + w) (out ++ leBytes w v.data) (met.drop 1) v.state

/-- A block access; a length that differs from the block length comes first (R564), and the writes-disabled check is that of the first access (R595 to R597). -/
def State.windowBlock (s : State) (write : Bool) (d : Bytes) (met : List (Nat × EccFind)) : Option Nat × Bytes × State :=
  let len := s.obj 0x5F0006
  let w := s.obj 0x5F0002
  let s := s.setObj 0x5F0009 0
  if write && d.length ≠ len then (some 0x06070010, [], s)
  else if len % w ≠ 0 then (some 0x06090030, [], s.setObj 0x5F0008 2)
  else windowRun write (len / w) (s.obj 0x5F0001) d 0 [] met s

/-- A write of the window's data object. -/
def State.windowWrite (s : State) (value collide : Nat) (ecc : EccFind) : Answer :=
  let v := s.windowAt true (s.obj 0x5F0001) value collide ecc
  (v.abort, v.state)

/-- An SDO request of the window is answered where the mailbox serves CoE (R560). -/
def State.coe (s : State) (f : State → State) : State :=
  match s.slave.al with
  | .init => s
  | .boot => s.answer .mailboxError
  | _ => f s.newSdo

/-- What an SDO read answers: data, or an abort. -/
def State.read (s : State) (abort : Option Nat) (d : Bytes) : State :=
  s.answer (match abort with | some c => .abort c | none => .data d)

/-- What an SDO write answers. -/
def State.wrote (s : State) (abort : Option Nat) : State :=
  s.answer (match abort with | some c => .abort c | none => .done)

/-- WINDOW_ACCESS: `collide` and `ecc` are those of MEMORY_ACCESS (R594, R596, R597). -/
def execWindowAccess (write : Bool) (value collide : Nat) (ecc : EccFind) (s : State) : Host.Outcome State Fault Refusal :=
  .next (State.settle (s.coe fun s =>
    let v := s.windowAt write (s.obj 0x5F0001) value collide ecc
    if write then v.state.wrote v.abort else v.state.read v.abort (leBytes 8 v.data)))

/-- WINDOW_BLOCK_ACCESS: its block holds, for each access in turn, `collide` and `ecc` as MEMORY_ACCESS has them (R535 to R537, R595 to R597). -/
def execWindowBlockAccess (write : Bool) (block : BlockData) (s : State) : Host.Outcome State Fault Refusal :=
  .next (State.settle (s.coe fun s =>
    let r := s.windowBlock write block.data block.met
    if write then r.2.2.wrote r.1 else r.2.2.read r.1 r.2.1))

end Sys2Proof.Machine
end

