-- ==== Sys2Proof/Machine/Storage.lean ====
section
/-! DEFINITION. SDO writes in whole, and the stored configuration (R560, R564, R565, R573 to R575). -/

namespace Sys2Proof.Machine

/-- Objects that enable a block, the job identifier, the slow-request force and the address-map order are not stored (R574), by the key of instance 0. -/
def notStored (b : Key) : Bool :=
  [0x500001, 0x250010, 0x230009, 0x220001, 0x220030, 0x250001, 0x250002, 0x250020, 0x300001, 0x340002, 0x400001, 0x410001,
    0x410002, 0x420001, 0x480001, 0x480028, 0x490001].contains b

/-- A row of objects that the stored configuration holds (R574). -/
def storedRow (r : ObjRow) : Bool :=
  (match r.kind with
   | .val => r.acc = .rw || r.acc = .rws
   | .dom => r.acc = .rw
   | _ => false) &&
    (decide (0x200000 ≤ r.key ∧ r.key < 0x5F0000) || r.key / 0x10000 = 0x16 || r.key / 0x10000 = 0x1A || r.key / 0x10000 = 0x1C)

/-- The keys that the stored configuration holds, ascending (R574). -/
def storedKeys : List (ObjRow × Key) := (keysOf storedRow).filter fun x => !notStored (baseKey x.2)

/-- The configuration in force, as it is stored; an object without bytes is left out (R574). -/
def State.snapshotConfig (s : State) : List (Nat × Bytes) :=
  storedKeys.filterMap fun (x : ObjRow × Key) =>
    if x.1.kind = .dom then
      let d := s.readDomain x.2
      if d.isEmpty then none else some (x.2, d)
    else some (x.2, leBytes ((x.1.bits + 7) / 8) (s.readObj x.2))

/-- A write of save (R573). -/
def storeOp (value : Nat) (s : State) : Answer :=
  if !s.idleEngine then s.refuse 0x08000022
  else if value ≠ 0x65766173 then s.refuse 0x08000020
  else
    let c := s.snapshotConfig
    ((s.modMram fun mr => { mr with cfg := some c } : State).setObj 0x20000C (min 262144 (Config.configSize c))).accept

/-- A write of load (R573). -/
def restoreOp (value : Nat) (s : State) : Answer :=
  if !s.idleEngine then s.refuse 0x08000022
  else if value ≠ 0x64616F6C then s.refuse 0x08000020
  else (s.modMram fun mr => { mr with cfgErase := true } : State).accept

/-- An SDO write of an object that exists, its bytes of the object's length (R564). -/
def State.writeObject (s : State) (r : ObjRow) (k : Key) (d : Bytes) : Answer :=
  if r.acc = .ro then s.refuse 0x06010002
  else if k = 0x5F0005 then
    let w := s.windowBlock true d []
    (w.1, w.2.2)
  else if r.kind = .dom then s.writeDomain k d
  else if d.length ≠ (r.bits + 7) / 8 then s.refuse 0x06070010
  else if k = 0x101001 then storeOp (leNat d) s
  else if k = 0x101101 then restoreOp (leNat d) s
  else if k = 0x5F0003 then s.windowWrite (leNat d) 0 .clean
  else s.writeNum .sdo k (leNat d)

/-- An SDO write of an object (R564). -/
def State.writeSdo (s : State) (k : Key) (d : Bytes) : Answer :=
  match rowOf (homeKey k) with
  | none => s.refuse (missingAbort k)
  | some r => s.writeObject r (homeKey k) d

/-- The key of an index and a sub-index. -/
def objKey (index sub : Nat) : Key := index % 0x10000 * 0x100 + sub % 0x100

/-- SDO_WRITE; a complete-access write is never made (R560, R564). -/
def execSdoWrite (index sub : Nat) (data : Bytes) (complete : Bool) (s : State) : Host.Outcome State Fault Refusal :=
  .next (State.settle (s.access .sdo (objKey index sub) fun s =>
    if complete && indexListed (index % 0x10000) then s.refuse 0x06010000 else s.writeSdo (objKey index sub) data))

/-- The bytes of a segmented write of object `k` with those of the segment that arrives; none where no such write is in progress (R565). -/
def State.segmentData (s : State) (k : Key) (d : Bytes) : Option Bytes :=
  match s.slave.seg with
  | some g => if g.key = k then some (g.data ++ d) else none
  | none => none

/-- A segment that is not the last is taken (R565). -/
def State.takeSegment (s : State) (k : Key) (d : Bytes) : State :=
  s.coe fun s => (s.modSlave fun sl => { sl with seg := some { key := k, data := d } } : State).answer .done

/-- SDO_SEGMENT: a segment other than the first is taken only where a write of its object is in progress (R565). -/
def execSdoSegment (index sub : Nat) (data : Bytes) (part : SegPart) (s : State) : Host.Outcome State Fault Refusal :=
  let k := objKey index sub
  .next (State.settle (
    match part, s.segmentData k data with
    | .first, _ => s.takeSegment k data
    | .next, some d => s.takeSegment k d
    | .last, some d => s.access .sdo k fun s => s.writeSdo k d
    | .abort, _ => s.newSdo
    | _, none => s))

/-- An SDO read of an object: its bytes as they read, or the abort that it ends with; objects whose read changes state have rows of their own (R11, R559, R564, R622). -/
def State.sdoRead (s : State) (index sub : Nat) : State :=
  let k := homeKey (objKey index sub)
  match rowOf k with
  | none => s.coe fun s => s.answer (.abort (missingAbort k))
  | some r => s.readAnswer k (if r.kind = .dom then s.readDomain k else leBytes ((r.bits + 7) / 8) (s.readObj k)) id

/-- The bytes that a complete-access read of an index returns: sub-index 0 in two bytes, then the others in ascending order (R559). -/
def State.completeRead (s : State) (index : Nat) : Bytes :=
  (List.range 256).flatMap fun sub =>
    let k := homeKey (objKey index sub)
    match rowOf k with
    | none => []
    | some r =>
      let d := if r.kind = .dom then s.readDomain k else leBytes ((r.bits + 7) / 8) (s.readObj k)
      if sub = 0 then d ++ List.replicate (2 - d.length) 0#8 else d

/-- The indices that the SDO information service lists (R39, R559). -/
def odIndices : List Nat := (List.range 0x6000).filter fun i => indexListed i

/-- What the SDO information service says of an object: its bits, its access and what a PDO may map it to (R559, R566). -/
def odEntry (index sub : Nat) : Option (Nat × Acc × Pdo) :=
  (rowOf (objKey index sub)).map fun r => (r.bits, r.acc, r.pdo)

/-- STORE_PARAMETERS (R573). -/
def execStoreParameters (value : Nat) (s : State) : Host.Outcome State Fault Refusal :=
  .next (State.settle (s.access .sdo 0x101001 (storeOp value)))

/-- RESTORE_DEFAULT_PARAMETERS (R573). -/
def execRestoreDefaultParameters (value : Nat) (s : State) : Host.Outcome State Fault Refusal :=
  .next (State.settle (s.access .sdo 0x101101 (restoreOp value)))

/-- One stored value is written back; a refused one is counted (R575). -/
def State.restoreOne (s : State) (x : Nat × Bytes) : State :=
  match s.writeSdo x.1 x.2 with
  | (none, t) => t
  | (some _, _) => s.setObj 0x20000B (min 65535 (s.obj 0x20000B + 1))

/-- The restored shadow values of a port come into force as well (R575). -/
def State.forceRestored (s : State) (n : Fin 16) : State :=
  let s := (List.range 8).foldl (fun s k => s.setObj (pk 0x320011 n + k) (s.obj (pk 0x320009 n + k))) s
  if (s.record n).isEmpty then
    ((s.setObj (pk 0x310006 n) (s.obj (pk 0x300003 n))).setObj (pk 0x310007 n) (s.obj (pk 0x300004 n))).setObj
      (pk 0x310008 n) (s.obj (pk 0x300005 n))
  else s.forceLimits n

/-- The restore of a settings set or of a direct transfer starts no CCI transaction, which only the host asks for (R338). -/
def State.quietCci (s : State) (c : Fin 2) : State :=
  (s.modCamera c fun q => { q with setPending := none, direct := none, directOn := false }).camSync c

/-- Every stored value is written back, records first, with the AL state taken as PREOP and the engine as DISABLED (R575). -/
def State.restoreAll (s : State) (c : List (Nat × Bytes)) : State :=
  let record := fun (x : Nat × Bytes) => decide (baseKey x.1 = 0x300020)
  let engine := s.engineState
  let s : State := s.modSlave fun sl => { sl with al := .preop }
  let s := (c.filter record ++ c.filter fun x => !record x).foldl State.restoreOne (s.setObj 0x5F1006 0)
  let s := ((List.finRange 16).foldl State.forceRestored s).setObj 0x5F1006 engine
  let s : State := (s.quietCci 0).quietCci 1
  let s : State := s.modSlave fun sl => { sl with al := .init }
  if s.obj 0x20000B = 0 then s.setObj 0x20000A 1 else (s.setObj 0x20000A 2).event 0x200023 4

/-- CONFIG_RESTORE, once the start-up self-test has ended; `eccBad` is what the read of the image meets (R575, R651). -/
def execConfigRestore (eccBad : MramRead) (s : State) : Host.Outcome State Fault Refusal :=
  .next (State.settle (
    if s.slave.ready || s.obj 0x5E0002 < 2 || s.slave.al ≠ .init then s
    else
      let s := s.setObj 0x20000B 0
      let s := if s.obj 0x5E0002 = 4 then s.setObj 0x20000A 4
        else match s.mram.cfg with
          | none => s.setObj 0x20000A 0
          | some c =>
            let s := s.mramRead 3 eccBad
            if readFails eccBad then s.setObj 0x20000A 3
            else (s.setObj 0x20000C (min 262144 (Config.configSize c))).restoreAll c
      s.modSlave fun sl => { sl with ready := true }))

end Sys2Proof.Machine
end

