-- ==== Sys2Proof/Machine/Slave.lean ====
section
/-! DEFINITION. The EtherCAT slave: AL states, process data, distributed clocks, mailbox errors, emergencies, SII and file access (R559 to R570, R592, R598, R599, R654). -/

namespace Sys2Proof.Machine

/-- The engine follows the AL state out of OP (R562). -/
def State.leaveOp (s : State) : State :=
  let s : State := s.modSlave fun sl => { sl with rxWait := none, cmdRef := none }
  let s := if s.engineState = 1 then s.enterDisabled
    else if s.inJobState then s.enterFault 102 else s
  s.event 0x200023 0

/-- The AL state changes; the first apply point in OP has no sequence before it (R562, R585). -/
def State.setAl (s : State) (target : AlState) : State :=
  let s := if s.slave.al = .op && target ≠ .op then s.leaveOp else s
  s.modSlave fun sl => { sl with al := target, alStatus := 0, rxWait := none, cmdRef := none, seg := none }

/-- A mailbox length is allowed (R561). -/
def mailboxOk (n : Nat) : Bool := 32 ≤ n && n ≤ 512

/-- The SYNC0 configuration breaks R572 under sync type 2; a cycle of 0 is not configured. -/
def State.sync0Bad (s : State) (cycle : Nat) : Bool :=
  s.obj 0x1C3201 = 2 && !(cycle % 2 = 0 && 125000 ≤ cycle && cycle ≤ 100000000 && cycle = s.obj 0x1C3202)

/-- The AL status that refuses a requested transition from one AL state to another, if any (R561). -/
def State.alRefusal (s : State) (target : AlState) (sm0 sm1 sm2 sm3 sync0 firstOut : Nat) (bootMbx : Bool) : Option Nat :=
  match s.slave.al, target with
  | _, .init => none
  | .init, .preop => if mailboxOk sm0 && mailboxOk sm1 then none else some 0x0016
  | .init, .boot => if bootMbx then none else some 0x0016
  | .preop, .safeop =>
    if sm2 ≠ s.assignedBytes 0x1C12 then some 0x001D
    else if sm3 ≠ s.assignedBytes 0x1C13 then some 0x001E
    else if s.sync0Bad sync0 then some 0x0030 else none
  | .safeop, .op => if firstOut ≠ s.assignedBytes 0x1C12 then some 0x001D else none
  | .op, .safeop => none
  | .op, .preop => none
  | .safeop, .preop => none
  | _, _ => some 0x0011

/-- The AL state may leave INIT for `target`: start-up has completed, or the boot ROM runs alone and serves BOOT (R561, R575, R628). -/
def State.mayLeaveInit (s : State) (target : AlState) : Bool :=
  s.slave.ready || (s.obj 0x200007 = 0xFF && target = .boot)

/-- AL_STATE_REQUEST: the lengths of SM0 to SM3, the SYNC0 cycle in ns, the SM2 length of the first output frame, and whether the mailbox is configured for boot (R561). -/
def execAlStateRequest (target : AlState) (sm0 sm1 sm2 sm3 sync0 firstOut : Nat) (bootMbx : Bool) (t : Nat) (s : State) :
    Host.Outcome State Fault Refusal :=
  .next (State.settle (
    let s := s.tick t
    if target = s.slave.al || (s.slave.al = .init && !s.mayLeaveInit target) then s
    else match s.alRefusal target sm0 sm1 sm2 sm3 sync0 firstOut bootMbx with
      | some code => (s.modSlave fun sl => { sl with alStatus := code } : State).answer (.alRefused code)
      | none => (s.setAl target).answer .done))

/-- WATCHDOG (R563). -/
def execWatchdog (t : Nat) (s : State) : Host.Outcome State Fault Refusal :=
  .next (State.settle (
    if s.slave.al = .op then
      let s := (s.tick t).setAl .safeop
      (s.modSlave fun sl => { sl with alStatus := 0x001B } : State).event 0x200023 1
    else s.tick t))

/-- The entries of a PDO: object and length in bits, object 0 for a gap (R566). -/
def State.pdoEntries (s : State) (pdo : Nat) : List (Key × Nat) :=
  (List.range (s.obj (pdo * 0x100))).map fun i =>
    let e := s.obj (pdo * 0x100 + i + 1)
    (e / 0x100, e % 0x100)

/-- The PDOs of an assignment object. -/
def State.assigned (s : State) (assign : Nat) : List Nat :=
  (List.range (s.obj (assign * 0x100))).map fun i => s.obj (assign * 0x100 + i + 1)

/-- An object as a TxPDO carries it; a gated block reads 0 (R622). -/
def State.pdoValue (s : State) (k : Key) : Nat := if k < 0x100 || s.gated k then 0 else s.readObj k

/-- The bits of a TxPDO's entries, first entry lowest. -/
def State.packEntries (s : State) : List (Key × Nat) → Nat
  | [] => 0
  | (k, n) :: t => s.pdoValue k % 2 ^ n + s.packEntries t <<< n

/-- One sample of every assigned TxPDO (R568). -/
def State.sampleInputs (s : State) : State :=
  let images := (s.assigned 0x1C13).map fun p => leBytes ((s.pdoBits p + 7) / 8) (s.packEntries (s.pdoEntries p))
  s.modSlave fun sl => { sl with txSample := images }

/-- Values of the entries in an RxPDO's bits. -/
def unpackEntries : List (Key × Nat) → Nat → List (Key × Nat)
  | [], _ => []
  | (k, n) :: t, v => (k, v % 2 ^ n) :: unpackEntries t (v >>> n)

/-- Values of all assigned RxPDOs, each starting on a byte. -/
def State.unpackPdos (s : State) : List Nat → Bytes → List (Key × Nat)
  | [], _ => []
  | p :: t, d =>
    let n := (s.pdoBits p + 7) / 8
    unpackEntries (s.pdoEntries p) (leNat (d.take n)) ++ s.unpackPdos t (d.drop n)

/-- A value of an RxPDO is applied; the command object waits for its sequence. -/
def State.applyOne (s : State) (x : Key × Nat) : State :=
  if x.1 < 0x100 || x.1 = 0x5F1001 then s else s.access .pdo x.1 fun s => s.writeNum .pdo x.1 x.2

/-- The mapped command is handled where the sequence differs from that of the apply point before (R585). -/
def State.mappedCommand (s : State) (code : Nat) : State :=
  match s.slave.cmdRef with
  | none => s.modSlave fun sl => { sl with cmdRef := some (s.obj 0x5F1003) }
  | some q => if q = s.obj 0x5F1003 then s else (s.command .pdo code (engineCmd code [] 0)).autoEngine

/-- RxPDO data are applied, then the command mapped in them (R568, R585). -/
def State.applyOutputs (s : State) (d : Bytes) : State :=
  let vals := s.unpackPdos (s.assigned 0x1C12) d
  let s := vals.foldl State.applyOne s
  match vals.find? fun x => x.1 = 0x5F1001 with
  | some x => s.mappedCommand x.2
  | none => s

/-- Process data are exchanged in the AL states SAFEOP and OP. -/
def State.exchanges (s : State) : Bool := s.slave.al = .safeop || s.slave.al = .op

/-- PROCESS_DATA_OUTPUT: outputs have effect in OP, and under sync type 2 wait for SYNC0 (R568). -/
def execProcessDataOutput (data : Bytes) (t : Nat) (s : State) : Host.Outcome State Fault Refusal :=
  .next (State.settle (
    let s := s.tick t
    if !s.exchanges || data.length ≠ s.assignedBytes 0x1C12 then s
    else
      let s := if s.obj 0x1C3201 = 1 then s.sampleInputs else s
      if s.slave.al ≠ .op then s
      else if s.obj 0x1C3201 = 2 then s.modSlave fun sl => { sl with rxWait := some data }
      else s.applyOutputs data))

/-- INPUT_SAMPLE, under sync type 0 (R568). -/
def execInputSample (t : Nat) (s : State) : Host.Outcome State Fault Refusal :=
  .next (State.settle (
    let s := s.tick t
    if s.exchanges && s.obj 0x1C3201 = 0 then s.sampleInputs else s))

/-- Under sync type 2 every TxPDO is sampled, and what arrived since the previous SYNC0 is applied (R568). -/
def State.sync0Data (s : State) : State :=
  if s.exchanges && s.obj 0x1C3201 = 2 then
    let s := s.sampleInputs
    match s.slave.rxWait with
    | some d => (s.modSlave fun sl => { sl with rxWait := none } : State).applyOutputs d
    | none => s
  else s

/-- SYNC0_EVENT: the latch, then the process data of the same clock (R71, R568). -/
def execSync0Event (t : Nat) (s : State) : Host.Outcome State Fault Refusal :=
  .next (State.settle ((s.tick t).sync0Latch t).sync0Data)

/-- DC_ACTIVATION (R569). -/
def execDcActivation (s : State) : Host.Outcome State Fault Refusal :=
  let s : State := s.modClocks fun ck_ => { ck_ with dcOn := true }
  .next (State.settle (if s.obj 0x200021 = 0 then s.setObj 0x200021 1 else s))

/-- The control loop corrects the timing domain's copy of system time while distributed clocks are synchronised; the spec does not state the correction, and unsynchronised the copy runs free (R29, R88, DESIGN CHOICE log entry 113). -/
def State.dcCorrect (s : State) : State :=
  if s.obj 0x200021 = 2 && s.timing then
    { s with sysTime := toBits 64 (s.sysTime + Config.dcCorrection s.draws), draws := s.draws + 1 }
  else s

/-- A system-time difference is within the DC sync window (R569). -/
def State.inDcWindow (s : State) (diff : Int) : Bool := diff.natAbs ≤ s.obj 0x200020

/-- Differences with their timing clocks, latest last, have stayed within the window for 100 ms up to clock `t` (R569). -/
def State.stayedInWindow (s : State) (diffs : List (Nat × Int)) (t : Nat) : Bool :=
  (diffs.all fun d => s.inDcWindow d.2) && match diffs.head? with
    | some d => decide (d.1 + 50000000 ≤ t)
    | none => false

/-- DC_SYNCHRONISED: the system-time differences up to clock `t`, with their timing clocks (R569). -/
def execDcSynchronised (diffs : List (Nat × Int)) (t : Nat) (s : State) : Host.Outcome State Fault Refusal :=
  .next (State.settle (
    let s := (s.tick t).dcCorrect
    if s.stayedInWindow diffs t && s.clocks.dcOn && decide (s.clocks.ctl ≠ .clockHold) then
      (s.setObj 0x200022 (toBits 32 ((diffs.getLast?.map (·.2)).getD 0))).setObj 0x200021 2
    else s))

/-- DC_UNSYNC: a difference above the window (R569). -/
def execDcUnsync (diff : Int) (t : Nat) (s : State) : Host.Outcome State Fault Refusal :=
  .next (State.settle (
    let s := (s.tick t).dcCorrect
    if !s.inDcWindow diff && s.clocks.dcOn then
      let lost := s.obj 0x200021 = 2
      let s := s.setObj 0x200022 (toBits 32 diff)
      if lost then (s.setObj 0x200021 1).event 0x200023 2 else s
    else s))

/-- EMERGENCY_SEND: the oldest emergency goes into the free SM1 buffer (R592). -/
def execEmergencySend (s : State) : Host.Outcome State Fault Refusal :=
  .next (State.settle (
    match s.slave.al, s.slave.emcy with
    | .init, _ => s
    | .boot, _ => s
    | _, [] => s
    | _, m :: rest =>
      (s.modSlave fun sl => { sl with emcy := rest, emcyOut := s.slave.emcyOut ++ [m] } : State).bump 0x5F2031))

/-- MAILBOX_UNSUPPORTED: CoE is unsupported in BOOT alone, and INIT has no mailbox (R560). -/
def execMailboxUnsupported (protocol : Protocol) (s : State) : Host.Outcome State Fault Refusal :=
  .next (State.settle (
    if s.slave.al = .init || (protocol = .coe && s.slave.al ≠ .boot) then s else s.answer .mailboxError))

/-- SII_WRITE of one of the 2,048 words (R559). -/
def execSiiWrite (offset word : Nat) (s : State) : Host.Outcome State Fault Refusal :=
  .next (State.settle (
    if (s.slave.al = .init || s.slave.al = .preop) && decide (offset < 2048) then
      s.modMram fun mr => { mr with sii := putKey s.mram.sii offset (word % 2 ^ 16) }
    else s))

/-- An FoE request outside INIT, in BOOT or out of it (R598). -/
def State.foe (s : State) (boot : Bool) (code : Nat) (f : State → State) : State :=
  if s.slave.al = .init then s
  else if (s.slave.al = .boot) = boot then f s else s.answer (.foeError code)

/-- The firmware slot that is not in use takes an image and becomes the next slot (R599). -/
def State.putImage (s : State) (image : Bytes) : State :=
  let b := s.obj 0x200007 = 0
  let m := s.mram
  ({ s with mram := if b then { m with slotB := some image, slotNext := 1 } else { m with slotA := some image, slotNext := 0 } } :
    State).setObj 0x200008 (b2n b)

/-- FOE_FW_WRITE (R598, R599). -/
def execFoeFwWrite (image : Bytes) (s : State) : Host.Outcome State Fault Refusal :=
  .next (State.settle (s.foe true 0x8008 fun s =>
    if 0x100000 < image.length then s.answer (.foeError 0x8003)
    else if !Config.imageOk image then s.answer (.foeError 0x8004)
    else (s.putImage image).answer .done))

/-- FOE_HDR_WRITE (R139, R598). -/
def execFoeHdrWrite (n : Fin 16) (record : Bytes) (s : State) : Host.Outcome State Fault Refusal :=
  .next (State.settle (s.foe false 0x8009 fun s =>
    if s.portState n.val ≠ 0 then s.answer (.foeError 0x8002)
    else if s.gated (pk 0x300020 n) then s.answer (.foeError 0x8004)
    else match hdrWriteOp n record s with
      | (some _, t) => t.answer (.foeError 0x8004)
      | (none, t) => (s.lanesSync t).answer .done))

/-- FOE_HDR_READ (R598). -/
def execFoeHdrRead (n : Fin 16) (s : State) : Host.Outcome State Fault Refusal :=
  .next (State.settle (s.foe false 0x8009 fun s => s.answer (.data (s.domain (pk 0x300020 n)))))

/-- The log file: its header, then the entries, oldest first (R654). -/
def State.logFile (s : State) : Bytes :=
  let l := s.mram.log
  let oldest := match l with | e :: _ => leAt e 0 4 | [] => 0
  leBytes 4 0x474F4C42 ++ leBytes 4 l.length ++ leBytes 4 oldest ++ leBytes 4 0 ++ l.flatten

/-- FOE_LOG_READ (R598, R654). -/
def execFoeLogRead (s : State) : Host.Outcome State Fault Refusal :=
  .next (State.settle (s.foe false 0x8009 fun s => s.answer (.data s.logFile)))

end Sys2Proof.Machine
end

