-- ==== Sys2Proof/Machine/Dispatch.lean ====
section
/-! DEFINITION. The dispatch of every command to its meaning, one arm per constructor of Instr. -/

namespace Sys2Proof.Machine

/-- The command's effect on everything but the queue. -/
def exec (i : Instr) (s : State) : Host.Outcome State Fault Refusal :=
  match i with
  | .registerWrite addr value hw => Sys2Proof.Machine.execRegisterWrite addr value hw s
  | .rcRegisterRead addr inc => Sys2Proof.Machine.execRcRegisterRead addr inc s
  | .pairLoRead addr => Sys2Proof.Machine.execPairLoRead addr s
  | .pairHiWrite addr value => Sys2Proof.Machine.execPairHiWrite addr value s
  | .memoryAccess master write addr width value collide ecc => Sys2Proof.Machine.execMemoryAccess master write addr width value collide ecc s
  | .sdoWrite index sub data complete => Sys2Proof.Machine.execSdoWrite index sub data complete s
  | .sdoSegment index sub data part => Sys2Proof.Machine.execSdoSegment index sub data part s
  | .mailboxUnsupported protocol => Sys2Proof.Machine.execMailboxUnsupported protocol s
  | .siiWrite offset word => Sys2Proof.Machine.execSiiWrite offset word s
  | .encoderEnable via a b pairA pairB pairZ t => Sys2Proof.Machine.execEncoderEnable via a b pairA pairB pairZ t s
  | .encoderDisable via t => Sys2Proof.Machine.execEncoderDisable via t s
  | .wireFault pairB samples t => Sys2Proof.Machine.execWireFault pairB samples t s
  | .wireZ samples t => Sys2Proof.Machine.execWireZ samples t s
  | .countingEdge onA held t => Sys2Proof.Machine.execCountingEdge onA held t s
  | .illegalTransition held t => Sys2Proof.Machine.execIllegalTransition held t s
  | .zEvent held t => Sys2Proof.Machine.execZEvent held t s
  | .stall t => Sys2Proof.Machine.execStall t s
  | .originLatch edge t => Sys2Proof.Machine.execOriginLatch edge t s
  | .latchInEdge falling held t => Sys2Proof.Machine.execLatchInEdge falling held t s
  | .sync0Event t => Sys2Proof.Machine.execSync0Event t s
  | .barModeWrite via mode => Sys2Proof.Machine.execBarModeWrite via mode s
  | .barFrameStart slLow t => Sys2Proof.Machine.execBarFrameStart slLow t s
  | .barSample word nE nW check t => Sys2Proof.Machine.execBarSample word nE nW check t s
  | .barFrameTimeout crcEnd t => Sys2Proof.Machine.execBarFrameTimeout crcEnd t s
  | .lineEvent n k t => Sys2Proof.Machine.execLineEvent n k t s
  | .eventWithdrawal n k t => Sys2Proof.Machine.execEventWithdrawal n k t s
  | .loadStart n reads => Sys2Proof.Machine.execLoadStart n reads s
  | .loadEnd n t => Sys2Proof.Machine.execLoadEnd n t s
  | .latchTransfer n t => Sys2Proof.Machine.execLatchTransfer n t s
  | .strobe n t => Sys2Proof.Machine.execStrobe n t s
  | .cycleEnd n t => Sys2Proof.Machine.execCycleEnd n t s
  | .slowReqRelease t => Sys2Proof.Machine.execSlowReqRelease t s
  | .slowReqPinChange low t => Sys2Proof.Machine.execSlowReqPinChange low t s
  | .armCommit via ckptErr t => Sys2Proof.Machine.execArmCommit via ckptErr t s
  | .portTransfer n => Sys2Proof.Machine.execPortTransfer n s
  | .cannotMaskStop n t => Sys2Proof.Machine.execCannotMaskStop n t s
  | .lockstepMismatch pair t => Sys2Proof.Machine.execLockstepMismatch pair t s
  | .hdrWrite via n record => Sys2Proof.Machine.execHdrWrite via n record s
  | .portEnable via n t => Sys2Proof.Machine.execPortEnable via n t s
  | .idReadDone n absent first second t => Sys2Proof.Machine.execIdReadDone n absent first second t s
  | .portDisable via n t => Sys2Proof.Machine.execPortDisable via n t s
  | .headerOnlyFrame n t => Sys2Proof.Machine.execHeaderOnlyFrame n t s
  | .echoVerdict n bits t => Sys2Proof.Machine.execEchoVerdict n bits t s
  | .flushFrame n t => Sys2Proof.Machine.execFlushFrame n t s
  | .windupStart via n reads => Sys2Proof.Machine.execWindupStart via n reads s
  | .windupShot n t => Sys2Proof.Machine.execWindupShot n t s
  | .windupStop via n t => Sys2Proof.Machine.execWindupStop via n t s
  | .slotDescWrite n k dep cap ready t => Sys2Proof.Machine.execSlotDescWrite n k dep cap ready t s
  | .tsConversionDone n code t => Sys2Proof.Machine.execTsConversionDone n code t s
  | .thermalIdleTick n t => Sys2Proof.Machine.execThermalIdleTick n t s
  | .modelInitTimeout n t => Sys2Proof.Machine.execModelInitTimeout n t s
  | .ttlUpdate t => Sys2Proof.Machine.execTtlUpdate t s
  | .limitClear via n => Sys2Proof.Machine.execLimitClear via n s
  | .ntcConversion h code t => Sys2Proof.Machine.execNtcConversion h code t s
  | .pidUpdate h t => Sys2Proof.Machine.execPidUpdate h t s
  | .heaterCut h t => Sys2Proof.Machine.execHeaterCut h t s
  | .cutClear via h => Sys2Proof.Machine.execCutClear via h s
  | .heaterModeWrite via h mode => Sys2Proof.Machine.execHeaterModeWrite via h mode s
  | .linkEnable via l value t => Sys2Proof.Machine.execLinkEnable via l value t s
  | .linkSignalEvent l event t => Sys2Proof.Machine.execLinkSignalEvent l event t s
  | .linkUp l t => Sys2Proof.Machine.execLinkUp l t s
  | .frameReceived l frame fcsOk wrErr t => Sys2Proof.Machine.execFrameReceived l frame fcsOk wrErr t s
  | .arpRequest l dst target mac ip t => Sys2Proof.Machine.execArpRequest l dst target mac ip t s
  | .statusRequest l mac ip port t => Sys2Proof.Machine.execStatusRequest l mac ip port t s
  | .tilePacket l mac ip port payload wrErr t => Sys2Proof.Machine.execTilePacket l mac ip port payload wrErr t s
  | .tileComplete rep seq t => Sys2Proof.Machine.execTileComplete rep seq t s
  | .fragmentTimeout rep seq t => Sys2Proof.Machine.execFragmentTimeout rep seq t s
  | .nakTimeout t => Sys2Proof.Machine.execNakTimeout t s
  | .nakIntervalExpiry rep seq t => Sys2Proof.Machine.execNakIntervalExpiry rep seq t s
  | .nakSend l t => Sys2Proof.Machine.execNakSend l t s
  | .statusInterval t => Sys2Proof.Machine.execStatusInterval t s
  | .jobIdWrite via value t => Sys2Proof.Machine.execJobIdWrite via value t s
  | .storeConfigWrite via obj value => Sys2Proof.Machine.execStoreConfigWrite via obj value s
  | .repeatConfigWrite via obj value => Sys2Proof.Machine.execRepeatConfigWrite via obj value s
  | .rowRelease => Sys2Proof.Machine.execRowRelease s
  | .renderLineStart n fetchErr t => Sys2Proof.Machine.execRenderLineStart n fetchErr t s
  | .renderLineDone n ends => Sys2Proof.Machine.execRenderLineDone n ends s
  | .laneTestWindow pass t => Sys2Proof.Machine.execLaneTestWindow pass t s
  | .laneEntersTest t => Sys2Proof.Machine.execLaneEntersTest t s
  | .laneRetestDone lane pass t => Sys2Proof.Machine.execLaneRetestDone lane pass t s
  | .jigsawLineTake n readErr histErr fault t => Sys2Proof.Machine.execJigsawLineTake n readErr histErr fault t s
  | .slotCopy n k readErr t => Sys2Proof.Machine.execSlotCopy n k readErr t s
  | .mapWrite n map => Sys2Proof.Machine.execMapWrite n map s
  | .nozzleStateEdit via n value => Sys2Proof.Machine.execNozzleStateEdit via n value s
  | .firingCounterReset via n value => Sys2Proof.Machine.execFiringCounterReset via n value s
  | .captureEnable via c value t => Sys2Proof.Machine.execCaptureEnable via c value t s
  | .frameStart c vc fn ecc t => Sys2Proof.Machine.execFrameStart c vc fn ecc t s
  | .cameraPacket c vc dt payload ecc crcOk wrErr t => Sys2Proof.Machine.execCameraPacket c vc dt payload ecc crcOk wrErr t s
  | .frameEnd c vc ecc t => Sys2Proof.Machine.execFrameEnd c vc ecc t s
  | .frameWatchdog c t => Sys2Proof.Machine.execFrameWatchdog c t s
  | .webTrigger c t => Sys2Proof.Machine.execWebTrigger c t s
  | .triggerCommand via c value t => Sys2Proof.Machine.execTriggerCommand via c value t s
  | .triggerPulseEnd c t => Sys2Proof.Machine.execTriggerPulseEnd c t s
  | .settingsSetWrite c data => Sys2Proof.Machine.execSettingsSetWrite c data s
  | .cciTransferDone c outcome t => Sys2Proof.Machine.execCciTransferDone c outcome t s
  | .directTransfer via c value => Sys2Proof.Machine.execDirectTransfer via c value s
  | .holdMaskWrite via c value => Sys2Proof.Machine.execHoldMaskWrite via c value s
  | .reprocess via c slot => Sys2Proof.Machine.execReprocess via c slot s
  | .cameraStall c t => Sys2Proof.Machine.execCameraStall c t s
  | .frameTake readErr t => Sys2Proof.Machine.execFrameTake readErr t s
  | .recordComplete t => Sys2Proof.Machine.execRecordComplete t s
  | .processParamWrite via key data => Sys2Proof.Machine.execProcessParamWrite via key data s
  | .parameterFreeze via value => Sys2Proof.Machine.execParameterFreeze via value s
  | .kaleidoEnable via value => Sys2Proof.Machine.execKaleidoEnable via value s
  | .statsRead => Sys2Proof.Machine.execStatsRead s
  | .statsReadAdvance => Sys2Proof.Machine.execStatsReadAdvance s
  | .analyseRecord t => Sys2Proof.Machine.execAnalyseRecord t s
  | .bandPlacement t => Sys2Proof.Machine.execBandPlacement t s
  | .batchApply ckptErr t => Sys2Proof.Machine.execBatchApply ckptErr t s
  | .muteTimeout t => Sys2Proof.Machine.execMuteTimeout t s
  | .recalibration n t => Sys2Proof.Machine.execRecalibration n t s
  | .geometry via => Sys2Proof.Machine.execGeometry via s
  | .clearMutes via => Sys2Proof.Machine.execClearMutes via s
  | .restoreBudgets via => Sys2Proof.Machine.execRestoreBudgets via s
  | .apply via seq => Sys2Proof.Machine.execApply via seq s
  | .resultRead => Sys2Proof.Machine.execResultRead s
  | .resultReadAdvance => Sys2Proof.Machine.execResultReadAdvance s
  | .axisEnable via a value t => Sys2Proof.Machine.execAxisEnable via a value t s
  | .moveAbsolute via a t => Sys2Proof.Machine.execMoveAbsolute via a t s
  | .moveRelative via a t => Sys2Proof.Machine.execMoveRelative via a t s
  | .velocity via a t => Sys2Proof.Machine.execVelocity via a t s
  | .axisStop via a t => Sys2Proof.Machine.execAxisStop via a t s
  | .quickStop via a t => Sys2Proof.Machine.execQuickStop via a t s
  | .home via a t => Sys2Proof.Machine.execHome via a t s
  | .engageGear via a t => Sys2Proof.Machine.execEngageGear via a t s
  | .disengageGear via a t => Sys2Proof.Machine.execDisengageGear via a t s
  | .setPosition via a t => Sys2Proof.Machine.execSetPosition via a t s
  | .axisClearFault via a t => Sys2Proof.Machine.execAxisClearFault via a t s
  | .moveDone a t => Sys2Proof.Machine.execMoveDone a t s
  | .limitReached a t => Sys2Proof.Machine.execLimitReached a t s
  | .diagStall a level held t => Sys2Proof.Machine.execDiagStall a level held t s
  | .homeFail a t => Sys2Proof.Machine.execHomeFail a t s
  | .homeDone a t => Sys2Proof.Machine.execHomeDone a t s
  | .segment a t => Sys2Proof.Machine.execSegment a t s
  | .segmentQueueWrite a data => Sys2Proof.Machine.execSegmentQueueWrite a data s
  | .gearedAxisFault a t => Sys2Proof.Machine.execGearedAxisFault a t s
  | .walkEnable via a value t => Sys2Proof.Machine.execWalkEnable via a value t s
  | .stackRequest cls port addr write data mask k => Sys2Proof.Machine.execStackRequest cls port addr write data mask k s
  | .stackCommandIssue c k => Sys2Proof.Machine.execStackCommandIssue c k s
  | .targetMiss c k => Sys2Proof.Machine.execTargetMiss c k s
  | .pageIdleExpiry c bank k => Sys2Proof.Machine.execPageIdleExpiry c bank k s
  | .refreshDue c bank k => Sys2Proof.Machine.execRefreshDue c bank k s
  | .refreshWindowStart k => Sys2Proof.Machine.execRefreshWindowStart k s
  | .stackTempReading temps t => Sys2Proof.Machine.execStackTempReading temps t s
  | .thermalThrottleWindow k => Sys2Proof.Machine.execThermalThrottleWindow k s
  | .overtempRecovery t => Sys2Proof.Machine.execOvertempRecovery t s
  | .selfRefreshEnter via t => Sys2Proof.Machine.execSelfRefreshEnter via t s
  | .selfRefreshExit via t => Sys2Proof.Machine.execSelfRefreshExit via t s
  | .selfRefreshEntryDone t => Sys2Proof.Machine.execSelfRefreshEntryDone t s
  | .selfRefreshExitDone eyes k => Sys2Proof.Machine.execSelfRefreshExitDone eyes k s
  | .addressMapWrite via value => Sys2Proof.Machine.execAddressMapWrite via value s
  | .trainingDone c eyes k => Sys2Proof.Machine.execTrainingDone c eyes k s
  | .alert c kind words addr span => Sys2Proof.Machine.execAlert c kind words addr span s
  | .replayRoundDone c ends k => Sys2Proof.Machine.execReplayRoundDone c ends k s
  | .quickTrainingDone c eyes k => Sys2Proof.Machine.execQuickTrainingDone c eyes k s
  | .retestRead c ok poison k => Sys2Proof.Machine.execRetestRead c ok poison k s
  | .eyeSweep c eyes k => Sys2Proof.Machine.execEyeSweep c eyes k s
  | .patrolRead ok k => Sys2Proof.Machine.execPatrolRead ok k s
  | .rebuildDone ends => Sys2Proof.Machine.execRebuildDone ends s
  | .mbistRun via t => Sys2Proof.Machine.execMbistRun via t s
  | .mbistAbort via t => Sys2Proof.Machine.execMbistAbort via t s
  | .mbistDone rows eyes t => Sys2Proof.Machine.execMbistDone rows eyes t s
  | .stkWir => Sys2Proof.Machine.execStkWir s
  | .stkWdr => Sys2Proof.Machine.execStkWdr s
  | .clearLists via => Sys2Proof.Machine.execClearLists via s
  | .stackLossClear via value => Sys2Proof.Machine.execStackLossClear via value s
  | .scrubStep found => Sys2Proof.Machine.execScrubStep found s
  | .sramClearDone => Sys2Proof.Machine.execSramClearDone s
  | .dmaStart via ch t => Sys2Proof.Machine.execDmaStart via ch t s
  | .dmaAbort via ch moved t => Sys2Proof.Machine.execDmaAbort via ch moved t s
  | .descriptorFetch ch reads => Sys2Proof.Machine.execDescriptorFetch ch reads s
  | .descriptorComplete ch corrected collided t => Sys2Proof.Machine.execDescriptorComplete ch corrected collided t s
  | .dmaBusError ch write addr cause moved t => Sys2Proof.Machine.execDmaBusError ch write addr cause moved t s
  | .busErrorClear via => Sys2Proof.Machine.execBusErrorClear via s
  | .alStateRequest target sm0 sm1 sm2 sm3 sync0 firstOut bootMbx t => Sys2Proof.Machine.execAlStateRequest target sm0 sm1 sm2 sm3 sync0 firstOut bootMbx t s
  | .watchdog t => Sys2Proof.Machine.execWatchdog t s
  | .processDataOutput data t => Sys2Proof.Machine.execProcessDataOutput data t s
  | .inputSample t => Sys2Proof.Machine.execInputSample t s
  | .dcSynchronised diffs t => Sys2Proof.Machine.execDcSynchronised diffs t s
  | .dcUnsync diff t => Sys2Proof.Machine.execDcUnsync diff t s
  | .storeParameters value => Sys2Proof.Machine.execStoreParameters value s
  | .restoreDefaultParameters value => Sys2Proof.Machine.execRestoreDefaultParameters value s
  | .configRestore eccBad => Sys2Proof.Machine.execConfigRestore eccBad s
  | .enable via t => Sys2Proof.Machine.execEnable via t s
  | .disable via t => Sys2Proof.Machine.execDisable via t s
  | .arm via pairFails t => Sys2Proof.Machine.execArm via pairFails t s
  | .start via t => Sys2Proof.Machine.execStart via t s
  | .drain via t => Sys2Proof.Machine.execDrain via t s
  | .hold via t => Sys2Proof.Machine.execHold via t s
  | .resume via t => Sys2Proof.Machine.execResume via t s
  | .stop via t => Sys2Proof.Machine.execStop via t s
  | .clearFault via t => Sys2Proof.Machine.execClearFault via t s
  | .commit via ckptErr t => Sys2Proof.Machine.execCommit via ckptErr t s
  | .emergencySend => Sys2Proof.Machine.execEmergencySend s
  | .windowAccess write value collide ecc => Sys2Proof.Machine.execWindowAccess write value collide ecc s
  | .windowBlockAccess write block => Sys2Proof.Machine.execWindowBlockAccess write block s
  | .foeFwWrite image => Sys2Proof.Machine.execFoeFwWrite image s
  | .foeHdrWrite n record => Sys2Proof.Machine.execFoeHdrWrite n record s
  | .foeHdrRead n => Sys2Proof.Machine.execFoeHdrRead n s
  | .foeLogRead => Sys2Proof.Machine.execFoeLogRead s
  | .powerOn straps safeHigh vrHigh => Sys2Proof.Machine.execPowerOn straps safeHigh vrHigh s
  | .resetPin straps safeHigh vrHigh => Sys2Proof.Machine.execResetPin straps safeHigh vrHigh s
  | .softwareReset via value straps => Sys2Proof.Machine.execSoftwareReset via value straps s
  | .brownOut => Sys2Proof.Machine.execBrownOut s
  | .rcReady => Sys2Proof.Machine.execRcReady s
  | .refReady activeUs => Sys2Proof.Machine.execRefReady activeUs s
  | .pllLocked romOk => Sys2Proof.Machine.execPllLocked romOk s
  | .pllFail => Sys2Proof.Machine.execPllFail s
  | .refLoss cause t => Sys2Proof.Machine.execRefLoss cause t s
  | .holdExit t => Sys2Proof.Machine.execHoldExit t s
  | .rcFault cycles t => Sys2Proof.Machine.execRcFault cycles t s
  | .coreSourceSwitch via source => Sys2Proof.Machine.execCoreSourceSwitch via source s
  | .pstateRequest via point => Sys2Proof.Machine.execPstateRequest via point s
  | .pstateDone vrReady waitedUs => Sys2Proof.Machine.execPstateDone vrReady waitedUs s
  | .vrFault t => Sys2Proof.Machine.execVrFault t s
  | .clockGateWrite via gates busy => Sys2Proof.Machine.execClockGateWrite via gates busy s
  | .gateAbort gate => Sys2Proof.Machine.execGateAbort gate s
  | .safeLLow t => Sys2Proof.Machine.execSafeLLow t s
  | .junctionReading temp t => Sys2Proof.Machine.execJunctionReading temp t s
  | .rtcWrite via value => Sys2Proof.Machine.execRtcWrite via value s
  | .rtcStop => Sys2Proof.Machine.execRtcStop s
  | .operatingHoursTick => Sys2Proof.Machine.execOperatingHoursTick s
  | .startupSelftestDone lanes lanesRetest pairs pairsRetest checker crc mram t => Sys2Proof.Machine.execStartupSelftestDone lanes lanesRetest pairs pairsRetest checker crc mram t s
  | .counterCheckpoint => Sys2Proof.Machine.execCounterCheckpoint s
  | .checkpoint via => Sys2Proof.Machine.execCheckpoint via s
  | .checkpointDone => Sys2Proof.Machine.execCheckpointDone s
  | .clearRetirements via => Sys2Proof.Machine.execClearRetirements via s
  | .clearLog via => Sys2Proof.Machine.execClearLog via s
  | .safeLHigh => Sys2Proof.Machine.execSafeLHigh s
  | .vrReadyRestored => Sys2Proof.Machine.execVrReadyRestored s
  | .cutComparatorRelease h => Sys2Proof.Machine.execCutComparatorRelease h s
  | .railsBackInRange straps => Sys2Proof.Machine.execRailsBackInRange straps s
  | .refWindowOutOfRange count => Sys2Proof.Machine.execRefWindowOutOfRange count s
  | .motionAtRest a t => Sys2Proof.Machine.execMotionAtRest a t s
  | .dcActivation => Sys2Proof.Machine.execDcActivation s

end Sys2Proof.Machine
end

