-- ==== Sys2Proof/Machine/Step.lean ====
section
/-! DEFINITION. One step: the command at the front of the queue, or the passing of one timing clock where none waits. -/

namespace Sys2Proof.Machine

/-- Takes the command at the front of the queue and carries it out with the rest of the queue; on an empty queue one timing clock of 2 ns passes, as at the start of a command, with what ends every command (DESIGN CHOICE, log entry 1). -/
def step (s : State) : Host.Outcome State Fault Refusal :=
  match s.pending with
  | [] => .next (State.settle (s.tick (s.clk + 1)))
  | i :: rest => exec i { s with pending := rest }

/-- Puts the command that a word spells at the front of the queue; the table gives no row bits, so no word spells one. -/
def State.withFetchWord (s : State) (nbits w : Nat) : State :=
  match Sys2Proof.decodeTableWord nbits w with
  | some i => { s with pending := i :: s.pending }
  | none => s

end Sys2Proof.Machine
end

