-- ==== Sys2Proof/Machine/Pins.lean ====
section
/-! DEFINITION. The levels of the output pins that the state fixes: head ports, heaters, axes, cameras, the bar encoder and SYNC0 and SYNC1 (R76, R137, R146 to R149, R153, R154, R203, R338, R346, R354, R432 to R437, R570). -/

namespace Sys2Proof.Machine

/-- SAFE_L is low or the reference clock is lost: FE, HTh_PWM and the axis outputs are forced, whatever the state (R137, R203, R432). -/
def State.pinsForced (s : State) : Bool := s.clocks.safeLow || !s.timing

/-- FE of a port pulses: not forced, and within a pulse (R137, R144, R154, R155). -/
def State.fePulses (s : State) (n : Fin 16) : Bool := !s.pinsForced && decide (s.clk < (s.port.get n).pulseEnd)

/-- A frame of a port is on its lanes (R146). -/
def State.framing (s : State) (n : Fin 16) : Bool :=
  !s.pinsForced && decide ((s.port.get n).frameAt ≤ s.clk) && decide (s.clk < (s.port.get n).frameEnd)

/-- The bits that lane `l` carries in the latest frame of a port, in the order of the wire: header, data, and ECHO_DELAY bits driven 0 (R146, R148, R149, R152). -/
def State.laneBits (s : State) (n : Fin 16) (l : Nat) : List Bool :=
  let r := s.record n
  let p := s.port.get n
  let tail := List.replicate (rb r 0x13) false
  match p.kind with
  | .headerOnly => laneHeader p.header l ++ tail
  | .fourLane => laneHeader p.header l ++ laneData r p.chain l ++ tail
  | .serial =>
    if l = 0 then serialHeader p.header ++ (List.range (recCols r * recNoz r)).map p.chain.testBit ++ tail
    else List.replicate (64 + recCols r * recNoz r + rb r 0x13) false

/-- A data lane and CK of a port rest low: no frame is in progress (R137, R146). -/
def State.laneIdle (s : State) (n : Fin 16) : Bool := !s.framing n

/-- LD of a port is high: the first 40 ns of a latch transfer (R153). -/
def State.ldHigh (s : State) (n : Fin 16) : Bool :=
  !s.pinsForced && match (s.port.get n).ldAt with
    | some a => decide (a ≤ s.clk) && decide (s.clk < a + 20)
    | none => false

/-- HTh_PWM is held low: forced, by its cut comparator while that is tripped, or with a duty of 0 (R197 to R203). -/
def State.pwmLow (s : State) (h : Fin 4) : Bool := s.pinsForced || (s.heater.get h).tripped || s.obj (hk 0x49000E h) = 0

/-- Timing clocks of a PWM period (R198). -/
def State.pwmPeriod (s : State) (h : Fin 4) : Nat :=
  let f := s.obj (hk 0x490003 h)
  (2 * 500000 + f) / (2 * max 1 f)

/-- Timing clocks of a PWM period in which HTh_PWM is high (R198). -/
def State.pwmHigh (s : State) (h : Fin 4) : Nat := s.obj (hk 0x49000E h) * s.pwmPeriod h / 65536

/-- AXa_STEP is high: within the step width of a rising edge, with no output inhibit (R434, R437). -/
def State.stepHigh (s : State) (a : Fin 4) : Bool :=
  !s.pinsForced && s.obj (ak 0x480002 a) = 0 && match (s.axis.get a).gen.rise with
    | some c => decide (2 * s.clk < 2 * c + s.obj (ak 0x480003 a)) && (s.axis.get a).gen.cut.isNone
    | none => false

/-- AXa_DIR is high: the negative direction, before the direction invert; low after reset and where it is forced (R431, R432, R434). -/
def State.dirHigh (s : State) (a : Fin 4) : Bool :=
  !s.pinsForced && xor (s.axis.get a).gen.dir (s.obj (ak 0x480005 a) = 1)

/-- AXa_EN_L is high (R432, R436, R437). -/
def State.enableHigh (s : State) (a : Fin 4) : Bool := !s.driverOn a

/-- CAMc_TRIG is high (R338, R346). -/
def State.trigHigh (s : State) (c : Fin 2) : Bool :=
  match (s.camera.get c).trigEnd with
  | some e => decide (s.clk < e)
  | none => false

/-- BAR_MA_P/N rest at the idle level, with BAR_MA_P high: the mode is 0, or no frame is in progress (R76). -/
def State.barMaIdle (s : State) : Bool := s.obj 0x220030 = 0 || s.position.barFrame.isNone

/-- SYNC0 (0) or SYNC1 (1) is high: only while distributed clocks are activated (R570). -/
def State.syncHigh (s : State) (i : Fin 2) : Bool := s.clocks.dcOn && Config.syncPulse i.val s.clk

end Sys2Proof.Machine
end

