-- ==== Sys2Proof/Safety.lean ====
section
/-! DEFINITION. What counts as a sound state: the canonical forms of the stores and the event vector that agrees with the event registers (R588). -/

namespace Sys2Proof.Machine

/-- The stores are in their canonical form and the event vector is that of R588. -/
def State.sound (s : State) : Bool :=
  storeWf defaultObj s.od && storeWf (fun _ => []) s.dom && memWf s.mem &&
    storeWf (fun _ => 0) s.held && decide (s.pend = pendingVector s.od)

end Sys2Proof.Machine
end

