-- ==== Sys2Proof/WellFormed.lean ====
section
/-! DEFINITION. Which commands are well formed: every operand fits the width that the spec gives what it stands for. A meaning is total on ill-formed commands too. -/

namespace Sys2Proof

/-- A number fits `w` bits. -/
def fits (w n : Nat) : Bool := decide (n < 2 ^ w)

/-- An integer fits `w` bits in two's complement. -/
def inInt (w : Nat) (i : Int) : Bool := decide (-(2 ^ (w - 1) : Int) ≤ i) && decide (i < 2 ^ (w - 1))

/-- Well-formedness of a command. -/
def Instr.wf : Instr → Bool
  | .registerWrite addr value hw => fits 40 addr && fits 32 value && fits 32 hw
  | .rcRegisterRead addr _ => fits 40 addr
  | .pairLoRead addr => fits 40 addr
  | .pairHiWrite addr value => fits 40 addr && fits 32 value
  | .memoryAccess _ _ addr _ value collide _ => fits 40 addr && fits 64 value && decide (collide ≤ 2)
  | .sdoWrite index sub _ _ => fits 16 index && fits 8 sub
  | .sdoSegment index sub _ _ => fits 16 index && fits 8 sub
  | .mailboxUnsupported _ => true
  | .siiWrite offset word => fits 16 offset && fits 16 word
  | .scrubStep _ => true
  | .sramClearDone => true
  | .dmaStart _ _ _ => true
  | .dmaAbort _ _ moved _ => moved.collided.all (fits 26)
  | .descriptorFetch _ reads => reads.finds.all fun f => fits 26 f.1
  | .descriptorComplete _ _ _ _ => true
  | .dmaBusError _ _ addr _ moved _ => fits 40 addr && moved.collided.all fun c => fits 26 c.2
  | .busErrorClear _ => true
  | .alStateRequest _ _ _ _ _ _ _ _ _ => true
  | .watchdog _ => true
  | .processDataOutput _ _ => true
  | .inputSample _ => true
  | .dcSynchronised diffs _ => diffs.all fun d => inInt 32 d.2
  | .dcUnsync diff _ => inInt 32 diff
  | .dcActivation => true
  | .storeParameters value => fits 64 value
  | .restoreDefaultParameters value => fits 64 value
  | .configRestore _ => true
  | .enable _ _ => true
  | .disable _ _ => true
  | .arm _ _ _ => true
  | .start _ _ => true
  | .drain _ _ => true
  | .hold _ _ => true
  | .resume _ _ => true
  | .stop _ _ => true
  | .clearFault _ _ => true
  | .commit _ _ _ => true
  | .emergencySend => true
  | .windowAccess _ value collide _ => fits 64 value && decide (collide ≤ 2)
  | .windowBlockAccess _ _ => true
  | .foeFwWrite _ => true
  | .foeHdrWrite _ _ => true
  | .foeHdrRead _ => true
  | .foeLogRead => true
  | .powerOn straps _ _ => fits 4 straps
  | .resetPin straps _ _ => fits 4 straps
  | .softwareReset _ value straps => fits 64 value && fits 4 straps
  | .brownOut => true
  | .railsBackInRange straps => fits 4 straps
  | .rcReady => true
  | .refReady _ => true
  | .refWindowOutOfRange _ => true
  | .pllLocked _ => true
  | .pllFail => true
  | .refLoss _ _ => true
  | .holdExit _ => true
  | .rcFault _ _ => true
  | .coreSourceSwitch _ source => fits 8 source
  | .pstateRequest _ point => fits 8 point
  | .pstateDone _ _ => true
  | .vrFault _ => true
  | .vrReadyRestored => true
  | .clockGateWrite _ gates _ => fits 23 gates
  | .gateAbort gate => decide (gate < 23)
  | .safeLLow _ => true
  | .safeLHigh => true
  | .junctionReading temp _ => inInt 16 temp
  | .rtcWrite _ value => fits 64 value
  | .rtcStop => true
  | .operatingHoursTick => true
  | .startupSelftestDone lanes lanesRetest pairs pairsRetest _ _ _ _ => fits 17 lanes && fits 17 lanesRetest && fits 5 pairs && fits 5 pairsRetest
  | .counterCheckpoint => true
  | .checkpoint _ => true
  | .checkpointDone => true
  | .clearRetirements _ => true
  | .clearLog _ => true
  | .encoderEnable _ _ _ _ _ _ _ => true
  | .encoderDisable _ _ => true
  | .wireFault _ _ _ => true
  | .wireZ _ _ => true
  | .countingEdge _ held _ => fits 32 held
  | .illegalTransition held _ => fits 32 held
  | .zEvent held _ => fits 32 held
  | .stall _ => true
  | .originLatch edge _ => fits 32 edge.held
  | .latchInEdge _ held _ => fits 32 held
  | .sync0Event _ => true
  | .barModeWrite _ mode => fits 8 mode
  | .barFrameStart _ _ => true
  | .barSample word _ _ check _ => fits 40 word && fits 6 check
  | .barFrameTimeout _ _ => true
  | .lineEvent _ _ _ => true
  | .eventWithdrawal _ _ _ => true
  | .slowReqRelease _ => true
  | .slowReqPinChange _ _ => true
  | .armCommit _ _ _ => true
  | .portTransfer _ => true
  | .cannotMaskStop _ _ => true
  | .lockstepMismatch _ _ => true
  | .hdrWrite _ _ _ => true
  | .portEnable _ _ _ => true
  | .idReadDone _ _ first second _ => fits 64 first.rom && fits 40 first.mem && fits 64 second.rom && fits 40 second.mem
  | .portDisable _ _ _ => true
  | .headerOnlyFrame _ _ => true
  | .loadStart _ reads => reads.finds.all fun f => fits 26 f.1
  | .loadEnd _ _ => true
  | .latchTransfer _ _ => true
  | .strobe _ _ => true
  | .cycleEnd _ _ => true
  | .echoVerdict _ _ _ => true
  | .flushFrame _ _ => true
  | .windupStart _ _ reads => reads.finds.all fun f => fits 26 f.1
  | .windupShot _ _ => true
  | .windupStop _ _ _ => true
  | .slotDescWrite _ _ _ cap _ _ => fits 13 cap
  | .tsConversionDone _ code _ => fits 12 code
  | .thermalIdleTick _ _ => true
  | .modelInitTimeout _ _ => true
  | .ttlUpdate _ => true
  | .limitClear _ _ => true
  | .ntcConversion _ code _ => fits 12 code
  | .pidUpdate _ _ => true
  | .heaterCut _ _ => true
  | .cutClear _ _ => true
  | .cutComparatorRelease _ => true
  | .heaterModeWrite _ _ mode => fits 8 mode
  | .linkEnable _ _ value _ => fits 64 value
  | .linkSignalEvent _ _ _ => true
  | .linkUp _ _ => true
  | .frameReceived _ _ _ _ _ => true
  | .arpRequest _ dst target mac ip _ => fits 48 dst && fits 32 target && fits 48 mac && fits 32 ip
  | .statusRequest _ mac ip port _ => fits 48 mac && fits 32 ip && fits 16 port
  | .tilePacket _ mac ip port _ _ _ => fits 48 mac && fits 32 ip && fits 16 port
  | .tileComplete _ seq _ => fits 32 seq
  | .fragmentTimeout _ seq _ => fits 32 seq
  | .nakTimeout _ => true
  | .nakIntervalExpiry _ seq _ => fits 32 seq
  | .nakSend _ _ => true
  | .statusInterval _ => true
  | .jobIdWrite _ value _ => fits 64 value
  | .storeConfigWrite _ _ value => fits 64 value
  | .repeatConfigWrite _ _ value => fits 64 value
  | .rowRelease => true
  | .renderLineStart _ _ _ => true
  | .renderLineDone _ _ => true
  | .laneTestWindow _ _ => true
  | .laneEntersTest _ => true
  | .laneRetestDone _ _ _ => true
  | .jigsawLineTake _ _ _ _ _ => true
  | .slotCopy _ _ _ _ => true
  | .mapWrite _ _ => true
  | .nozzleStateEdit _ _ value => fits 64 value
  | .firingCounterReset _ _ value => fits 64 value
  | .captureEnable _ _ value _ => fits 64 value
  | .frameStart _ vc fn _ _ => fits 4 vc && fits 16 fn
  | .cameraPacket _ vc dt _ _ _ _ _ => fits 4 vc && fits 6 dt
  | .frameEnd _ vc _ _ => fits 4 vc
  | .frameWatchdog _ _ => true
  | .webTrigger _ _ => true
  | .triggerCommand _ _ value _ => fits 64 value
  | .triggerPulseEnd _ _ => true
  | .settingsSetWrite _ _ => true
  | .cciTransferDone _ _ _ => true
  | .directTransfer _ _ value => fits 64 value
  | .holdMaskWrite _ _ value => fits 64 value
  | .reprocess _ _ slot => fits 6 slot
  | .cameraStall _ _ => true
  | .frameTake _ _ => true
  | .recordComplete _ => true
  | .processParamWrite _ key _ => fits 24 key
  | .parameterFreeze _ value => fits 64 value
  | .kaleidoEnable _ value => fits 64 value
  | .analyseRecord _ => true
  | .bandPlacement _ => true
  | .batchApply _ _ => true
  | .muteTimeout _ => true
  | .recalibration _ _ => true
  | .geometry _ => true
  | .clearMutes _ => true
  | .restoreBudgets _ => true
  | .apply _ seq => fits 32 seq
  | .moveAbsolute _ _ _ => true
  | .moveRelative _ _ _ => true
  | .velocity _ _ _ => true
  | .axisStop _ _ _ => true
  | .quickStop _ _ _ => true
  | .home _ _ _ => true
  | .engageGear _ _ _ => true
  | .disengageGear _ _ _ => true
  | .setPosition _ _ _ => true
  | .axisClearFault _ _ _ => true
  | .axisEnable _ _ value _ => fits 64 value
  | .moveDone _ _ => true
  | .limitReached _ _ => true
  | .diagStall _ _ _ _ => true
  | .homeFail _ _ => true
  | .homeDone _ _ => true
  | .segment _ _ => true
  | .gearedAxisFault _ _ => true
  | .motionAtRest _ _ => true
  | .segmentQueueWrite _ _ => true
  | .walkEnable _ _ value _ => fits 64 value
  | .stackRequest _ port addr _ data mask _ => fits 5 port && fits 40 addr && decide (data.length ≤ 64) && fits 64 mask
  | .stackCommandIssue _ _ => true
  | .targetMiss _ _ => true
  | .pageIdleExpiry _ _ _ => true
  | .refreshDue _ _ _ => true
  | .refreshWindowStart _ => true
  | .stackTempReading temps _ => (decide (temps.length ≤ 8) && temps.all (inInt 16))
  | .thermalThrottleWindow _ => true
  | .overtempRecovery _ => true
  | .selfRefreshEnter _ _ => true
  | .selfRefreshExit _ _ => true
  | .selfRefreshEntryDone _ => true
  | .selfRefreshExitDone _ _ => true
  | .addressMapWrite _ value => fits 64 value
  | .trainingDone _ _ _ => true
  | .alert _ _ words addr _ => fits 40 addr && words.all (fits 33)
  | .replayRoundDone _ ends _ => ends.bad.all (fits 40)
  | .quickTrainingDone _ _ _ => true
  | .retestRead _ _ _ _ => true
  | .eyeSweep _ _ _ => true
  | .patrolRead _ _ => true
  | .rebuildDone ends => ends.poison.all (fits 40) && ends.finds.all fun f => fits 26 f.1
  | .mbistRun _ _ => true
  | .mbistAbort _ _ => true
  | .mbistDone _ _ _ => true
  | .stkWir => true
  | .stkWdr => true
  | .clearLists _ => true
  | .stackLossClear _ value => fits 64 value
  | .statsRead => true
  | .statsReadAdvance => true
  | .resultRead => true
  | .resultReadAdvance => true

end Sys2Proof
end

