-- ==== Sys2Proof/Certificates/Slice0/Obligations.lean ====
section
/-! DEFINITION. The statements about the block, for the provers: what each command does where its conditions hold, what it leaves alone, and what every step keeps. -/

open Sys2Proof Sys2Proof.Machine

/-- An SDO request or a register write reaches its block: the mailbox is served, and the block of key `k` is not gated (R560, R621, R622). -/
def Sys2Proof.Claims.reaches (via : Via) (s : State) (k : Key) : Bool :=
  !s.gated k &&
    match via with
    | .sdo => s.slave.al ≠ .init && s.slave.al ≠ .boot
    | .reg => true
    | .pdo => false

/-- As `reaches`, for an object that an RxPDO may carry. -/
def Sys2Proof.Claims.reachesPdo (via : Via) (s : State) (k : Key) : Bool :=
  !s.gated k &&
    match via with
    | .sdo => s.slave.al ≠ .init && s.slave.al ≠ .boot
    | .reg => true
    | .pdo => s.slave.al = .op

/-- What the sender of a refused write learns: an SDO request ends with the abort, a register write completes (R11, R564). -/
def Sys2Proof.Claims.refused (via : Via) (t : State) (abort : Nat) : Prop :=
  match via with
  | .sdo => t.slave.resp = .abort abort
  | .reg => t.slave.resp = .busDone
  | .pdo => False

/-- A counter has risen by one, or stands at its end (R15). -/
def Sys2Proof.Claims.counted (s t : State) (k : Key) : Prop := t.obj k = min (2 ^ 32 - 1) (s.obj k + 1)

/-- Memory and the DOMAIN objects read as before. -/
def Sys2Proof.Claims.sameData (s t : State) : Prop := (∀ a, t.byte a = s.byte a) ∧ ∀ k, t.domain k = s.domain k

/-- Objects that the end of any command may write: coverage status, sequence of events, counts of the log and of emergencies, SLOW_REQ_L and the walk check (R113, R293, R591, R652, R657). -/
def Sys2Proof.Claims.shared : List Key :=
  [0x230019, 0x230025, 0x240012, 0x240013, 0x5E0001, 0x5E0004, 0x5E0011, 0x5E0050, 0x5E0051, 0x5E0052, 0x5E0058,
    0x5F2030, 0x5F2032, 0x200023]

open Sys2Proof.Claims

/-- REGISTER_WRITE, RC_REGISTER_READ, PAIR_LO_READ and PAIR_HI_WRITE (R11, R12, R13, R14, R37, R38, R93, R622), each completes with a response whatever the address and the state are, and each access code is stated at one register of it: a write of RW takes the bits, of RO changes nothing, of W1C clears the bits written with 1 but those that hardware sets at once; a read of RC returns the count and clears it but for an increment in the same clock; the halves of a pair are read and written as one; a gated block reads 0. -/
def Obligations.RegistersFollowTheirAccessCodes : Prop :=
  (∀ (a v hw : Nat) (s : State),
    ∃ u, exec (.registerWrite a v hw) s = .next u ∧ u.slave.resp = (if isRegister a then .busDone else .decodeError)) ∧
  (∀ (a : Nat) (inc : Bool) (s : State),
    ∃ u, exec (.rcRegisterRead a inc) s = .next u ∧
      u.slave.resp = (if isRegister a then .busData (s.regRead a inc).1 else .decodeError)) ∧
  (∀ (a : Nat) (s : State),
    ∃ u, exec (.pairLoRead a) s = .next u ∧
      u.slave.resp = (if isRegister a then .busData (s.regRead a false).1 else .decodeError)) ∧
  (∀ (a v : Nat) (s : State),
    ∃ u, exec (.pairHiWrite a v) s = .next u ∧ u.slave.resp = (if isRegister a then .busDone else .decodeError)) ∧
  (∀ (a v hw : Nat) (inc : Bool) (s : State),
    inRegisters a = false ∨ a % 4 ≠ 0 →
    ∃ u w, exec (.registerWrite a v hw) s = .next u ∧ exec (.rcRegisterRead a inc) s = .next w ∧ u.slave.resp = .decodeError ∧
      w.slave.resp = .decodeError ∧ sameData s u ∧ sameData s w ∧ ∀ k, k ∉ shared → u.obj k = s.obj k ∧ w.obj k = s.obj k) ∧
  (∀ (v hw : Nat) (s : State),
    ∃ u, exec (.registerWrite 0x10900020 v hw) s = .next u ∧ u.slave.resp = .busDone ∧ u.obj 0x5E0018 = v % 2 ^ 32 ∧ sameData s u ∧
      ∀ k, k ∉ shared → k ≠ 0x5E0018 → u.obj k = s.obj k) ∧
  (∀ (v hw : Nat) (s : State),
    ∃ u w, exec (.registerWrite 0x10900030 v hw) s = .next u ∧ exec (.registerWrite 0x10900050 v hw) s = .next w ∧
      u.slave.resp = .busDone ∧ w.slave.resp = .busDone ∧ sameData s u ∧ sameData s w ∧ ∀ k, k ∉ shared → u.obj k = s.obj k ∧ w.obj k = s.obj k) ∧
  (∀ (v hw : Nat) (s : State),
    ∃ u, exec (.registerWrite 0x10900010 v hw) s = .next u ∧ u.slave.resp = .busDone ∧ sameData s u ∧
      (∀ i, i < 32 → u.bit 0x5E0010 i = ((s.bit 0x5E0010 i && !v.testBit i) || hw.testBit i)) ∧
      ∀ k, k ∉ shared → k ≠ 0x5E0010 → u.obj k = s.obj k) ∧
  (∀ (inc : Bool) (s : State),
    ∃ u w, exec (.rcRegisterRead 0x10800100 inc) s = .next u ∧ exec (.rcRegisterRead 0x10900050 inc) s = .next w ∧
      u.slave.resp = .busData (s.obj 0x210020 % 2 ^ 32) ∧ u.obj 0x210020 = (if inc then 1 else 0) ∧ sameData s u ∧
      w.slave.resp = .busData 0 ∧ ∀ k, k ∉ shared → k ≠ 0x210020 → u.obj k = s.obj k ∧ w.obj k = s.obj k) ∧
  (∀ (x : Nat) (s : State),
    ∃ u w, exec (.pairLoRead 0x10A00114) s = .next u ∧ exec (.rcRegisterRead 0x10A00118 false) (u.setObj 0x5F100A x) = .next w ∧
      u.slave.resp = .busData (s.obj 0x5F100A % 2 ^ 32) ∧ w.slave.resp = .busData (s.obj 0x5F100A / 2 ^ 32 % 2 ^ 32)) ∧
  (∀ (lo hi hw : Nat) (s : State), s.engineState ≤ 1 →
    ∃ u w, exec (.registerWrite 0x10600010 lo hw) s = .next u ∧ exec (.pairHiWrite 0x10600014 hi) u = .next w ∧
      u.obj 0x220004 = s.obj 0x220004 ∧
      (let x := lo % 2 ^ 32 + hi % 2 ^ 32 * 2 ^ 32
       w.obj 0x220004 = (if 1 ≤ x ∧ x ≤ 2 ^ 40 then x else s.obj 0x220004))) ∧
  (∀ (lo hi hw : Nat) (s : State),
    ∃ u w, exec (.registerWrite 0x10800024 lo hw) s = .next u ∧ exec (.pairHiWrite 0x10800028 hi) u = .next w ∧ u.vbat = s.vbat ∧
      w.rtc = lo % 2 ^ 32 + hi % 2 ^ 32 * 2 ^ 32 ∧ w.vbat.rtcValid = true) ∧
  (∀ (a v hw : Nat) (inc : Bool) (n : Fin 16) (s : State),
    0x10100000 + n.val * 0x1000 ≤ a → a < 0x10100000 + n.val * 0x1000 + 0x1000 → a % 4 = 0 → s.clocks.closed.testBit n.val = true →
    ∃ u w, exec (.registerWrite a v hw) s = .next u ∧ exec (.rcRegisterRead a inc) s = .next w ∧ u.slave.resp = .busDone ∧
      w.slave.resp = .busData 0 ∧ sameData s u ∧ u.port = s.port ∧ ∀ k, k ∉ shared → u.obj k = s.obj k ∧ w.obj k = s.obj k)

/-- ENCODER_ENABLE and ENCODER_DISABLE (R47, R51, R60, R62, R64, R86): in DISABLED and STANDBY, with a ratio and no checked pair in disagreement, the write is accepted.
Enabling clears neither the count nor the accumulator, sets the velocity to 0 and clears EXTRAP_VALID; a later enable is what clears declared wire faults.
R62: a write of 1 to ENC_EN is refused while the ratio is 0, and while a checked pair is in disagreement, with CONFIG_ERR; ENC_EN keeps its value, and an SDO request ends with 0x0609_0030 and 0x0800_0022; a register write completes. -/
def Obligations.EncoderIsEnabledByItsChecks : Prop :=
  ((∀ (via : Via) (a b : Bool) (pa pb pz : PairSample) (t : Nat) (s : State),
    reaches via s 0x220001 → s.engineState ≤ 1 → badPairs pa pb pz &&& s.obj 0x220006 = 0 → s.obj 0x220004 ≠ 0 →
    ∃ u, exec (.encoderEnable via a b pa pb pz t) s = .next u ∧
      u.obj 0x220001 = 1 ∧ u.obj 0x220014 = 0 ∧ u.bit 0x220015 2 = false ∧ u.bit 0x220015 10 = false ∧
      u.obj 0x220017 = s.obj 0x220017 ∧ u.position.acc = s.position.acc ∧
      u.position.a = a ∧ u.position.b = b ∧
      (s.position.clearArmed = true → u.bit 0x220015 6 = false ∧ u.position.faultZ = false)) ∧
  (∀ (via : Via) (t : Nat) (s : State),
    reaches via s 0x220001 → s.engineState ≤ 1 →
    ∃ u, exec (.encoderDisable via t) s = .next u ∧
      u.obj 0x220001 = 0 ∧ u.bit 0x220015 0 = false ∧ u.bit 0x220015 10 = false ∧ u.position.clearArmed = true ∧
      u.obj 0x220017 = s.obj 0x220017 ∧ u.position.acc = s.position.acc ∧
      u.bit 0x220015 6 = s.bit 0x220015 6 ∧ u.position.faultZ = s.position.faultZ)) ∧
  (∀ (via : Via) (a b : Bool) (pa pb pz : PairSample) (t : Nat) (s : State),
    reaches via s 0x220001 → s.engineState ≤ 1 → badPairs pa pb pz &&& s.obj 0x220006 = 0 → s.obj 0x220004 = 0 →
    ∃ u, exec (.encoderEnable via a b pa pb pz t) s = .next u ∧
      u.obj 0x220001 = s.obj 0x220001 ∧ u.bit 0x220015 10 = true ∧ refused via u 0x06090030) ∧
  (∀ (via : Via) (a b : Bool) (pa pb pz : PairSample) (t : Nat) (s : State),
    reaches via s 0x220001 → s.engineState ≤ 1 → badPairs pa pb pz &&& s.obj 0x220006 ≠ 0 → s.obj 0x220004 ≠ 0 →
    ∃ u, exec (.encoderEnable via a b pa pb pz t) s = .next u ∧
      u.obj 0x220001 = s.obj 0x220001 ∧ u.bit 0x220015 10 = true ∧ refused via u 0x08000022 ∧
      u.bit 0x220015 6 = s.bit 0x220015 6 ∧ u.position.faultA = s.position.faultA ∧ u.position.faultB = s.position.faultB ∧
      u.position.faultZ = s.position.faultZ)

/-- COUNTING_EDGE (R51, R55, R71): the count moves by one and the accumulator by the ratio, both modulo their width, forward where A leads B with DIR_INV 0; the edge latch takes the measured web position after the edge.
WIRE_FAULT, WIRE_Z, ILLEGAL_TRANSITION and STALL (R45, R46, R52, R53, R64, R66): each sets its event and status bits, counts where it has a counter, and leaves the count and the accumulator alone.
A wire fault on A or B, and an illegal transition above the budget, put an engine in a job state into FAULT with their source as the cause.
Z_EVENT, LATCH_IN_EDGE and ORIGIN_LATCH (R54, R57 to R59, R71, R74): an enabled latch takes the extrapolated web position of the recorded clock and its sequence number rises; Z leaves the count alone.
An awaited edge latches the origin and ends the wait. -/
def Obligations.EncoderEdgesMoveCountAndLatch : Prop :=
  (∀ (onA : Bool) (held t : Nat) (s : State),
    s.timing = true → s.obj 0x220001 = 1 → s.bit 0x220015 6 = false → s.obj 0x220003 ≤ held →
    ∃ u, exec (.countingEdge onA held t) s = .next u ∧
      (let forward := (if onA then (!s.position.a) != s.position.b else (!s.position.b) == s.position.a) != decide (s.obj 0x220002 = 1)
       u.obj 0x220017 = (if forward then (s.obj 0x220017 + 1) % 2 ^ 32 else (s.obj 0x220017 + 0xFFFFFFFF) % 2 ^ 32) ∧
       u.position.acc = (if forward then (s.position.acc + s.obj 0x220004) % 2 ^ 64
         else (s.position.acc + 2 ^ 64 - s.obj 0x220004) % 2 ^ 64)) ∧
      u.obj 0x220020 = u.measured ∧ u.obj 0x220028 = (s.obj 0x220028 + 1) % 2 ^ 32) ∧
  ((∀ (pairB : Bool) (samples : List PairSample) (t : Nat) (s : State),
    wireBroken samples = true → s.timing = true → s.obj 0x220001 = 1 → s.bit 0x220006 (b2n pairB) = true →
    (if pairB then s.position.faultB else s.position.faultA) = false →
    ∃ u, exec (.wireFault pairB samples t) s = .next u ∧
      u.bit 0x220015 6 = true ∧ u.bit 0x220015 5 = false ∧ u.bit 0x220015 2 = false ∧
      u.bit 0x220016 (1 + b2n pairB) = true ∧ u.obj 0x220051 = min (2 ^ 32 - 1) (s.obj 0x220051 + 1) ∧
      u.obj 0x220017 = s.obj 0x220017 ∧ u.position.acc = s.position.acc ∧
      (s.inJobState = true → u.engineState = 6 ∧ u.obj 0x5F1008 = 134)) ∧
  (∀ (samples : List PairSample) (t : Nat) (s : State),
    wireBroken samples = true → s.timing = true → s.obj 0x220001 = 1 → s.bit 0x220006 2 = true → s.position.faultZ = false →
    ∃ u, exec (.wireZ samples t) s = .next u ∧
      u.position.faultZ = true ∧ u.bit 0x220016 3 = true ∧ u.obj 0x220017 = s.obj 0x220017 ∧
      u.engineState = s.engineState) ∧
  (∀ (held t : Nat) (s : State),
    s.timing = true → s.obj 0x220001 = 1 → s.bit 0x220015 6 = false → s.obj 0x220003 ≤ held →
    ∃ u, exec (.illegalTransition held t) s = .next u ∧
      u.bit 0x220016 0 = true ∧ u.obj 0x220050 = min (2 ^ 32 - 1) (s.obj 0x220050 + 1) ∧ u.bit 0x220015 2 = false ∧
      u.obj 0x220017 = s.obj 0x220017 ∧ u.position.acc = s.position.acc ∧
      u.position.a = !s.position.a ∧ u.position.b = !s.position.b ∧
      (s.obj 0x22000C < s.position.illegal + 1 → s.inJobState = true → u.engineState = 6 ∧ u.obj 0x5F1008 = 135)) ∧
  (∀ (t : Nat) (s : State),
    s.timing = true → s.obj 0x220001 = 1 → s.bit 0x220015 6 = false → s.bit 0x220015 3 = false →
    s.position.edgeAt + s.obj 0x220009 * 500000 ≤ t →
    ∃ u, exec (.stall t) s = .next u ∧
      u.bit 0x220015 3 = true ∧ u.bit 0x220016 5 = true ∧ u.bit 0x220015 2 = false ∧ u.obj 0x220014 = 0 ∧
      u.obj 0x220017 = s.obj 0x220017 ∧ u.engineState = s.engineState)) ∧
  ((∀ (held t : Nat) (s : State),
    s.timing = true → s.bit 0x220007 0 = true → s.position.faultZ = false → s.obj 0x220003 ≤ held →
    ∃ u, exec (.zEvent held t) s = .next u ∧
      u.obj 0x220022 = s.extrapolatedAt (s.stamp t) ∧ u.obj 0x220029 = (s.obj 0x220029 + 1) % 2 ^ 32 ∧
      u.obj 0x220017 = s.obj 0x220017 ∧
      u.obj 0x220054 = (if s.zMismatch (s.obj 0x220017) then min (2 ^ 32 - 1) (s.obj 0x220054 + 1) else s.obj 0x220054)) ∧
  (∀ (falling : Bool) (held t : Nat) (s : State),
    s.timing = true → s.bit 0x220007 1 = true → s.bit 0x220007 2 = falling → 2 ≤ held →
    ∃ u, exec (.latchInEdge falling held t) s = .next u ∧
      u.obj 0x220024 = s.extrapolatedAt (latchInStamp t) ∧ u.obj 0x22002A = (s.obj 0x22002A + 1) % 2 ^ 32) ∧
  (∀ (src : Nat) (falling : Bool) (held t : Nat) (s : State),
    s.timing = true → s.position.await = some src →
    (src = 2 → falling = false ∧ s.position.faultZ = false ∧ s.obj 0x220003 ≤ held) →
    (src ≠ 2 → s.bit 0x220007 2 = falling ∧ 2 ≤ held) →
    ∃ u, exec (.originLatch ⟨falling, held⟩ t) s = .next u ∧
      u.bit 0x220015 5 = true ∧ u.bit 0x220016 14 = true ∧ u.position.await = none ∧
      u.obj 0x220018 = s.rawExtrapAt (if src = 2 then s.stamp t else latchInStamp t) / 2 ^ 16 % 2 ^ 48))

/-- BAR_MODE_WRITE, BAR_FRAME_START and BAR_FRAME_TIMEOUT (R60, R76, R79, R80, R82 to R84): a mode whose frame period is long enough is taken; a frame that falls due while BAR_SL is low, or that times out in BiSS-C mode, rejects its sample.
BAR_SAMPLE in BiSS-C mode (R78, R81, R84, R85): a sample whose CRC and nE are good and whose step is within the maximum gives the bar position, its raw word and its sample time; one whose CRC differs is rejected and counted, and the position stays. -/
def Obligations.BarFramesGivePosition : Prop :=
  ((∀ (via : Via) (mode : Nat) (s : State),
    reaches via s 0x220030 → s.engineState ≤ 1 → mode ≤ 2 →
    (mode = 0 ∨ s.obj 0x220033 = 0 ∨ s.barShortest mode ≤ s.obj 0x220033 * 1000) →
    ∃ u, exec (.barModeWrite via mode) s = .next u ∧ u.obj 0x220030 = mode ∧ u.bit 0x220015 10 = false) ∧
  (∀ (t : Nat) (s : State), s.timing = true → s.obj 0x220030 ≠ 0 → s.barDue t = true →
    ∃ u, exec (.barFrameStart false t) s = .next u ∧ u.position.barFrame = some u.sysTime ∧ u.position.barStart = some u.clk) ∧
  (∀ (t : Nat) (s : State), s.timing = true → s.obj 0x220030 ≠ 0 → s.barDue t = true →
    ∃ u, exec (.barFrameStart true t) s = .next u ∧
      u.bit 0x220015 9 = true ∧ u.bit 0x220016 11 = true ∧
      u.obj 0x220058 = min (2 ^ 32 - 1) (s.obj 0x220058 + 1) ∧ u.obj 0x220040 = s.obj 0x220040) ∧
  (∀ (crcEnd : Option Nat) (t start time : Nat) (s : State),
    s.timing = true → s.position.barFrame = some time → s.position.barStart = some start → s.obj 0x220030 = 1 →
    crcEnd.getD start + s.obj 0x220034 * 500 ≤ t →
    ∃ u, exec (.barFrameTimeout crcEnd t) s = .next u ∧
      u.bit 0x220015 9 = true ∧ u.bit 0x220016 11 = true ∧ u.position.barFrame = none ∧
      u.obj 0x220058 = min (2 ^ 32 - 1) (s.obj 0x220058 + 1) ∧ u.obj 0x220040 = s.obj 0x220040)) ∧
  ((∀ (word : Nat) (nW : Bool) (check t time : Nat) (s : State),
    s.timing = true → s.position.barFrame = some time → s.obj 0x220030 = 1 →
    barCrc (s.obj 0x220032) word true nW = (check ^^^ 0x3F) % 64 →
    s.barJumps (word % 2 ^ s.obj 0x220032) = false →
    ∃ u, exec (.barSample word true nW check t) s = .next u ∧
      (let d := s.obj 0x220032
       let steps := sx d (word % 2 ^ d + 2 ^ d - s.obj 0x220038 % 2 ^ d)
       u.obj 0x220040 = toBits 32 (floorShift (steps * sx 64 (s.obj 0x220037)) 16) ∧
       u.obj 0x220041 = word % 2 ^ d) ∧
      u.obj 0x220042 = time ∧ u.bit 0x220015 9 = false) ∧
  (∀ (word : Nat) (nE nW : Bool) (check t time : Nat) (s : State),
    s.timing = true → s.position.barFrame = some time → s.obj 0x220030 = 1 →
    barCrc (s.obj 0x220032) word nE nW ≠ (check ^^^ 0x3F) % 64 →
    ∃ u, exec (.barSample word nE nW check t) s = .next u ∧
      u.obj 0x220040 = s.obj 0x220040 ∧ u.bit 0x220015 9 = true ∧ u.bit 0x220016 8 = true ∧
      u.obj 0x220055 = min (2 ^ 32 - 1) (s.obj 0x220055 + 1)))

/-- LINE_EVENT (R25, R94, R96 to R98, R154): the event of a column of the cycle in progress, due and taking part, leaves the cycle; the column's groups join the strobe queue, ordered by the clock of each column's event and then by COL_ORDER, and the fire line takes the line that fires.
EVENT_WITHDRAWAL (R104): an event pending while the guarded position is short of its target is counted and blanks nothing. Both are stated for a job without a last line.
SLOW_REQ_PIN_CHANGE and SLOW_REQ_RELEASE (R113, R114): the pin level that another device gives is reported, and the drive ends once no cause is present and every hold time has ended. -/
def Obligations.ColumnsFireAndSlowRequestFollows : Prop :=
  ((∀ (n : Fin 16) (k : Fin 8) (t : Nat) (s : State) (c : Cycle),
    s.timing = true → 3 ≤ s.engineState → s.engineState ≤ 5 → s.obj 0x5F1009 = 0xFFFFFFFF →
    (s.port.get n).cur = some c → (s.tick t).eventDue n c k.val = true → s.takesPart n c.m k.val = true →
    ∃ u, exec (.lineEvent n k t) s = .next u ∧
      (∃ d, (u.port.get n).cur = some d ∧ d.m = c.m ∧ d.events = (c.events.filter fun kt => kt.1 ≠ k.val) ∧
        d.fired = storePut (fun _ => 0) c.fired k.val u.clk ∧
        (u.port.get n).queue = sortBy (fun a b => decide (slotKey (s.strobeOrder n c) d a ≤ slotKey (s.strobeOrder n c) d b))
          ((s.port.get n).queue ++ (List.range (recGroups (s.record n))).map fun i => (k.val, i))) ∧
      (let f := s.obj (0x32001C + n.val * 0x100)
       let j := s.lineOf n c.m k.val
       u.obj (0x32001C + n.val * 0x100) = (if f = 0xFFFFFFFF ∨ lineAtOrBeyond j f = true then j else f))) ∧
  (∀ (n : Fin 16) (k : Fin 8) (t : Nat) (s : State) (c : Cycle),
    s.timing = true → 3 ≤ s.engineState → s.engineState ≤ 5 →
    (s.port.get n).cur = some c → (s.tick t).mustWithdraw n c k.val = true →
    ∃ u, exec (.eventWithdrawal n k t) s = .next u ∧
      u.obj 0x230021 = min (2 ^ 32 - 1) (s.obj 0x230021 + 1) ∧
      u.obj (0x330007 + n.val * 0x100) = min (2 ^ 32 - 1) (s.obj (0x330007 + n.val * 0x100) + 1) ∧
      u.obj (0x330002 + n.val * 0x100) = s.obj (0x330002 + n.val * 0x100) ∧
      (∃ d, (u.port.get n).cur = some d ∧ d.withdrawn = c.withdrawn ||| 1 <<< k.val ∧ (c.firstAt.isSome = true → d.blank = c.blank)))) ∧
  ((∀ (low : Bool) (t : Nat) (s : State),
    ∃ u, exec (.slowReqPinChange low t) s = .next u ∧ u.sched.external = low) ∧
  (∀ (t : Nat) (s : State),
    s.timing = true → s.obj 0x230009 = 0 → s.slowOther = false → s.sched.wasForce = false → s.sched.wasOther = false →
    (∀ e, s.sched.holdForce = some e → e ≤ t) → (∀ e, s.sched.holdOther = some e → e ≤ t) →
    ∃ u, exec (.slowReqRelease t) s = .next u ∧ u.sched.drive = false))

/-- ARM_COMMIT while a job runs (R118, R121): with the set open and the expected CRC 0, the set locks, the commit sequence rises by one, and each port's boundary is the smallest multiple of 256 at or above its fire line plus the commit distance, from -1 before the first line.
ARM_COMMIT in DISABLED and FAULT (R124): the commit is refused with result WRONG_STATE, COMMIT_REFUSED sets and the refused-commit counter rises; the set stays open and the sequence stays.
ARM_COMMIT in STANDBY (R121, R123): with the set open and the expected CRC 0 the whole set transfers at once; the lock is released, both sequences agree, the result is done, no boundary is pending and every trim in force is its shadow value. -/
def Obligations.CommitIsTakenByEngineState : Prop :=
  (∀ (via : Via) (ckptErr t : Nat) (s : State),
    reachesPdo via s 0x230010 = true → 2 ≤ s.engineState → s.engineState ≤ 5 → s.obj 0x230012 = 0 → s.obj 0x230011 = 0 →
    ∃ u, exec (.armCommit via ckptErr t) s = .next u ∧
      u.obj 0x230012 = 1 ∧ u.obj 0x230014 = (s.obj 0x230014 + 1) % 2 ^ 32 ∧ u.obj 0x230013 = 1 ∧
      ∀ n : Fin 16, u.bit (0x32001F + n.val * 0x100) 3 = true ∧
        u.obj (0x32001D + n.val * 0x100) =
          (let f := s.obj (0x32001C + n.val * 0x100)
           let x := if f = 0xFFFFFFFF then s.obj 0x230005 - 1 else f + s.obj 0x230005
           256 * ((x + 255) / 256) % 2 ^ 32)) ∧
  (∀ (via : Via) (ckptErr t : Nat) (s : State),
    reaches via s 0x230010 = true → s.engineState = 0 ∨ s.engineState = 6 →
    ∃ u, exec (.armCommit via ckptErr t) s = .next u ∧
      u.obj 0x230013 = 5 ∧ u.bit 0x230019 2 = true ∧ u.obj 0x230026 = min (2 ^ 32 - 1) (s.obj 0x230026 + 1) ∧
      u.obj 0x230012 = s.obj 0x230012 ∧ u.obj 0x230014 = s.obj 0x230014 ∧ refused via u 0x08000022) ∧
  (∀ (via : Via) (ckptErr t : Nat) (s : State),
    reachesPdo via s 0x230010 = true → s.engineState = 1 → s.obj 0x230012 = 0 → s.obj 0x230011 = 0 →
    ∃ u, exec (.armCommit via ckptErr t) s = .next u ∧
      u.obj 0x230012 = 0 ∧ u.obj 0x230014 = (s.obj 0x230014 + 1) % 2 ^ 32 ∧ u.obj 0x230015 = (s.obj 0x230014 + 1) % 2 ^ 32 ∧
      u.obj 0x230013 = 2 ∧
      ∀ (n : Fin 16) (k : Fin 8), u.obj (0x32001D + n.val * 0x100) = 0xFFFFFFFF ∧
        u.obj (0x320011 + n.val * 0x100 + k.val) = s.obj (0x320009 + n.val * 0x100 + k.val))

/-- PORT_TRANSFER (R120, R121, R156): a port whose columns have all fired or blanked the boundary brings its trims, width, gap and cap into force, and its transfer is pending no more; before that nothing changes. -/
def Obligations.PortTransferBringsSetIntoForce : Prop :=
  (∀ (n : Fin 16) (s : State), s.transferPending n = true → s.columnsPast n (s.boundary n) = true →
    ∃ u, exec (.portTransfer n) s = .next u ∧
      (∀ k : Fin 8, u.obj (0x320011 + n.val * 0x100 + k.val) = s.obj (0x320009 + n.val * 0x100 + k.val)) ∧
      u.obj (0x310006 + n.val * 0x100) = s.obj (0x300003 + n.val * 0x100) ∧
      u.obj (0x310007 + n.val * 0x100) = s.obj (0x300004 + n.val * 0x100) ∧
      u.obj (0x310008 + n.val * 0x100) = s.obj (0x300005 + n.val * 0x100) ∧
      u.bit (0x32001F + n.val * 0x100) 3 = false ∧ u.obj (0x32001D + n.val * 0x100) = 0xFFFFFFFF) ∧
  (∀ (n : Fin 16) (s : State), s.transferPending n = false ∨ s.columnsPast n (s.boundary n) = false →
    ∃ u, exec (.portTransfer n) s = .next u ∧ sameData s u ∧ u.port = s.port ∧ ∀ k, k ∉ shared → u.obj k = s.obj k)

/-- CANNOT_MASK_STOP (R324) and LOCKSTEP_MISMATCH (R129, R586, R692): the engine enters HOLD from ARMED, PRINTING or DRAINING where the fire line has reached the stop of an unmaskable map, stated for a job without a last line; and it enters FAULT with cause SCHED_LOCKSTEP at a mismatch, which stops every cycle of every port. -/
def Obligations.UnmaskableMapHoldsAndMismatchFaults : Prop :=
  (∀ (n : Fin 16) (t l : Nat) (s : State),
    2 ≤ s.engineState → s.engineState ≤ 4 → s.obj 0x5F1009 = 0xFFFFFFFF →
    (s.jigsaw.get n).stopAt = some l → s.obj (0x32001C + n.val * 0x100) ≠ 0xFFFFFFFF →
    lineAtOrBeyond (s.obj (0x32001C + n.val * 0x100)) l = true →
    ∃ u, exec (.cannotMaskStop n t) s = .next u ∧
      u.engineState = 5 ∧ u.engine.heldFrom = s.engineState ∧ u.obj 0x5F1007 = s.engineState ∧
      (u.jigsaw.get n).stopAt = none) ∧
  (∀ (pair : Fin 5) (t : Nat) (s : State),
    s.timing = true → s.engineState ≠ 6 →
    ∃ u, exec (.lockstepMismatch pair t) s = .next u ∧
      u.engineState = 6 ∧ u.obj 0x5F1008 = 133 ∧ u.obj 0x230024 = min (2 ^ 32 - 1) (s.obj 0x230024 + 1) ∧
      u.sched.lockstep = true ∧ ∀ n : Fin 16, (u.port.get n).cur = none ∧ (u.port.get n).next = none)

/-- HDR_WRITE (R138, R139): a valid record of 256 bytes, written while the port is off and the shadow set is open, comes into force; strobe width, gap and cap take the record's defaults, shadow and in force.
An invalid one leaves the record as it was, sets HDR_INVALID and is refused with 0x0609_0030.
PORT_ENABLE and ID_READ_DONE (R142, R143, R329, R651): an accepted write of 1 puts an idle port into ENABLING; the ID read is made once more where the CRC-8 of its first attempt fails, each failure is counted, and at its end the first check that fails gives the enable result and leaves the port off, and with none the port enters IDLE with result 1; a health map entry that cannot be read counts as a changed head and is discarded. -/
def Obligations.PortTakesRecordAndEnables : Prop :=
  ((∀ (via : Via) (n : Fin 16) (r : Bytes) (s : State),
    reaches via s (0x300020 + n.val * 0x100) = true → r.length = 256 → s.obj (0x310001 + n.val * 0x100) = 0 →
    s.obj 0x230012 = 0 → recordValid r = true →
    ∃ u, exec (.hdrWrite via n r) s = .next u ∧
      u.domain (0x300020 + n.val * 0x100) = r ∧
      u.obj (0x300003 + n.val * 0x100) = leAt r 0x1C 2 ∧ u.obj (0x310006 + n.val * 0x100) = leAt r 0x1C 2 ∧
      u.obj (0x300004 + n.val * 0x100) = leAt r 0x1E 2 ∧ u.obj (0x310007 + n.val * 0x100) = leAt r 0x1E 2 ∧
      u.obj (0x300005 + n.val * 0x100) = leAt r 0x20 2 ∧ u.obj (0x310008 + n.val * 0x100) = leAt r 0x20 2) ∧
  (∀ (via : Via) (n : Fin 16) (r : Bytes) (s : State),
    reaches via s (0x300020 + n.val * 0x100) = true → r.length = 256 → s.obj (0x310001 + n.val * 0x100) = 0 →
    s.obj 0x230012 = 0 → recordValid r = false →
    ∃ u, exec (.hdrWrite via n r) s = .next u ∧
      (∀ k, u.domain k = s.domain k) ∧ u.bit (0x310009 + n.val * 0x100) 8 = true ∧ refused via u 0x06090030)) ∧
  ((∀ (via : Via) (n : Fin 16) (t : Nat) (s : State),
    reaches via s (0x300001 + n.val * 0x100) = true → s.engineState ≤ 1 ∨ s.engineState = 6 → s.portState n.val = 0 →
    ∃ u, exec (.portEnable via n t) s = .next u ∧ u.portState n.val = 5 ∧ u.obj (0x300001 + n.val * 0x100) = 1) ∧
  (∀ (n : Fin 16) (absent : Bool) (first second : IdAttempt) (t : IdEnd) (s : State),
    s.portState n.val = 5 →
    ∃ u, exec (.idReadDone n absent first second t) s = .next u ∧
      (let r := s.domain (0x300020 + n.val * 0x100)
       let o := n.val * 0x100
       let limits := fun w g cap => leAt r 0x18 2 ≤ w && w ≤ leAt r 0x1A 2 && leAt r 0x1E 2 ≤ g && cap ≤ leAt r 0x20 2
       let read := if idGood first then first else second
       let result := if r.isEmpty then 2 else if absent then 3 else if !idGood first && !idGood second then 5
         else if read.mem % 2 ^ 32 ≠ leAt r 8 4 then 4 else if 13770 < s.loadTime n then 6
         else if s.obj (0x300002 + o) < leAt r 0x15 1 ||
           !limits (s.obj (0x300003 + o)) (s.obj (0x300004 + o)) (s.obj (0x300005 + o)) ||
           !limits (s.obj (0x310006 + o)) (s.obj (0x310007 + o)) (s.obj (0x310008 + o)) then 7 else 1
       u.obj (0x310002 + o) = result ∧
       (absent = false → u.obj (0x33000E + o) = (if idGood first then s.obj (0x33000E + o)
         else min (2 ^ 32 - 1) (s.obj (0x33000E + o) + if idGood second then 1 else 2))) ∧
       (result = 1 → t.health.crcBad = true ∨ .double ∈ t.health.finds → u.bit (0x380008 + o) 5 = true ∧ findKey u.mram.health n.val = none) ∧
       (result = 1 → t.health.finds = [.single] → counted s u 0x5E0054) ∧
       (result = 1 → u.portState n.val = 1 ∧ u.obj (0x310003 + o) = read.rom % 2 ^ 64 ∧
         u.obj (0x310004 + o) = read.mem % 2 ^ 32) ∧
       (result ≠ 1 → u.portState n.val = 0 ∧ u.obj (0x300001 + o) = 0 ∧ u.bit (0x310009 + o) 6 = true ∧
         u.obj (0x33000F + o) = min (2 ^ 32 - 1) (s.obj (0x33000F + o) + 1)))))

/-- PORT_DISABLE (R144) and SLOT_DESC_WRITE (R180): a write of 0 in DISABLED, STANDBY or FAULT turns the port off with no cycle; a write of the descriptor word sets cap and READY of its slot.
LOAD_START and LOAD_END (R106, R146, R158, R161): when the load of a cycle is due, no earlier than the load time and the load margin before a predicted first event and after the latch transfer before it, of a cycle that no reason blanks, whose slot words hold no uncorrectable error, the port becomes ACTIVE, its load starts, and the slot of every participating column is released; the load ends after the load time, and a group over its cap cancels the cycle with reason CAP_FAULT. -/
def Obligations.SlotsAreReadiedAndLoaded : Prop :=
  ((∀ (via : Via) (n : Fin 16) (t : Nat) (s : State),
    reaches via s (0x300001 + n.val * 0x100) = true → s.engineState ≤ 1 ∨ s.engineState = 6 → s.portState n.val ≠ 0 →
    ∃ u, exec (.portDisable via n t) s = .next u ∧
      u.portState n.val = 0 ∧ u.obj (0x300001 + n.val * 0x100) = 0 ∧
      (u.port.get n).cur = none ∧ (u.port.get n).next = none ∧ (u.port.get n).windup = none) ∧
  (∀ (n : Fin 16) (k : Fin 8) (dep : Fin 16) (cap : Nat) (ready : Bool) (t : Nat) (s : State),
    s.gated (0x300000 + n.val * 0x100) = false →
    ∃ u, exec (.slotDescWrite n k dep cap ready t) s = .next u ∧
      (u.slot n k.val dep.val).cap = cap % 2 ^ 13 ∧ (u.slot n k.val dep.val).ready = ready ∧
      (u.slot n k.val dep.val).readyAt = u.clk ∧
      (u.slot n k.val dep.val).line = (s.slot n k.val dep.val).line)) ∧
  ((∀ (n : Fin 16) (finds : List (Nat × Bool)) (t : Nat) (s : State) (c : Cycle),
    s.timing = true → 3 ≤ s.engineState → s.engineState ≤ 5 → (s.tick t).loadDue n = true → (∀ f ∈ finds, f.2 = false) →
    (s.port.get n).next = some c → c.loadAt = none → c.released = false → s.firstReason n c = 0 → s.sram.bad = [] →
    ∃ u, exec (.loadStart n ⟨finds, t⟩) s = .next u ∧
      u.portState n.val = 2 ∧
      (∃ d, (u.port.get n).next = some d ∧ d.m = c.m ∧ d.loadAt = some u.clk ∧
        (u.port.get n).chain = chainBits (s.record n) d.data) ∧
      ∀ k : Fin 8, c.part.testBit k.val = true → (u.slot n k.val (s.lineOf n c.m k.val % 16)).ready = false) ∧
  (∀ (n : Fin 16) (t a : Nat) (s : State) (c : Cycle),
    s.timing = true → 3 ≤ s.engineState → s.engineState ≤ 5 →
    (s.port.get n).next = some c → c.loadAt = some a → c.loaded = false → a + s.loadTime n / 2 ≤ t →
    ∃ u, exec (.loadEnd n t) s = .next u ∧
      (s.overCap n c = false → (u.port.get n).next = some { c with loaded := true }) ∧
      (s.overCap n c = true → (s.port.get n).errors + 1 ≤ s.obj (0x300007 + n.val * 0x100) →
        (u.port.get n).next = some { c with loaded := true, blank := 7 } ∧
        u.bit (0x310009 + n.val * 0x100) 2 = true ∧
        u.obj (0x330009 + n.val * 0x100) = min (2 ^ 32 - 1) (s.obj (0x330009 + n.val * 0x100) + 1))))

/-- LATCH_TRANSFER, STROBE and CYCLE_END (R97, R153, R154, R172): the head takes chain and header; the front group slot issues its pulse, 120 ns after the transfer at the earliest, and holds the port for the strobe width plus the gap; and once no event, slot or pulse is left the cycle ends and a conversion starts.
HEADER_ONLY_FRAME and FLUSH_FRAME (R152, R165, R182): a header-only frame steps DIE_SEL and leaves chain and latches alone; an owed flush leaves zeros in both.
ECHO_VERDICT (R162 to R164, R166, R167): an echo that agrees with the folded bits kept changes no count; one that disagrees sets ECHO, names its cycle and is counted, and past the error budget the port is PORT_FAULTED. -/
def Obligations.CycleStrobesEchoesAndEnds : Prop :=
  ((∀ (n : Fin 16) (t : Nat) (s : State) (c : Cycle),
    s.timing = true → s.portState n.val ≠ 4 → (s.port.get n).cur = some c → c.latchAt = none →
    ∃ u, exec (.latchTransfer n t) s = .next u ∧
      (u.port.get n).latches = (s.port.get n).chain ∧ (u.port.get n).active = (s.port.get n).header ∧
      (u.port.get n).dirty = true ∧ (u.port.get n).ldAt = some u.clk ∧
      (u.port.get n).cur = some { c with latchAt := some u.clk }) ∧
  (∀ (n : Fin 16) (k i a t : Nat) (s : State) (c : Cycle) (rest : List (Nat × Nat)),
    s.timing = true → s.engineState ≠ 6 → (s.port.get n).cur = some c → c.latchAt = some a → a + 60 ≤ t →
    (s.port.get n).queue = (k, i) :: rest → (s.port.get n).slotEnd ≤ t →
    ∃ u, exec (.strobe n t) s = .next u ∧
      (u.port.get n).queue = rest ∧ (u.port.get n).slotEnd = u.clk + (c.width + c.gap) / 2 ∧ (u.port.get n).pulseCol = k ∧
      ∃ d, (u.port.get n).cur = some d ∧ d.m = c.m ∧
        storeGet (fun _ => 0) d.pulses k = storeGet (fun _ => 0) c.pulses k + 1) ∧
  (∀ (n : Fin 16) (t : Nat) (s : State) (c : Cycle),
    s.timing = true → (s.port.get n).cur = some c → c.events = [] → (s.port.get n).queue = [] → (s.port.get n).slotEnd ≤ t →
    ∃ u, exec (.cycleEnd n t) s = .next u ∧
      (u.port.get n).cur = none ∧ u.obj (0x31000A + n.val * 0x100) = c.m ∧ (u.port.get n).tsAt = some u.clk ∧
      u.obj (0x330001 + n.val * 0x100) = min (2 ^ 32 - 1) (s.obj (0x330001 + n.val * 0x100) + 1))) ∧
  ((∀ (n : Fin 16) (t : Nat) (s : State),
    s.timing = true → 1 ≤ s.portState n.val → s.portState n.val ≤ 4 → (s.port.get n).frameAt + 50000 ≤ t →
    ∃ u, exec (.headerOnlyFrame n t) s = .next u ∧
      (u.port.get n).frameAt = u.clk ∧ (u.port.get n).chain = (s.port.get n).chain ∧
      (u.port.get n).latches = (s.port.get n).latches ∧
      (u.port.get n).die = (if s.dies n ≤ 1 then 0 else ((s.port.get n).die + 1) % s.dies n)) ∧
  (∀ (n : Fin 16) (t : Nat) (s : State),
    s.timing = true → (s.port.get n).flushDue = true → (s.port.get n).cur = none → s.clocks.safeLow = false →
    s.portState n.val ≠ 4 → (s.port.get n).pulseEnd ≤ t →
    ∃ u, exec (.flushFrame n t) s = .next u ∧
      (u.port.get n).chain = 0 ∧ (u.port.get n).latches = 0 ∧ (u.port.get n).dirty = false ∧
      (u.port.get n).flushDue = false)) ∧
  ((∀ (n : Fin 16) (bits t : Nat) (s : State),
    s.timing = true → (s.port.get n).echoDue ≠ [] → (s.port.get n).frameEnd + 16 ≤ t →
    echoBad (s.port.get n).echoDue bits = [] →
    ∃ u, exec (.echoVerdict n bits t) s = .next u ∧
      (u.port.get n).echoDue = [] ∧ u.obj (0x330008 + n.val * 0x100) = s.obj (0x330008 + n.val * 0x100) ∧
      (u.port.get n).errors = (s.port.get n).errors) ∧
  (∀ (n : Fin 16) (bits t : Nat) (s : State),
    s.timing = true → 1 ≤ s.portState n.val → s.portState n.val < 4 → (s.port.get n).frameEnd + 16 ≤ t →
    echoBad (s.port.get n).echoDue bits ≠ [] →
    ∃ u, exec (.echoVerdict n bits t) s = .next u ∧
      u.obj (0x330008 + n.val * 0x100) = min (2 ^ 32 - 1) (s.obj (0x330008 + n.val * 0x100) + 1) ∧
      u.bit (0x310009 + n.val * 0x100) 1 = true ∧ u.obj (0x31000B + n.val * 0x100) = foldCycle (echoBad (s.port.get n).echoDue bits) ∧
      ((s.port.get n).errors + 1 ≤ s.obj (0x300007 + n.val * 0x100) → (u.port.get n).errors = (s.port.get n).errors + 1) ∧
      (s.obj (0x300007 + n.val * 0x100) < (s.port.get n).errors + 1 → u.portState n.val = 4)))

/-- WINDUP_START, WINDUP_SHOT, FLUSH_FRAME and WINDUP_STOP (R165, R168 to R170): a start within the conditions, with no uncorrectable error in the data, puts the port into WINDUP with its shots; each shot, its interval after the one before, loads and latches the data and is counted; after the last shot the flush ends the Wind-up with its result; a stop leaves the shot whose load has started as the last one, with result 3, and where none is in progress no shot at all. -/
def Obligations.WindupRunsItsShots : Prop :=
  (∀ (via : Via) (n : Fin 16) (finds : List (Nat × Bool)) (t : Nat) (s : State), (∀ f ∈ finds, f.2 = false) →
    reachesPdo via s (0x300015 + n.val * 0x100) = true → s.engineState = 1 ∨ s.engineState = 5 → s.portState n.val = 1 →
    (s.port.get n).cur = none → ((s.port.get n).next.all fun c => c.loadAt.isNone) = true → s.sram.bad = [] → s.windupLimits n = true →
    (let bits := recCols (s.record n) * recNoz (s.record n)
     popCount (8 * ((bits + 7) / 8)) (leNat (s.sramRead (s.obj (0x300010 + n.val * 0x100)) ((bits + 7) / 8)).1 % 2 ^ bits) ≤ 512) →
    ∃ u, exec (.windupStart via n ⟨finds, t⟩) s = .next u ∧
      u.portState n.val = 3 ∧ u.obj (0x31000E + n.val * 0x100) = 1 ∧
      ∃ w, (u.port.get n).windup = some w ∧ w.shots = s.obj (0x300013 + n.val * 0x100) ∧ w.due = u.clk + s.windupLoad n ∧ w.ending = 2) ∧
  (∀ (n : Fin 16) (t : Nat) (s : State) (w : Windup),
    s.timing = true → (s.port.get n).windup = some w → s.portState n.val = 3 → w.shots ≠ 0 → w.due ≤ t →
    s.bit (0x34001A + n.val * 0x100) 3 = false →
    ∃ u, exec (.windupShot n t) s = .next u ∧
      u.obj (0x33000A + n.val * 0x100) = min (2 ^ 32 - 1) (s.obj (0x33000A + n.val * 0x100) + 1) ∧
      (u.port.get n).latches = w.data ∧
      (u.bit (0x34001A + n.val * 0x100) 3 = false →
        (w.shots = 1 → (u.port.get n).flushDue = true ∧ ∃ x, (u.port.get n).windup = some x ∧ x.shots = 0 ∧ x.ending = w.ending) ∧
        (1 < w.shots → (u.port.get n).windup =
          some { w with shots := w.shots - 1, due := u.clk + s.obj (0x300014 + n.val * 0x100) * 500 }))) ∧
  (∀ (n : Fin 16) (t : Nat) (s : State) (w : Windup),
    s.timing = true → (s.port.get n).windup = some w → w.shots = 0 → (s.port.get n).flushDue = true → (s.port.get n).cur = none →
    s.clocks.safeLow = false → s.portState n.val = 3 → (s.port.get n).pulseEnd ≤ t →
    ∃ u, exec (.flushFrame n t) s = .next u ∧
      (u.port.get n).windup = none ∧ u.portState n.val = 1 ∧ u.obj (0x31000E + n.val * 0x100) = w.ending ∧
      u.bit (0x310009 + n.val * 0x100) 4 = true ∧ (u.port.get n).flushDue = false) ∧
  (∀ (via : Via) (n : Fin 16) (t : Nat) (s : State) (w : Windup),
    reachesPdo via s (0x300015 + n.val * 0x100) = true → (s.port.get n).windup = some w →
    ∃ u, exec (.windupStop via n t) s = .next u ∧
      (if w.shots ≠ 0 ∧ w.due ≤ u.clk + s.windupLoad n then (u.port.get n).windup = some { w with shots := 1, ending := 3 }
       else (u.port.get n).windup = some { w with shots := 0, ending := 3 } ∧ (u.port.get n).flushDue = true))

/-- TS_CONVERSION_DONE (R172, R183, R184, R187): a sample of the die that the frames select is discarded and counted where the sense input had not settled; a valid one is the die's measured temperature and pulls the model towards it by SENSE_ALPHA / 256.
THERMAL_IDLE_TICK and MODEL_INIT_TIMEOUT (R172, R186, R189): while no cycle runs, a conversion starts and every die that has a model takes the energy of cycles stopped since its last update and cools towards the reference with its thermal resistance and capacity; 1 ms after the enable, a die without a model takes the reference temperature.
TTL_UPDATE (R190): of every die of an enabled port, the time to limit is 0 at the limit or with a lost sensor, never where the mean power of the last 16 ms settles at or below it, and the port's is the smallest.
LIMIT_CLEAR (R195): accepted only with every die below T_WARN and no sensor lost. -/
def Obligations.DieModelFollowsSamples : Prop :=
  (∀ (n : Fin 16) (code t a : Nat) (s : State),
    s.timing = true → s.portOn n = true → (s.port.get n).tsAt = some a →
    ∃ u, exec (.tsConversionDone n code t) s = .next u ∧
      (let r := s.record n
       let p := s.port.get n
       let c := code % 4096
       let late := a < p.dieAt + rb r 0x44 * 500
       let meas : Rat := 25 + sq 16 12 (leAt r 0x40 2) * ((c : Int) - (leAt r 0x42 2 : Int) : Int) +
         sq 16 8 (s.obj (0x340005 + n.val * 0x100 + p.die))
       (u.port.get n).tsSeq = (p.tsSeq + 1) % 2 ^ 16 ∧ (u.port.get n).tsCode = c ∧ (u.port.get n).tsDie = p.die ∧
       (late → counted s u (0x340023 + n.val * 0x100) ∧ (u.port.get n).model = p.model ∧ (u.port.get n).meas = p.meas) ∧
       (¬late → 15 < c → c < 4080 →
         findKey (u.port.get n).meas p.die = some meas ∧
         findKey (u.port.get n).model p.die =
           some (match findKey p.model p.die with
             | some m => m + (rb r 0x45 : Rat) / 256 * (meas - m)
             | none => meas)) ∧
       (¬late → c ≤ 15 ∨ 4080 ≤ c → findKey (u.port.get n).model p.die = findKey p.model p.die ∧
         findKey (u.port.get n).meas p.die = findKey p.meas p.die))) ∧
  ((∀ (n : Fin 16) (t : Nat) (s : State),
    s.timing = true → s.portOn n = true → (s.port.get n).cur = none →
    ∃ u, exec (.thermalIdleTick n t) s = .next u ∧ (u.port.get n).tsAt = some u.clk ∧
      ∀ (d : Nat) (m : Rat) (a : Nat), d < s.dies n → findKey (s.port.get n).model d = some m →
        findKey (s.port.get n).modelAt d = some a →
        findKey (u.port.get n).model d =
          some (m + (storeGet (fun _ => 0) (s.port.get n).heat d - (m - (s.refTemp n).1) / uq 8 (leAt (s.record n) 0x4C 2) * ((2 * (u.clk - a) : Nat) : Rat)) /
            ((leAt (s.record n) 0x4E 2 * 1000000 : Nat) : Rat)) ∧
        findKey (u.port.get n).modelAt d = some u.clk) ∧
  (∀ (n : Fin 16) (t : Nat) (s : State),
    s.timing = true → s.portOn n = true → s.modelUnset n = true → (s.port.get n).enabledAt + 500000 ≤ t →
    ∃ u, exec (.modelInitTimeout n t) s = .next u ∧
      ∀ d, d < s.dies n →
        findKey (u.port.get n).model d =
          some (match findKey (s.port.get n).model d with
            | some m => m
            | none => (s.refTemp n).1))) ∧
  ((∀ (t : Nat) (n : Fin 16) (s : State),
    s.timing = true → s.portOn n = true →
    ∃ u, exec (.ttlUpdate t) s = .next u ∧
      (∀ d, d < s.dies n →
        (let lim := s.thermalField n 0x56
         let settles := (s.refTemp n).1 + (s.tick t).recentEnergy n d / 16000000 * uq 8 (leAt (s.record n) 0x4C 2)
         let ttl := u.obj (0x340012 + n.val * 0x100 + d)
         ((s.port.get n).senseFault.testBit d = true → ttl = 0) ∧
         ((s.port.get n).senseFault.testBit d = false → ∀ T, s.dieTemp n d = some T →
           (lim ≤ T → ttl = 0) ∧ (T < lim → settles ≤ lim → ttl = 0xFFFFFFFF) ∧
           (T < lim → lim < settles → ttl ≠ 0xFFFFFFFF)))) ∧
      (∀ d, d < s.dies n → u.obj (0x340009 + n.val * 0x100) ≤ u.obj (0x340012 + n.val * 0x100 + d))) ∧
  (∀ (via : Via) (n : Fin 16) (s : State),
    reachesPdo via s (0x34001C + n.val * 0x100) = true → (∀ T ∈ s.dieTemps n, T < s.thermalField n 0x54) →
    (s.port.get n).senseFault = 0 →
    ∃ u, exec (.limitClear via n) s = .next u ∧ u.bit (0x34001A + n.val * 0x100) 3 = false) ∧
  (∀ (via : Via) (n : Fin 16) (s : State),
    reaches via s (0x34001C + n.val * 0x100) = true →
    (∃ T ∈ s.dieTemps n, s.thermalField n 0x54 ≤ T) ∨ (s.port.get n).senseFault ≠ 0 →
    ∃ u, exec (.limitClear via n) s = .next u ∧
      u.obj (0x34001A + n.val * 0x100) = s.obj (0x34001A + n.val * 0x100) ∧ refused via u 0x08000022))

/-- NTC_CONVERSION and PID_UPDATE (R196, R197, R199): the last 8 codes give the temperature by the beta equation; the third code in a row of an open or shorted sensor puts the channel into SENSOR_FAULT with mode and duty 0; in mode 1 the duty is the PID sum limited to 0 and the maximum duty, rounded to its unit of 1/65,536 (log entry 132), a period whose sum lies beyond them is counted, and the integral holds while the sum is beyond its limits in the direction of the error.
HEATER_MODE_WRITE (R197, R199, R202): a mode is taken where the channel is in no fault, and one in force already changes nothing; mode 2 drives the manual duty up to the maximum; modes 1 and 2 are refused in CUT and in SENSOR_FAULT, which mode 0 leaves once the latest three codes are sound, and not before. -/
def Obligations.HeaterMeasuresAndTakesMode : Prop :=
  ((∀ (h : Fin 4) (code t : Nat) (s : State),
    s.timing = true → s.gated 0x490000 = false →
    ∃ u, exec (.ntcConversion h code t) s = .next u ∧
      (let o := h.val * 0x100
       let c := code % 4096
       let p := s.heater.get h
       let codes := (c :: p.codes).take 8
       let avg : Rat := (codes.sum : Rat) / ((max 1 codes.length : Nat) : Rat)
       let broken := 4050 ≤ c ∨ c ≤ 40
       (u.heater.get h).codes = codes ∧
       (avg ≠ 0 → (u.heater.get h).temp = some (1 / (100 / 29815 +
         lnQ (10000 * avg / (4096 - avg) / (s.obj (0x49000A + o) : Rat)) / (s.obj (0x49000B + o) : Rat)) - 27315 / 100)) ∧
       (broken → 2 ≤ p.bad → s.obj (0x49000F + o) ≠ 4 →
         u.obj (0x49000F + o) = 4 ∧ u.obj (0x490001 + o) = 0 ∧ u.obj (0x49000E + o) = 0 ∧ counted s u (0x490021 + o) ∧
         u.bit (0x490010 + o) (if 4050 ≤ c then 1 else 2) = true) ∧
       (¬broken ∨ p.bad < 2 → u.obj (0x49000F + o) = s.obj (0x49000F + o) ∧ u.obj (0x490001 + o) = s.obj (0x490001 + o) ∧
         u.obj (0x49000E + o) = s.obj (0x49000E + o) ∧ u.obj (0x490021 + o) = s.obj (0x490021 + o)))) ∧
  (∀ (h : Fin 4) (t : Nat) (s : State) (temp : Rat),
    s.timing = true → s.gated 0x490000 = false → s.obj (0x49000F + h.val * 0x100) = 1 → (s.heater.get h).temp = some temp →
    ∃ u, exec (.pidUpdate h t) s = .next u ∧
      (let o := h.val * 0x100
       let p := s.heater.get h
       let dt : Rat := (s.obj (0x490009 + o) : Rat) / 1000
       let top := uq 16 (s.obj (0x490005 + o))
       let e := sq 16 8 (s.obj (0x490002 + o)) - temp
       let x := uq 16 (s.obj (0x490006 + o)) * e + p.integral - uq 16 (s.obj (0x490008 + o)) * (temp - p.prev.getD temp) / dt
       (u.heater.get h).prev = some temp ∧
       ((top < x ∧ 0 < e) ∨ (x < 0 ∧ e < 0) → (u.heater.get h).integral = p.integral) ∧
       (¬((top < x ∧ 0 < e) ∨ (x < 0 ∧ e < 0)) →
         (u.heater.get h).integral = clampQ 0 top (p.integral + uq 16 (s.obj (0x490007 + o)) * e * dt)) ∧
       (x < 0 → u.obj (0x49000E + o) = 0) ∧ (top < x → u.obj (0x49000E + o) = s.obj (0x490005 + o)) ∧
       (x < 0 ∨ top < x → counted s u (0x490022 + o) ∧ u.bit (0x490010 + o) 3 = true) ∧
       (0 ≤ x → x ≤ top → u.obj (0x490022 + o) = s.obj (0x490022 + o) ∧
         u.obj (0x49000E + o) = min (s.obj (0x490005 + o)) (roundQ 16 x).toNat)))) ∧
  ((∀ (via : Via) (h : Fin 4) (mode : Nat) (s : State),
    reachesPdo via s (0x490001 + h.val * 0x100) = true → mode ≤ 2 →
    s.obj (0x49000F + h.val * 0x100) ≠ 3 → s.obj (0x49000F + h.val * 0x100) ≠ 4 →
    ∃ u, exec (.heaterModeWrite via h mode) s = .next u ∧
      u.obj (0x490001 + h.val * 0x100) = mode ∧
      (s.obj (0x490001 + h.val * 0x100) ≠ mode →
        u.obj (0x49000F + h.val * 0x100) = mode ∧ (u.heater.get h).integral = 0 ∧
        u.obj (0x49000E + h.val * 0x100) =
          (if mode = 2 then min (s.obj (0x490004 + h.val * 0x100)) (s.obj (0x490005 + h.val * 0x100)) else 0)) ∧
      (s.obj (0x490001 + h.val * 0x100) = mode →
        u.heater = s.heater ∧ u.obj (0x49000F + h.val * 0x100) = s.obj (0x49000F + h.val * 0x100) ∧
        u.obj (0x49000E + h.val * 0x100) = s.obj (0x49000E + h.val * 0x100))) ∧
  (∀ (via : Via) (h : Fin 4) (mode : Nat) (s : State),
    reaches via s (0x490001 + h.val * 0x100) = true → mode = 1 ∨ mode = 2 →
    s.obj (0x49000F + h.val * 0x100) = 3 ∨ s.obj (0x49000F + h.val * 0x100) = 4 →
    ∃ u, exec (.heaterModeWrite via h mode) s = .next u ∧
      u.obj (0x490001 + h.val * 0x100) = s.obj (0x490001 + h.val * 0x100) ∧
      u.obj (0x49000F + h.val * 0x100) = s.obj (0x49000F + h.val * 0x100) ∧ refused via u 0x08000022) ∧
  (∀ (via : Via) (h : Fin 4) (s : State),
    reachesPdo via s (0x490001 + h.val * 0x100) = true → s.obj (0x49000F + h.val * 0x100) = 4 →
    ∃ u, exec (.heaterModeWrite via h 0) s = .next u ∧
      u.obj (0x49000F + h.val * 0x100) =
        (if 3 ≤ (s.heater.get h).codes.length ∧ ((s.heater.get h).codes.take 3).all (fun c => 41 ≤ c && c ≤ 4049) = true then 0
         else 4)))

/-- HEATER_CUT, CUT_COMPARATOR_RELEASE and CUT_CLEAR (R200, R201): the tripped comparator puts the channel into CUT with its output low; a clear is refused while it is tripped, and leaves the channel OFF afterwards.
NTC_CONVERSION, PID_UPDATE and HEATER_MODE_WRITE (R199 to R203): each completes in every state of its channel, none trips or releases the comparator or changes the engine state, a mode write does not leave CUT, and PID_UPDATE drives no output of a channel that is not in mode 1. -/
def Obligations.HeaterCutHoldsUntilCleared : Prop :=
  (∀ (h : Fin 4) (t : Nat) (s : State),
    ∃ u, exec (.heaterCut h t) s = .next u ∧
      (u.heater.get h).tripped = true ∧ u.obj (0x49000F + h.val * 0x100) = 3 ∧
      (s.obj (0x49000F + h.val * 0x100) ≠ 3 →
        u.obj (0x49000E + h.val * 0x100) = 0 ∧ u.bit (0x490010 + h.val * 0x100) 0 = true ∧ counted s u (0x490020 + h.val * 0x100)) ∧
      (s.obj (0x49000F + h.val * 0x100) = 3 → u.obj (0x490020 + h.val * 0x100) = s.obj (0x490020 + h.val * 0x100)) ∧
      u.obj 0x5F1006 = s.obj 0x5F1006) ∧
  (∀ (h : Fin 4) (s : State),
    ∃ u, exec (.cutComparatorRelease h) s = .next u ∧
      (u.heater.get h).tripped = false ∧ u.obj (0x49000F + h.val * 0x100) = s.obj (0x49000F + h.val * 0x100)) ∧
  (∀ (via : Via) (h : Fin 4) (s : State),
    reachesPdo via s (0x490011 + h.val * 0x100) = true → (s.heater.get h).tripped = true →
    ∃ u, exec (.cutClear via h) s = .next u ∧
      u.obj (0x49000F + h.val * 0x100) = s.obj (0x49000F + h.val * 0x100) ∧ (via ≠ .pdo → refused via u 0x08000022)) ∧
  (∀ (via : Via) (h : Fin 4) (s : State),
    reachesPdo via s (0x490011 + h.val * 0x100) = true → (s.heater.get h).tripped = false →
    s.obj (0x49000F + h.val * 0x100) = 3 →
    ∃ u, exec (.cutClear via h) s = .next u ∧
      u.obj (0x49000F + h.val * 0x100) = 0 ∧ u.obj (0x490001 + h.val * 0x100) = 0 ∧ u.obj (0x49000E + h.val * 0x100) = 0) ∧
  ((∀ (h : Fin 4) (code t : Nat) (s : State),
    ∃ u, exec (.ntcConversion h code t) s = .next u ∧
      (u.heater.get h).tripped = (s.heater.get h).tripped ∧ u.obj 0x5F1006 = s.obj 0x5F1006) ∧
  (∀ (h : Fin 4) (t : Nat) (s : State),
    ∃ u, exec (.pidUpdate h t) s = .next u ∧
      (u.heater.get h).tripped = (s.heater.get h).tripped ∧ u.obj (0x49000F + h.val * 0x100) = s.obj (0x49000F + h.val * 0x100) ∧
      (s.obj (0x49000F + h.val * 0x100) ≠ 1 → u.obj (0x49000E + h.val * 0x100) = s.obj (0x49000E + h.val * 0x100)) ∧
      u.obj 0x5F1006 = s.obj 0x5F1006) ∧
  (∀ (via : Via) (h : Fin 4) (mode : Nat) (s : State),
    ∃ u, exec (.heaterModeWrite via h mode) s = .next u ∧
      (u.heater.get h).tripped = (s.heater.get h).tripped ∧
      (s.obj (0x49000F + h.val * 0x100) = 3 → u.obj (0x49000F + h.val * 0x100) = 3) ∧
      u.obj 0x5F1006 = s.obj 0x5F1006))

/-- LINK_ENABLE, LINK_SIGNAL_EVENT and LINK_UP (R212, R213): an enabled link with its addresses waits for a signal, a written 0 turns it OFF, and lock held for 1 ms makes it UP; leaving UP sets LINK_DOWN and is counted, and the engine state stays.
FRAME_RECEIVED, ARP_REQUEST and STATUS_REQUEST (R212, R214, R215, R229): a frame that passes every check is taken as its packet; one that fails only its FCS, or only its UDP checksum, has a counter of its own, and any other that is no ARP request counts as other; a request for the link's address is answered to its sender, and a status request at once with a STATUS packet. -/
def Obligations.LinksMoveAndFramesAreCounted : Prop :=
  ((∀ (via : Via) (l : Fin 2) (t : Nat) (s : State),
    reaches via s (0x250001 + l.val) = true →
    ∃ u, exec (.linkEnable via l 0 t) s = .next u ∧ u.linkState l = 0 ∧ u.obj (0x250001 + l.val) = 0) ∧
  (∀ (via : Via) (l : Fin 2) (t : Nat) (s : State),
    reaches via s (0x250001 + l.val) = true → s.obj (0x250004 + l.val) ≠ 0 → s.obj (0x250006 + l.val) ≠ 0 →
    ∃ u, exec (.linkEnable via l 1 t) s = .next u ∧ u.obj (0x250001 + l.val) = 1 ∧
      u.linkState l = (if s.linkState l = 0 then 1 else s.linkState l)) ∧
  (∀ (via : Via) (l : Fin 2) (t : Nat) (s : State),
    reaches via s (0x250001 + l.val) = true → s.obj (0x250004 + l.val) = 0 ∨ s.obj (0x250006 + l.val) = 0 →
    ∃ u, exec (.linkEnable via l 1 t) s = .next u ∧ u.linkState l = s.linkState l ∧
      u.obj (0x250001 + l.val) = s.obj (0x250001 + l.val) ∧ u.bit 0x25003C 10 = true ∧ refused via u 0x06090030) ∧
  (∀ (l : Fin 2) (e : PcsEvent) (t : Nat) (s : State),
    s.timing = true → ∃ u, exec (.linkSignalEvent l e t) s = .next u ∧ u.obj 0x5F1006 = s.obj 0x5F1006 ∧
      (e = .signalLost → s.linkState l ≠ 0 → u.linkState l = 1) ∧
      (e = .lockLost ∨ e = .hiBer → s.linkState l = 3 → u.linkState l = 2) ∧
      (e = .clockRecovered → s.linkState l = 1 → u.linkState l = 2) ∧
      (s.linkState l = 0 → u.linkState l = 0) ∧
      (e ≠ .clockRecovered → s.linkState l = 3 →
        u.bit 0x25003C l.val = true ∧ counted s u (0x250050 + l.val))) ∧
  (∀ (l : Fin 2) (t : Nat) (s : State),
    s.timing = true → s.linkState l = 2 → ∃ u, exec (.linkUp l t) s = .next u ∧ u.linkState l = 3)) ∧
  ((∀ (l : Fin 2) (f : Bytes) (fcsOk wrErr : Bool) (t : Nat) (s : State),
    s.timing = true → s.linkState l = 3 →
    ∃ u, exec (.frameReceived l f fcsOk wrErr t) s = .next u ∧
      (let right := krtHeaders (s.obj (0x250004 + l.val)) (s.obj (0x250006 + l.val)) (s.obj 0x250008) f
       let d := datagramOf f
       (right = true → udpSumOk f = true → fcsOk = true →
         exec (.tilePacket l d.mac d.ip d.port d.payload wrErr t) s = .next u) ∧
       (right = true → udpSumOk f = true → fcsOk = false → counted s u (0x25004E + l.val)) ∧
       (right = true → udpSumOk f = false → fcsOk = true → counted s u 0x25004C) ∧
       (right = false → arpRequest f = none → counted s u 0x25004B))) ∧
  (∀ (l : Fin 2) (f : Bytes) (fcsOk wrErr : Bool) (t : Nat) (s : State),
    s.linkState l ≠ 3 →
    ∃ u, exec (.frameReceived l f fcsOk wrErr t) s = .next u ∧ u.ingest = s.ingest ∧
      ∀ i, i < 18 → u.obj (0x250040 + i) = s.obj (0x250040 + i)) ∧
  (∀ (l : Fin 2) (dst target mac ip t : Nat) (s : State),
    s.timing = true → s.linkState l = 3 →
    ∃ u, exec (.arpRequest l dst target mac ip t) s = .next u ∧
      (let mine := (dst = s.obj (0x250004 + l.val) ∨ dst = 0xFFFFFFFFFFFF) ∧ target = s.obj (0x250006 + l.val)
       (mine → (u.ingest.link.get l).sent = some (.arp mac ip) ∧ u.obj 0x25004B = s.obj 0x25004B) ∧
       (¬mine → (u.ingest.link.get l).sent = (s.ingest.link.get l).sent ∧ counted s u 0x25004B))) ∧
  (∀ (l : Fin 2) (mac ip port t : Nat) (s : State),
    s.timing = true → s.linkState l = 3 →
    ∃ u, exec (.statusRequest l mac ip port t) s = .next u ∧
      (u.ingest.link.get l).peer = some (mac, ip, port) ∧
      (∃ p, (u.ingest.link.get l).sent = some (.udp mac ip port p) ∧ p.length = 64 ∧ leAt p 0 4 = 0x8101544B ∧
        leAt p 4 2 = s.obj 0x250010 % 2 ^ 16 ∧ leAt p 7 1 = s.engineState % 256 ∧ leAt p 0xC 4 = s.freeRow % 2 ^ 32 ∧
        leAt p 0x10 4 = s.limitRow) ∧
      (u.ingest.link.get l).statusSeq = ((s.ingest.link.get l).statusSeq + 1) % 2 ^ 32))

/-- TILE_PACKET (R218, R221, R236, R237, R485, R693): the first step of R693 that applies decides the one counter; a fragment that passes them all, while no throttle holds INGEST back, enters its tile's context, the smallest free one for a new tile, and the bytes of a raw tile stand at its place in the store.
TILE_COMPLETE and FRAGMENT_TIMEOUT (R222, R223): a tile whose raw data has the CRC of its packets becomes present and is counted; another CRC, or a KTC stream that does not decode, discards it with its own counter; a context that lacks bytes at the fragment timeout is discarded and counted. -/
def Obligations.TilesAreJudgedAndChecked : Prop :=
  (∀ (l : Fin 2) (mac ip port : Nat) (p : Bytes) (wrErr : Bool) (t : Nat) (s : State),
    s.timing = true → s.linkState l = 3 → isStatusRequest p = false →
    ∃ u, exec (.tilePacket l mac ip port p wrErr t) s = .next u ∧
      (let rep := krtRepeat p
       let g := krtSeq p
       (headerTrusted p = false → counted s u 0x250045 ∧ u.bit 0x25003C 4 = true) ∧
       (headerTrusted p = true →
         (leAt p 3 1 ≠ 1 → counted s u 0x250045) ∧
         (leAt p 3 1 = 1 →
           (rep = false → leAt p 4 2 ≠ s.obj 0x250010 → counted s u 0x250042) ∧
           (rep = true ∨ leAt p 4 2 = s.obj 0x250010 →
             (s.tilesAccepted rep = false → counted s u 0x25004D ∧ u.bit 0x25003C 8 = true) ∧
             (s.tilesAccepted rep = true →
               (s.badTile p = true → counted s u 0x250045 ∧ u.bit 0x25003C 4 = true) ∧
               (s.badTile p = false →
                 (rep = false → krtRow p < s.freeRow → counted s u 0x250042) ∧
                 (rep = false → s.freeRow ≤ krtRow p → s.limitRow < krtRow p → counted s u 0x250046 ∧ u.bit 0x25003C 5 = true) ∧
                 (rep = true ∨ (s.freeRow ≤ krtRow p ∧ krtRow p ≤ s.limitRow) →
                   (s.duplicate rep g = true → counted s u 0x250041) ∧
                   (s.duplicate rep g = false → (∀ ch : Fin 8, s.thermalOk (s.stack.chan.get ch) 1 = true) →
                     (∀ i c, s.contextOf rep g = some (i, c) →
                       ∃ d, u.contextOf rep g = some (i, d) ∧ d.got = c.got ++ [(krtOfs p, krtFrag p)] ∧ d.firstAt = c.firstAt) ∧
                     (∀ i, s.contextOf rep g = none → s.freeContext = some i →
                       (∃ d, u.contextOf rep g = some (i, d) ∧ d.got = [(krtOfs p, krtFrag p)] ∧ d.firstAt = u.clk) ∧
                       (krtCodec p = 0 → wrErr = false →
                        s.ingestHolds (s.tileAddr rep (krtRow p) (krtPlane p) (krtCol p) + krtOfs p) (p.drop 32).length = true →
                         (let a := s.tileAddr rep (krtRow p) (krtPlane p) (krtCol p) + krtOfs p
                          u.bytes a (krtFrag p) = p.drop 32 ∧
                          ∀ b, b < a ∨ a + krtFrag p ≤ b → u.byte b = s.byte b))) ∧
                     (∀ i c, s.contextOf rep g = none → s.freeContext = none → s.oldestContext = some (i, c) → i < 64 →
                       counted s u 0x250048 ∧ ∃ d, u.contextOf rep g = some (i, d))))))))))) ∧
  ((∀ (rep : Bool) (seq t i : Nat) (c : Context) (s : State),
    s.timing = true → s.contextOf rep seq = some (i, c) → c.full = true →
    ∃ u, exec (.tileComplete rep seq t) s = .next u ∧ findKey u.ingest.ctx i = none ∧
      (c.bad = true ∨ s.readOk (s.fragmentAddr i c) c.len = false → counted s u 0x250043 ∧ u.ingest.marks = s.ingest.marks ∧ u.ingest.rep = s.ingest.rep) ∧
      (c.bad = false → s.readOk (s.fragmentAddr i c) c.len = true →
        (s.tileData i c = none → counted s u 0x250044 ∧ u.bit 0x25003C 3 = true ∧
          u.ingest.marks = s.ingest.marks ∧ u.ingest.rep = s.ingest.rep) ∧
        (∀ raw, s.tileData i c = some raw →
          crc32c raw ≠ c.crc ∨ s.ingestHolds (s.tileAddr c.rep c.row c.plane c.col) raw.length = false → counted s u 0x250043 ∧ u.bit 0x25003C 2 = true ∧
          u.ingest.marks = s.ingest.marks ∧ u.ingest.rep = s.ingest.rep) ∧
        (∀ raw, s.tileData i c = some raw → crc32c raw = c.crc →
          s.ingestHolds (s.tileAddr c.rep c.row c.plane c.col) raw.length = true → counted s u 0x250040 ∧
          u.bytes (s.tileAddr rep c.row c.plane c.col) raw.length = raw ∧
          (rep = false → u.mark seq = some { lost := false, since := u.clk } ∧
            ∀ g, g ≠ seq → u.mark g = s.mark g) ∧
          (rep = true → u.repMarked seq = true ∧ u.ingest.marks = s.ingest.marks)))) ∧
  (∀ (rep : Bool) (seq t i : Nat) (c : Context) (s : State),
    s.timing = true → s.contextOf rep seq = some (i, c) → c.full = false → c.firstAt + s.obj 0x250018 * 500 ≤ t →
    ∃ u, exec (.fragmentTimeout rep seq t) s = .next u ∧
      findKey u.ingest.ctx i = none ∧ counted s u 0x250048 ∧ u.bit 0x25003C 6 = true ∧ u.ingest.marks = s.ingest.marks))

/-- NAK_TIMEOUT, NAK_INTERVAL_EXPIRY and NAK_SEND (R225 to R227, R240, R244): every sequence number found missing is answered by NAK; after each interval a NAK is repeated within the budget, for a tile of the repeat too, and after the budget a job tile is declared lost, its place recorded, and under tile-lost action 1 a printing engine holds; an open packet goes out 10 µs after its first entry. -/
def Obligations.MissingTilesAreAskedForThenLost : Prop :=
  (∀ (t : Nat) (s : State),
    s.timing = true → ∃ u, exec (.nakTimeout t) s = .next u ∧ u.ingest.marks = s.ingest.marks ∧
      ∀ g, s.freeRow * s.rowTiles ≤ g → (s.tick t).missing g = true → (findKey u.ingest.naks g).isSome = true) ∧
  (∀ (rep : Bool) (g t a : Nat) (r : NakRec) (s : State),
    s.timing = true → s.nakRec rep g = some r → r.sentAt = some a → s.settledTile rep g = false → a + s.obj 0x250016 * 500 ≤ t →
    ∃ u, exec (.nakIntervalExpiry rep g t) s = .next u ∧
      (s.obj 0x250017 ≤ r.count → rep = true → u.ingest = s.ingest) ∧
      (s.obj 0x250017 ≤ r.count → rep = false →
        counted s u 0x250049 ∧ u.bit 0x25003C 7 = true ∧
        (let w := s.tileOf g
         u.obj 0x25003B = w.1 + w.2.2 * 2 ^ 24 + w.2.1 * 2 ^ 29) ∧
        (s.obj 0x5F1009 = 0xFFFFFFFF →
          u.mark g = some { lost := true, since := u.clk } ∧
          u.engineState = (if s.obj 0x25001A = 1 ∧ 2 ≤ s.engineState ∧ s.engineState ≤ 4 then 5 else s.engineState))) ∧
      (r.count < s.obj 0x250017 → s.contextOf rep g = none →
        u.settledTile rep g = false ∧ ∃ q, u.nakRec rep g = some q ∧ q.count = r.count + 1)) ∧
  (∀ (l : Fin 2) (t mac ip port : Nat) (s : State),
    s.timing = true → (s.ingest.link.get l).peer = some (mac, ip, port) → (s.ingest.link.get l).nak ≠ [] →
    (s.ingest.link.get l).nakAt + 5000 ≤ t →
    ∃ u, exec (.nakSend l t) s = .next u ∧
      (u.ingest.link.get l).nak = [] ∧ (u.ingest.link.get l).nakSeq = ((s.ingest.link.get l).nakSeq + 1) % 2 ^ 32 ∧
      u.obj 0x250047 = min (2 ^ 32 - 1) (s.obj 0x250047 + (s.ingest.link.get l).nak.length) ∧
      ∃ p, (u.ingest.link.get l).sent = some (.udp mac ip port p) ∧
        p.length = 18 + 8 * (s.ingest.link.get l).nak.length ∧ leAt p 0 4 = 0x8201544B)

/-- STATUS_INTERVAL, JOB_ID_WRITE, STORE_CONFIG_WRITE, REPEAT_CONFIG_WRITE and ROW_RELEASE (R229, R235, R238, R245): every link that qualifies sends a STATUS packet; in DISABLED and STANDBY a write of the job or of a store's layout resets that store, and is refused elsewhere; a row that every column has passed is released. -/
def Obligations.StoresAreResetAndReleased : Prop :=
  (∀ (t : Nat) (s : State),
    s.timing = true → ∃ u, exec (.statusInterval t) s = .next u ∧
      ∀ l : Fin 2, (u.ingest.link.get l).statusSeq =
        if s.qualifies l then ((s.ingest.link.get l).statusSeq + 1) % 2 ^ 32 else (s.ingest.link.get l).statusSeq) ∧
  (∀ (via : Via) (v t : Nat) (s : State),
    reaches via s 0x250010 = true →
    ∃ u, exec (.jobIdWrite via v t) s = .next u ∧
      (1 < s.engineState → u.obj 0x250010 = s.obj 0x250010 ∧ u.ingest = s.ingest ∧ refused via u 0x08000022) ∧
      (s.engineState ≤ 1 → v ≤ 65535 →
        u.obj 0x250010 = v ∧ u.ingest.marks = [] ∧ u.ingest.ctx = [] ∧ u.freeRow = 0 ∧ u.ingest.rep = s.ingest.rep)) ∧
  (∀ (via : Via) (o : StoreObj) (v : Nat) (s : State),
    reaches via s (storeKey o) = true →
    ∃ u, exec (.storeConfigWrite via o v) s = .next u ∧
      (1 < s.engineState → u.obj (storeKey o) = s.obj (storeKey o) ∧ u.ingest = s.ingest ∧ refused via u 0x08000022) ∧
      (s.engineState ≤ 1 → s.storeRange (storeKey o) v = true →
        u.obj (storeKey o) = v ∧ u.ingest.marks = [] ∧ u.ingest.ctx = [] ∧ u.freeRow = 0 ∧
        (o = .inputMode ∨ o = .planeMask ∨ o = .apronEnable → u.ingest.rep = []))) ∧
  (∀ (via : Via) (o : RepeatObj) (v : Nat) (s : State),
    reaches via s (repeatKey o) = true →
    ∃ u, exec (.repeatConfigWrite via o v) s = .next u ∧
      (1 < s.engineState → u.obj (repeatKey o) = s.obj (repeatKey o) ∧ u.ingest = s.ingest ∧ refused via u 0x08000022) ∧
      (s.engineState ≤ 1 → s.storeRange (repeatKey o) v = true →
        u.obj (repeatKey o) = v ∧ u.ingest.rep = [] ∧ u.ingest.marks = s.ingest.marks) ∧
      (s.engineState ≤ 1 → o = .length → s.repSlots * 256 < v →
        u.obj (repeatKey o) = s.obj (repeatKey o) ∧ u.ingest = s.ingest ∧ refused via u 0x06090030)) ∧
  (∀ s : State,
    ∃ u, exec .rowRelease s = .next u ∧
      (s.rowDone = false → u.freeRow = s.freeRow ∧ u.ingest = s.ingest) ∧
      (s.rowDone = true → u.freeRow = (s.freeRow + 1) % 2 ^ 32 ∧
        ∀ g, u.mark g = if g < (s.freeRow + 1) * s.rowTiles then none else s.mark g))

/-- RENDER_LINE_START and RENDER_LINE_DONE (R270, R271, R273, R291, R292, R503): a line that the fire line has reached is skipped with its error row passed on, one whose fetch fails is skipped and lost, and one whose turn it is starts with its set and clamped walk shift; a finished line stands in its queue entry with VALID, or is lost where its queue write fails, and its error row becomes the port's. -/
def Obligations.RenderTakesLinesInOrder : Prop :=
  (∀ (n : Fin 16) (fetchErr : Bool) (t : Nat) (s : State),
    s.renderRuns = true → s.rendered n = true → (s.render.port.get n).busy = none → findKey s.render.handOver n.val = none →
    s.obj 0x5F1009 = 0xFFFFFFFF →
    ∃ u, exec (.renderLineStart n fetchErr t) s = .next u ∧
      (let j := s.renderLine n
       (s.behind n j = true →
         u.renderLine n = (j + 1) % 2 ^ 32 ∧ counted s u 0x240082 ∧ u.bit 0x240013 1 = true ∧
         (u.render.port.get n).row = (s.render.port.get n).row ∧ (u.render.port.get n).busy = none ∧
         (s.writeOk (s.queueDesc n j) 16 = true → u.num (s.queueDesc n j) 4 = j % 2 ^ 32 ∧ u.num (s.queueDesc n j + 9) 1 % 4 = 3)) ∧
       (s.behind n j = false → s.laneOf n ≠ 0xFF → s.canStart n = true → s.laneFree n = true →
         (fetchErr = true ∨ s.fetchOk n j = false →
           u.renderLine n = (j + 1) % 2 ^ 32 ∧ counted s u 0x240082 ∧ (u.jigsaw.get n).lost.contains j = true) ∧
         (fetchErr = false → s.fetchOk n j = true →
           u.renderLine n = j ∧ ∃ l, (u.render.port.get n).busy = some l ∧ l.line = j ∧ l.lane = s.laneOf n ∧
             l.setSeq = s.setSeqFor n j ∧ l.shift = clampI (-64) 64 (s.walkShift n j))))) ∧
  (∀ (n : Fin 16) (wrErr : Bool) (t : Nat) (l : RenderLine) (s : State),
    s.renderRuns = true → (s.render.port.get n).busy = some l → s.obj 0x5F1009 = 0xFFFFFFFF →
    ∃ u, exec (.renderLineDone n ⟨wrErr, t⟩) s = .next u ∧
      (u.render.port.get n).busy = none ∧ u.renderLine n = (l.line + 1) % 2 ^ 32 ∧
      (s.bitMode = false → (u.render.port.get n).row = l.row) ∧
      (s.bitMode = true → (u.render.port.get n).row = (s.render.port.get n).row) ∧
      (wrErr = true ∨ s.writeOk (s.queueBits n l.line) l.bits.length = false →
        (u.jigsaw.get n).lost.contains l.line = true ∧ (u.jigsaw.get n).unqueued.contains l.line = true) ∧
      (wrErr = false → s.writeOk (s.queueBits n l.line) l.bits.length = true → s.writeOk (s.queueDesc n l.line) 16 = true →
        u.num (s.queueDesc n l.line) 4 = l.line % 2 ^ 32 ∧ u.num (s.queueDesc n l.line + 9) 1 % 4 = 1 ∧
        (l.bits.length ≤ 0x400 → u.bytes (s.queueBits n l.line) l.bits.length = l.bits)) ∧
      u.obj 0x240083 = min (2 ^ 32 - 1) (s.obj 0x240083 + l.clamps) ∧
      u.obj 0x240084 = min (2 ^ 32 - 1) (s.obj 0x240084 + l.lost) ∧
      u.obj 0x240085 = min (2 ^ 32 - 1) (s.obj 0x240085 + l.dropped))

/-- The screening of a plane (R254, R264, R266, R269): the span has one bit for each position and none set on a dead pair, and every entry of the next error row lies in 12 bits; in bit mode a bit on a dead pair moves or is dropped and counted, so no dot is lost unseen and none stays on a dead pair. -/
def Obligations.ScreeningSparesDeadPairs : Prop :=
  (∀ (wts w : Nat) (ps : List Pos), ps.length = w + 128 →
    (screenPlane wts w ps).bits.length = w ∧ (screenPlane wts w ps).row.length = w + 128 ∧
    (∀ v ∈ (screenPlane wts w ps).row, -2048 ≤ v ∧ v ≤ 2047) ∧
    ∀ i, i < w → (ps[64 + i]?).map Pos.dead = some true → (screenPlane wts w ps).bits.getD i true = false) ∧
  (∀ (dead : Nat → Bool) (b : List Bool),
    (let r := (List.range b.length).foldl (moveBit dead) (b, 0)
     r.1.length = b.length ∧ r.1.count true + r.2 = b.count true ∧
     ∀ q, q < b.length → dead q = true → r.1.getD q false = false))

/-- LANE_TEST_WINDOW, LANE_ENTERS_TEST and LANE_RETEST_DONE (R287, R288, R643 to R645): a lane that passes gives the test to the next lane, at once where that is idle and else once its ports are handed over; a lane that fails leaves service at once and is retested or retired; a passed retest brings it back. -/
def Obligations.LanesAreTestedInTurn : Prop :=
  (∀ (pass : Bool) (t : Nat) (s : State),
    s.testLane ≠ 0xFF → s.bit 0x240012 0 = true →
    ∃ u, exec (.laneTestWindow pass t) s = .next u ∧
      (pass = true → counted s u 0x5E0056 ∧ u.obj 0x240010 = s.obj 0x240010 ∧
        ∀ m, s.laneAfter s.testLane = some m → m ≠ s.testLane →
          (s.portsOf m = [] → u.testLane = m ∧ u.render.windowAt = u.clk) ∧
          (s.portsOf m ≠ [] → u.testLane = 0xFF ∧ u.render.leaving = some (s.testLane, m) ∧
            u.render.handOver = (s.portsOf m).map fun n => (n.val, s.testLane))) ∧
      (pass = false → counted s u 0x5E0057 ∧ counted s u 0x240088 ∧ u.bit 0x240013 7 = true ∧
        u.bit 0x240010 s.testLane = false ∧
        (u.render.retest.contains s.testLane = true ∨ u.mram.lanesRetired.testBit s.testLane = true))) ∧
  (∀ (t l m : Nat) (s : State),
    s.render.leaving = some (l, m) → s.render.handOver = [] →
    ∃ u, exec (.laneEntersTest t) s = .next u ∧ u.testLane = m ∧ u.render.leaving = none) ∧
  (∀ (lane : Fin 17) (pass : Bool) (t : Nat) (s : State),
    s.render.retest.contains lane.val = true →
    ∃ u, exec (.laneRetestDone lane pass t) s = .next u ∧ u.render.retest.contains lane.val = false ∧
      (pass = true → u.bit 0x240010 lane.val = true) ∧ (pass = false → u.mram.lanesRetired.testBit lane.val = true))

/-- JIGSAW_LINE_TAKE and SLOT_COPY (R313 to R317, R503): a taken line is counted and its successor is next; where its queue entry cannot be read it is lost; it enters the ring where its history agrees with its queue bits, and else CHECK sets and no slot is readied; a ring line is copied into its slot, READY with its cap, once the slot has been released for the line before, and discarded where it has been released for this line or a later one. -/
def Obligations.JigsawPacksChecksAndCopies : Prop :=
  (∀ (n : Fin 16) (readErr histErr fault : Bool) (t : Nat) (s : State),
    s.renderRuns = true → s.canTake n = true → s.takeTurn n = true → s.entries n ≤ 8192 →
    ∃ u, exec (.jigsawLineTake n readErr histErr fault t) s = .next u ∧
      (let j := (s.jigsaw.get n).next
       let a := s.queueDesc n j
       let skipped := (s.num (a + 9) 1).testBit 1
       let m := s.jigsawMap n (s.num (a + 4) 4)
       let bits := s.bytes (s.queueBits n j) ((s.entries n + 7) / 8)
       let d := s.dropsOf n m j (s.capFor n j) bits
       let hist := s.historyBits n m ((s.columns n).map fun k => (k, columnBits (s.record n) d k))
       let good := !fault && (hist.count true + d.masked + d.deadPair + d.clipped = popCount (s.entries n) (leNat bits))
       let mask := s.obj (0x320019 + n.val * 0x100) % 256
       let ring := (s.jigsaw.get n).ring
       let read := readErr = false ∧ s.entryReadable n j = true
       counted s u (0x380020 + n.val * 0x100) ∧ (u.jigsaw.get n).next = (j + 1) % 2 ^ 32 ∧
       (¬read → (u.jigsaw.get n).lost = j :: (s.jigsaw.get n).lost ∧ (u.jigsaw.get n).ring = ring) ∧
       (read → skipped = true → (u.jigsaw.get n).ring = ring) ∧
       (read → skipped = false → good = false →
         counted s u (0x380025 + n.val * 0x100) ∧ u.bit (0x380008 + n.val * 0x100) 1 = true ∧ (u.jigsaw.get n).ring = ring) ∧
       (read → skipped = false → good = true → mask ≠ 0 →
         (u.jigsaw.get n).ring = ring ++ [{ line := j, cap := s.capFor n j, todo := mask }] ∧
         u.obj (0x380025 + n.val * 0x100) = s.obj (0x380025 + n.val * 0x100)))) ∧
  (∀ (n : Fin 16) (k : Fin 8) (readErr : Bool) (t : Nat) (l : RingLine) (s : State),
    s.renderRuns = true → s.ringLine n k.val = some l →
    ∃ u, exec (.slotCopy n k readErr t) s = .next u ∧
      (let d := s.slot n k.val (l.line % 16)
       let v := u.slot n k.val (l.line % 16)
       let nc := recNoz (s.record n)
       let read := readErr = false ∧ s.readOk (s.ringAddr n l.line) 0x800 = true
       (slotPast d l.line = true → counted s u (0x380026 + n.val * 0x100) ∧ u.bit (0x380008 + n.val * 0x100) 4 = true ∧ v = d) ∧
       (slotPast d l.line = false → slotFree d l.line = false → u.jigsaw = s.jigsaw ∧ v = d) ∧
       (slotPast d l.line = false → slotFree d l.line = true → ¬read →
         (u.jigsaw.get n).lost = l.line :: (s.jigsaw.get n).lost ∧ v = d) ∧
       (slotPast d l.line = false → slotFree d l.line = true → read →
         v.line = l.line ∧ v.cap = l.cap ∧ v.ready = true ∧ v.readyAt = u.clk ∧
         u.num (lineSlotAddr n k.val (l.line % 16)) 0x200 =
           s.num (s.ringAddr n l.line) 0x800 / 2 ^ (k.val * nc) % 2 ^ nc % 2 ^ 4096)))

/-- MAP_WRITE, NOZZLE_STATE_EDIT and FIRING_COUNTER_RESET (R119, R301, R304, R305, R329): a map that keeps the rules becomes the shadow map and another is refused with MAP_INVALID; an edit changes the two bits of one nozzle; neither changes a locked set; a reset clears the port's firing counters. -/
def Obligations.MapsAndCountersAreWritten : Prop :=
  (∀ (n : Fin 16) (m : Bytes) (s : State),
    reaches .sdo s (0x380001 + n.val * 0x100) = true →
    ∃ u, exec (.mapWrite n m) s = .next u ∧
      (s.locked = false → s.mapAbort n m = none →
        u.shadowMap n = m ∧ u.slave.resp = .done) ∧
      (s.locked = false → ∀ c, s.mapAbort n m = some c →
        u.mem = s.mem ∧ u.bit (0x380008 + n.val * 0x100) 6 = true ∧ u.slave.resp = .abort c) ∧
      (s.locked = true → s.mapAbort n m = none →
        u.mem = s.mem ∧ u.slave.resp = .abort 0x08000021 ∧ counted s u 0x230023)) ∧
  (∀ (via : Via) (n : Fin 16) (x v : Nat) (s : State),
    reaches via s (0x380003 + n.val * 0x100) = true → x < 2 ^ 14 → v < 4 →
    ∃ u, exec (.nozzleStateEdit via n (x + v * 2 ^ 16)) s = .next u ∧
      (let a := s.mapShadow n + 0x40 + x / 4
       (s.mapPresent (s.mapShadow n) = false → u.mem = s.mem ∧ refused via u 0x08000022) ∧
       (s.mapPresent (s.mapShadow n) = true → s.locked = true → u.mem = s.mem ∧ refused via u 0x08000021) ∧
       (s.mapPresent (s.mapShadow n) = true → s.locked = false → s.nozzles n ≤ x → u.mem = s.mem ∧ refused via u 0x06090030) ∧
       (s.mapPresent (s.mapShadow n) = true → s.locked = false → x < s.nozzles n →
         field (u.num a 1) (2 * (x % 4)) 2 = v ∧
         (∀ i, i < 4 → i ≠ x % 4 → field (u.num a 1) (2 * i) 2 = field (s.num a 1) (2 * i) 2) ∧
         ∀ b, b ≠ a → u.byte b = s.byte b))) ∧
  (∀ (via : Via) (n : Fin 16) (s : State),
    reaches via s (0x380013 + n.val * 0x100) = true →
    ∃ u, exec (.firingCounterReset via n 1) s = .next u ∧
      (∀ x, x < 16384 → u.num (s.firingAddr n x) 8 = 0) ∧
      ∀ b, b < s.firingAddr n 0 ∨ s.firingAddr n 0 + 0x20000 ≤ b → u.byte b = s.byte b) ∧
  (∀ (via : Via) (n : Fin 16) (v : Nat) (s : State),
    reaches via s (0x380013 + n.val * 0x100) = true → 1 < v →
    ∃ u, exec (.firingCounterReset via n v) s = .next u ∧ u.mem = s.mem ∧ refused via u 0x06090030)

/-- CAPTURE_ENABLE, FRAME_START, CAMERA_PACKET, FRAME_END and FRAME_WATCHDOG (R341 to R344, R348 to R352): capture starts only with five slots and a width of whole packed groups; a frame takes the next number and the next free slot; its lines stand in the slot; at its end it is discarded as damaged, as short, or where its header cannot be written, or waits with a header whose CRC is right, dropping the oldest of two that wait; the watchdog aborts it. -/
def Obligations.CameraFramesAreStored : Prop :=
  (∀ (via : Via) (c : Fin 2) (t : Nat) (s : State),
    reaches via s (0x400001 + c.val * 0x100) = true →
    ∃ u, exec (.captureEnable via c 1 t) s = .next u ∧
      (let bad := s.camSlots c < 5 ∨ s.camWidth c % dtStep (s.obj (0x400005 + c.val * 0x100)) ≠ 0
       (bad → u.obj (0x400001 + c.val * 0x100) = s.obj (0x400001 + c.val * 0x100) ∧
         u.bit (0x400027 + c.val * 0x100) 11 = true ∧ refused via u 0x06090030) ∧
       (¬bad → u.obj (0x400001 + c.val * 0x100) = 1))) ∧
  (∀ (via : Via) (c : Fin 2) (t : Nat) (s : State),
    reaches via s (0x400001 + c.val * 0x100) = true →
    ∃ u, exec (.captureEnable via c 0 t) s = .next u ∧ u.obj (0x400001 + c.val * 0x100) = 0 ∧ (u.camera.get c).frame = none ∧
      ∀ f i, (s.camera.get c).frame = some f → f.slot = some i → (u.camSlot c i).st = 0) ∧
  (∀ (c : Fin 2) (fn : Nat) (e : EccFind) (t : Nat) (s : State),
    s.capturing c = true → (s.camera.get c).frame = none → e ≠ .double →
    ∃ u, exec (.frameStart c (s.obj (0x400004 + c.val * 0x100)) fn e t) s = .next u ∧
      (let no := ((s.camera.get c).frameNo + 1) % 2 ^ 32
       (u.camera.get c).frameNo = no ∧
       (∃ f, (u.camera.get c).frame = some f ∧ f.no = no ∧ f.slot = s.nextSlot c ∧ f.lines = 0 ∧ f.sensorFn = fn % 65536) ∧
       (∀ i, s.nextSlot c = some i → u.camSlot c i = { st := 1, frame := no }) ∧
       (s.nextSlot c = none → counted s u (0x400046 + c.val * 0x100) ∧ u.bit (0x400027 + c.val * 0x100) 6 = true))) ∧
  (∀ (c : Fin 2) (vc dt : Nat) (d : Bytes) (crcOk wrErr : Bool) (t : Nat) (s : State),
    s.capturing c = true → ignoredType dt = false →
    ∃ u, exec (.cameraPacket c vc dt d .clean crcOk wrErr t) s = .next u ∧
      (let o := c.val * 0x100
       (vc ≠ s.obj (0x400004 + o) → counted s u (0x40004A + o)) ∧
       (vc = s.obj (0x400004 + o) → dt = s.obj (0x400005 + o) →
         ((s.camera.get c).frame = none → (s.camera.get c).aborted = false → counted s u (0x40004B + o)) ∧
         ∀ f i, (s.camera.get c).frame = some f → f.slot = some i →
           (s.tick t).clk < f.startAt + s.obj (0x400009 + o) * 500000 →
           (crcOk = true → wrErr = false → s.lineOk c i (s.camEmb c + f.lines) = true → d.length = s.lineBytes c → f.lines < s.camLines c →
             (u.camera.get c).frame = some { f with lines := f.lines + 1 } ∧
             u.bytes (s.camSlotAddr c i + 4096 + (s.camEmb c + f.lines) * s.lineBytes c) d.length = d) ∧
           (crcOk = false ∨ wrErr = true ∨ d.length ≠ s.lineBytes c ∨
               (f.lines < s.camLines c ∧ s.lineOk c i (s.camEmb c + f.lines) = false) →
             ((u.camera.get c).frame.map CamFrame.damaged) = some true)))) ∧
  (∀ (c : Fin 2) (e : EccFind) (t i : Nat) (f : CamFrame) (s : State),
    s.capturing c = true → e ≠ .double → (s.camera.get c).frame = some f → f.slot = some i →
    (s.tick t).clk < f.startAt + s.obj (0x400009 + c.val * 0x100) * 500000 →
    ∃ u, exec (.frameEnd c (s.obj (0x400004 + c.val * 0x100)) e t) s = .next u ∧
      (u.camera.get c).frame = none ∧
      (f.damaged = true ∨ s.writeOk (s.camSlotAddr c i) 4096 = false → (u.camSlot c i).st = 0 ∧ counted s u (0x400044 + c.val * 0x100) ∧ (u.camera.get c).waiting = (s.camera.get c).waiting) ∧
      (f.damaged = false → s.writeOk (s.camSlotAddr c i) 4096 = true → f.lines < s.camLines c →
        (u.camSlot c i).st = 0 ∧ counted s u (0x400041 + c.val * 0x100) ∧ (u.camera.get c).waiting = (s.camera.get c).waiting) ∧
      (f.damaged = false → s.writeOk (s.camSlotAddr c i) 4096 = true → s.camLines c ≤ f.lines →
        (u.camSlot c i).st = 2 ∧ counted s u (0x400040 + c.val * 0x100) ∧ u.obj (0x400023 + c.val * 0x100) = f.no ∧
        (let w := (s.camera.get c).waiting
         (u.camera.get c).waiting = (if 2 ≤ w.length then w.tail else w) ++ [i]) ∧
        ((s.camera.get c).waiting.length ≤ 2 → (u.camera.get c).waiting.length ≤ 2) ∧
        (∀ j rest, (s.camera.get c).waiting = j :: rest → rest ≠ [] → j ≠ i →
          (u.camSlot c j).st = 0 ∧ counted s u (0x400045 + c.val * 0x100)) ∧
        u.frameHeaderOk c i = true ∧ u.num (s.camSlotAddr c i + 8) 4 = f.no % 2 ^ 32)) ∧
  (∀ (c : Fin 2) (t i : Nat) (f : CamFrame) (s : State),
    s.timing = true → (s.camera.get c).frame = some f → f.slot = some i → f.startAt + s.obj (0x400009 + c.val * 0x100) * 500000 ≤ t →
    ∃ u, exec (.frameWatchdog c t) s = .next u ∧
      (u.camera.get c).frame = none ∧ (u.camSlot c i).st = 0 ∧ counted s u (0x400043 + c.val * 0x100) ∧
      u.bit (0x400027 + c.val * 0x100) 3 = true)

/-- WEB_TRIGGER, TRIGGER_COMMAND, TRIGGER_PULSE_END and CAMERA_STALL (R346, R363): a trigger that is due raises the pin for its width, and is counted as missed while the pin is high; a camera without a frame start for the stall time while printing is reported. -/
def Obligations.CameraTriggersAndStalls : Prop :=
  (∀ (c : Fin 2) (t : Nat) (s : State),
    s.timing = true → s.obj (0x40000B + c.val * 0x100) = 1 → s.originValid = true → s.obj (0x40000C + c.val * 0x100) ≠ 0 →
    atOrBeyond ((s.tick t).extrapolated (s.tick t).clk) (s.trigTarget c (s.camera.get c).trigK) = true →
    ∃ u, exec (.webTrigger c t) s = .next u ∧
      (u.camera.get c).trigK = (s.camera.get c).trigK + 1 ∧
      ((s.camera.get c).trigEnd = none →
        (u.camera.get c).trigEnd = some (u.clk + s.obj (0x40000E + c.val * 0x100) * 500) ∧
        (u.camera.get c).edges = (s.camera.get c).edges + 1) ∧
      ((s.camera.get c).trigEnd ≠ none →
        (u.camera.get c).trigEnd = (s.camera.get c).trigEnd ∧ counted s u (0x40004C + c.val * 0x100))) ∧
  (∀ (via : Via) (c : Fin 2) (t : Nat) (s : State),
    reachesPdo via s (0x40000F + c.val * 0x100) = true → s.timing = true → s.obj (0x40000B + c.val * 0x100) = 2 →
    (s.camera.get c).trigEnd = none →
    ∃ u, exec (.triggerCommand via c 1 t) s = .next u ∧
      (u.camera.get c).trigEnd = some (u.clk + s.obj (0x40000E + c.val * 0x100) * 500)) ∧
  (∀ (c : Fin 2) (t e : Nat) (s : State),
    (s.camera.get c).trigEnd = some e → e ≤ t →
    ∃ u, exec (.triggerPulseEnd c t) s = .next u ∧ (u.camera.get c).trigEnd = none) ∧
  (∀ (c : Fin 2) (t : Nat) (s : State),
    s.capturing c = true → s.obj (0x40000A + c.val * 0x100) ≠ 0 → s.engineState = 3 ∨ s.engineState = 4 →
    s.bit (0x400020 + c.val * 0x100) 2 = false →
    (s.camera.get c).startAt + s.obj (0x40000A + c.val * 0x100) * 500000 ≤ t →
    ∃ u, exec (.cameraStall c t) s = .next u ∧
      u.bit (0x400020 + c.val * 0x100) 2 = true ∧ u.bit (0x400027 + c.val * 0x100) 7 = true ∧
      counted s u (0x40004F + c.val * 0x100) ∧ u.engineState = s.engineState)

/-- SETTINGS_SET_WRITE, CCI_TRANSFER_DONE and DIRECT_TRANSFER (R354 to R359): a set in its layout is pending, counting the one it supersedes; its entries are written one by one, a transfer that is not acknowledged is repeated once, and the second failure abandons the set with CCI_ERROR; a direct transfer is kept until no set is being written, and one that runs is not interrupted by a set.
HOLD_MASK_WRITE and REPROCESS (R360, R362): slots are held and released together or not at all; a held slot whose header is right is queued with REPROCESS set. -/
def Obligations.CameraSettingsAndHeldSlots : Prop :=
  (∀ (c : Fin 2) (d : Bytes) (s : State),
    reaches .sdo s (0x400014 + c.val * 0x100) = true →
    ∃ u, exec (.settingsSetWrite c d) s = .next u ∧
      (setOk d = true → (u.camera.get c).setPending = some d ∧ u.slave.resp = .done ∧
        ((s.camera.get c).setPending ≠ none → counted s u (0x40004E + c.val * 0x100))) ∧
      (setOk d = false → (u.camera.get c).setPending = (s.camera.get c).setPending ∧ u.slave.resp = .abort 0x06090030)) ∧
  (∀ (c : Fin 2) (o : CciEnd) (t : Nat) (s : State),
    s.timing = true →
    ∃ u, exec (.cciTransferDone c o t) s = .next u ∧
      (∀ d i again, (s.camera.get c).setWriting = some (d, i, again) →
        (s.camera.get c).directOn = false ∨ (s.camera.get c).direct = none →
        ((∃ x, o = .done x) → i + 1 < leAt d 4 2 → (u.camera.get c).setWriting = some (d, i + 1, false)) ∧
        ((∃ x, o = .done x) → leAt d 4 2 ≤ i + 1 → (u.camera.get c).setWriting = none ∧ (u.camera.get c).setAcked = some (d, true)) ∧
        (o = .failed → again = false → (u.camera.get c).setWriting = some (d, i, true)) ∧
        (o = .failed → again = true → (u.camera.get c).setWriting = none ∧ (u.camera.get c).unknownDue = true ∧
          u.bit (0x400027 + c.val * 0x100) 8 = true ∧ counted s u (0x40004D + c.val * 0x100))) ∧
      (∀ v again, (s.camera.get c).directOn = true → (s.camera.get c).direct = some (v, again) →
        (u.camera.get c).setWriting = (s.camera.get c).setWriting ∧
        ((∃ x, o = .done x) → (u.camera.get c).direct = none) ∧
        (o = .failed → again = false → (u.camera.get c).direct = some (v, true)) ∧
        (o = .failed → again = true → (u.camera.get c).direct = none ∧ counted s u (0x40004D + c.val * 0x100)))) ∧
  (∀ (via : Via) (c : Fin 2) (v : Nat) (s : State),
    reaches via s (0x400015 + c.val * 0x100) = true → v < 2 ^ 64 → field v 16 2 ≠ 3 →
    ∃ u, exec (.directTransfer via c v) s = .next u ∧
      u.obj (0x400015 + c.val * 0x100) = v ∧ (u.camera.get c).direct = some (v, false) ∧
      ((s.camera.get c).setWriting = none → (u.camera.get c).directOn = true)) ∧
  (∀ (via : Via) (c : Fin 2) (m : Nat) (s : State),
    reaches via s (0x400030 + c.val * 0x100) = true →
    ∃ u, exec (.holdMaskWrite via c m) s = .next u ∧
      (s.holdRefused c m = true → refused via u 0x06090030 ∧ u.camera = s.camera ∧
        u.obj (0x400030 + c.val * 0x100) = s.obj (0x400030 + c.val * 0x100)) ∧
      (s.holdRefused c m = false → u.obj (0x400030 + c.val * 0x100) = m ∧
        ∀ i, i < 64 → (u.camSlot c i).st = if m.testBit i then 6 else if (s.camSlot c i).st = 6 then 5 else (s.camSlot c i).st)) ∧
  (∀ (via : Via) (c : Fin 2) (i : Nat) (s : State),
    reaches via s (0x400031 + c.val * 0x100) = true →
    ∃ u, exec (.reprocess via c i) s = .next u ∧
      ((s.camera.get c).reproc ≠ none → u.camera = s.camera ∧ refused via u 0x08000022) ∧
      ((s.camera.get c).reproc = none →
        (s.camSlots c ≤ i ∨ (s.camSlot c i).st ≠ 6 ∨ s.frameHeaderOk c i = false → u.camera = s.camera ∧ refused via u 0x06090030) ∧
        (i < s.camSlots c → (s.camSlot c i).st = 6 → s.frameHeaderOk c i = true →
          (u.camera.get c).reproc = some (i, false) ∧ u.frameHeaderOk c i = true ∧
          (u.num (s.camSlotAddr c i + 7) 1).testBit 6 = true)))

/-- FRAME_TAKE and RECORD_COMPLETE (R350, R353, R368, R369, R373, R382, R384, R387): the frame next in turn is taken with its snapshot and its TNR reason, or turned away where its header fails or cannot be read, which frees its slot; at its completion the record stands in the ring, the frame's slot becomes REFERENCE, and a stop that waited takes effect. -/
def Obligations.KaleidoscopeTakesAndCompletes : Prop :=
  (∀ (readErr : Bool) (t i : Nat) (c : Fin 2) (rep : Bool) (s : State),
    s.timing = true → s.kaleidoOn = true → s.kaleido.job = none → s.nextFrame = some (c, i, rep) →
    ∃ u, exec (.frameTake readErr t) s = .next u ∧
      (let bad := readErr = true ∨ s.frameReadable c i = false ∨ s.frameHeaderOk c i = false
       (bad → u.kaleido.job = none ∧ counted s u 0x410053 ∧ u.bit 0x41000D 2 = true ∧
         (rep = false → (u.camSlot c i).st = 0 ∧ (u.camera.get c).waiting = (s.camera.get c).waiting.drop 1) ∧
         (rep = true → (u.camera.get c).reproc = none ∧ (u.camSlot c i).st = 0)) ∧
       (¬bad →
         let p := s.kaleido.frozen.getD s.snapshot
         let why := s.tnrReason p c i rep (s.camera.get c).reference
         (∃ j, u.kaleido.job = some j ∧ j.cam = c ∧ j.slot = i ∧ j.rep = rep ∧ j.params = p ∧ j.reason = why) ∧
         (if why = 0 then counted s u 0x410051 else counted s u 0x410052) ∧
         (rep = false → (u.camSlot c i).st = 3 ∧ (u.camera.get c).waiting = (s.camera.get c).waiting.drop 1) ∧
         (rep = true → (u.camera.get c).reproc = some (i, true) ∧ u.camSlot c i = s.camSlot c i)))) ∧
  (∀ (t : Nat) (j : KaleidoJob) (s : State),
    s.timing = true → s.kaleido.job = some j →
    ∃ u, exec (.recordComplete t) s = .next u ∧
      u.kaleido.job = none ∧ u.kaleido.done = s.kaleido.done + 1 ∧ counted s u 0x410050 ∧ u.bit 0x41000D 0 = true ∧
      (s.writeOk (s.recordAddr s.kaleido.done) (4096 + 6 * s.camWidth j.cam * s.blocksOf (s.camLines j.cam)) = true →
        u.num (s.recordAddr s.kaleido.done) 4 = 0x534D4B42) ∧
      (j.rep = false → (u.camSlot j.cam j.slot).st = 4 ∧ (u.camera.get j.cam).reference = some j.slot ∧
        ∀ q, (s.camera.get j.cam).reference = some q → q ≠ j.slot → (s.camSlot j.cam q).st = 4 → (u.camSlot j.cam q).st = 5) ∧
      (j.rep = true → (u.camera.get j.cam).reproc = none ∧ (u.camera.get j.cam).slots = (s.camera.get j.cam).slots) ∧
      (s.kaleido.stopping = true → u.obj 0x410001 = 0) ∧ (s.kaleido.stopping = false → u.obj 0x410001 = s.obj 0x410001))

/-- PROCESS_PARAM_WRITE, PARAMETER_FREEZE, KALEIDO_ENABLE, STATS_READ and STATS_READ_ADVANCE (R368, R369, R383, R384, R388): an accepted parameter write counts in the parameter sequence and changes no snapshot; freeze takes and drops the snapshot; enable needs four records and empties the ring; a read returns the record at the cursor with VALID, else the last complete one, and only the advancing read moves the cursor past a valid record. -/
def Obligations.KaleidoscopeParametersAndStatistics : Prop :=
  (∀ (via : Via) (k : Key) (d : Bytes) (s : State),
    reaches via s k = true → paramDoms.contains k = true ∨ paramKeys.contains k = true →
    ∃ u, exec (.processParamWrite via k d) s = .next u ∧ u.kaleido = s.kaleido ∧
      (paramDoms.contains k = true → d.length = paramLength k →
        u.domain k = d ∧ u.obj 0x41000E = (s.obj 0x41000E + 1) % 2 ^ 32) ∧
      (paramDoms.contains k = true → d.length ≠ paramLength k →
        u.domain k = s.domain k ∧ u.obj 0x41000E = s.obj 0x41000E ∧ refused via u 0x06070010) ∧
      (paramDoms.contains k = false → leNat d ≤ paramMax k →
        u.obj k = leNat d ∧ u.obj 0x41000E = (s.obj 0x41000E + 1) % 2 ^ 32) ∧
      (paramDoms.contains k = false → paramMax k < leNat d →
        u.obj k = s.obj k ∧ u.obj 0x41000E = s.obj 0x41000E ∧ refused via u 0x06090030)) ∧
  (∀ (via : Via) (v : Nat) (s : State),
    reachesPdo via s 0x410002 = true → v ≤ 1 →
    ∃ u, exec (.parameterFreeze via v) s = .next u ∧ u.obj 0x410002 = v ∧
      u.kaleido.frozen = if v = 1 then some s.snapshot else none) ∧
  (∀ (via : Via) (s : State),
    reaches via s 0x410001 = true →
    ∃ u, exec (.kaleidoEnable via 1) s = .next u ∧
      (s.recordCount < 4 → u.obj 0x410001 = s.obj 0x410001 ∧ u.bit 0x41000D 4 = true ∧ refused via u 0x06090030) ∧
      (4 ≤ s.recordCount → u.obj 0x410001 = 1 ∧
        (s.kaleidoOn = false → u.kaleido.done = 0 ∧ u.kaleido.cursor = 0 ∧ u.kaleido.recs = []))) ∧
  (∀ (via : Via) (s : State),
    reaches via s 0x410001 = true →
    ∃ u, exec (.kaleidoEnable via 0) s = .next u ∧
      (s.kaleido.job = none → u.obj 0x410001 = 0) ∧
      (s.kaleido.job ≠ none → u.obj 0x410001 = s.obj 0x410001 ∧ u.kaleido.stopping = true ∧ u.kaleido.job = s.kaleido.job)) ∧
  (∀ (advance : Bool) (s : State),
    reaches .sdo s 0x410040 = true →
    ∃ u d, exec (if advance then .statsReadAdvance else .statsRead) s = .next u ∧ u.slave.resp = .data d ∧ d.length = 4096 ∧
      (s.kaleido.done = 0 → d = List.replicate 4096 0#8) ∧
      (s.kaleido.done ≠ 0 →
        (let valid := decide (s.kaleido.cursor < s.kaleido.done)
         let r := if valid then s.kaleido.cursor else s.kaleido.done - 1
         leAt d 0x3C 1 = b2n valid ∧ ∀ i, i < 4096 → i ≠ 0x3C → leAt d i 1 = (s.byte (s.recordAddr r + i)).toNat)) ∧
      u.kaleido.cursor = s.kaleido.cursor + b2n (advance && decide (s.kaleido.cursor < s.kaleido.done)))

/-- ANALYSE_RECORD, BAND_PLACEMENT, MUTE_TIMEOUT and RECALIBRATION (R405, R409, R415, R422, R424): the record at the cursor is analysed, or skipped where it was reused; a band is placed in a gap that meets the conditions and takes waiting requests whole; mutes end at their timeout; a port that has been off its calibration temperature for 1 s recalibrates. -/
def Obligations.AnalyserTakesRecordsAndPlacesBands : Prop :=
  (∀ (t : Nat) (s : State),
    s.timing = true → s.obj 0x420001 = 1 → s.engineState ≠ 6 →
    ∃ u, exec (.analyseRecord t) s = .next u ∧
      (let k := max s.analyser.cursor s.oldestRecord
       (if s.analyser.cursor < s.oldestRecord then counted s u 0x420051 else u.obj 0x420051 = s.obj 0x420051) ∧
       (k < s.kaleido.done → u.analyser.cursor = k + 1 ∧ counted s u 0x420050 ∧
         (s.engineState < 3 ∨ 5 < s.engineState → u.analyser = { s.analyser with cursor := k + 1, worked := true } ∧ sameData s u)) ∧
       (s.kaleido.done ≤ k → u.analyser = { s.analyser with cursor := k } ∧ u.obj 0x420050 = s.obj 0x420050 ∧ sameData s u))) ∧
  (∀ (t : Nat) (s : State) (r : Request) (rest : List Request) (g : Nat),
    s.timing = true → s.obj 0x420001 = 1 → s.engineState = 3 →
    s.analyser.requests = r :: rest → r.tests.length ≤ 10 → s.bandPlace = some g →
    ∃ u b, exec (.bandPlacement t) s = .next u ∧ u.analyser.bands = s.analyser.bands ++ [b] ∧ b.start = g ∧ r ∈ b.reqs ∧
      (b.reqs ++ u.analyser.requests).Perm s.analyser.requests ∧ u.analyser.lastBand = some g ∧
      u.bit 0x420045 2 = true ∧ counted s u 0x420057 ∧
      ((∀ n ∈ s.renderedPorts, s.renderLine n < 2 ^ 30) → (∀ l, s.analyser.lastBand = some l → l < 2 ^ 30) →
        (∀ n ∈ s.renderedPorts, s.renderLine n + 16 ≤ g) ∧ ∀ l, s.analyser.lastBand = some l → l + 188 < g) ∧
      s.withinLast (g + 188) = true ∧
      ∃ gap ∈ s.gaps, 189 ≤ gap.2 ∧
        (g = gap.1 ∨ s.obj 0x420014 ≠ 0 ∧ ∃ k, g = (gap.1 + k * s.obj 0x420014) % 2 ^ 32)) ∧
  (∀ (t : Nat) (s : State),
    s.timing = true → s.engineState ≠ 6 →
    ∃ u, exec (.muteTimeout t) s = .next u ∧
      (let expired := fun (m : Mute) => decide (m.plane ≠ 8 ∧ m.line = none ∧ m.since + s.obj 0x42000A * 500000 ≤ max s.clk t)
       u.analyser.mutes = s.analyser.mutes.filter (fun m => !expired m) ∧
       ∀ m ∈ s.analyser.mutes, expired m = true → (m.plane, m.x) ∈ u.analyser.repeats)) ∧
  (∀ (n : Fin 16) (t : Nat) (s : State),
    s.timing = true → s.engineState ≠ 6 →
    ∃ u, exec (.recalibration n t) s = .next u ∧
      (∀ a, (s.port.get n).offAt = some a → a + 500000000 ≤ t → s.analyser.recal.testBit n.val = false →
        u.analyser.recal.testBit n.val = true ∧ counted s u 0x42005D ∧ u.bit 0x420045 11 = true) ∧
      ((∀ a, (s.port.get n).offAt = some a → max s.clk t < a + 500000000) ∨ s.analyser.recal.testBit n.val = true →
        u.analyser = s.analyser ∧ u.obj 0x42005D = s.obj 0x42005D))

/-- BATCH_APPLY and APPLY (R417, R418, R419): the first batch is armed in a clock in which the set is OPEN and equal to the set in force, and otherwise deferred once; a result is applied in supervised mode while the set is not locked, once, by its number. -/
def Obligations.RepairsAreAppliedOrRefused : Prop :=
  (∀ (ckptErr t : Nat) (s : State) (b : Batch) (rest : List Batch),
    s.timing = true → s.autonomous = true → s.inJobState = true → s.analyser.batches = b :: rest →
    ∃ u, exec (.batchApply ckptErr t) s = .next u ∧
      (s.obj 0x230012 = 0 ∧ s.shadowCrc = s.forceCrc →
        u.analyser.batches = rest ∧ u.analyser.awaiting = [] ∧ u.obj 0x230012 = 1 ∧ u.obj 0x230014 = (s.obj 0x230014 + 1) % 2 ^ 32 ∧
        u.obj 0x230011 = s.obj 0x230011 ∧ u.bit 0x420045 5 = true ∧ counted s u 0x42005A) ∧
      (¬(s.obj 0x230012 = 0 ∧ s.shadowCrc = s.forceCrc) →
        u.obj 0x230012 = s.obj 0x230012 ∧ u.obj 0x230014 = s.obj 0x230014 ∧
        (b.deferred = true → u.analyser = s.analyser ∧ sameData s u) ∧
        (b.deferred = false → u.analyser.batches = { b with deferred := true } :: rest ∧ counted s u 0x42005B ∧
          u.bit 0x420045 6 = true))) ∧
  (∀ (via : Via) (seq : Nat) (s : State),
    reaches via s 0x420042 = true →
    ∃ u, exec (.apply via seq) s = .next u ∧
      (s.autonomous = true → u.analyser = s.analyser ∧ sameData s u ∧ refused via u 0x08000022) ∧
      (s.autonomous = false → s.locked = true →
        u.analyser = s.analyser ∧ sameData s u ∧ refused via u 0x08000021 ∧ counted s u 0x230023 ∧ u.bit 0x230019 0 = true) ∧
      (s.autonomous = false → s.locked = false →
        (s.resultNamed seq = none → u.analyser = s.analyser ∧ sameData s u ∧ refused via u 0x06090030) ∧
        ∀ e, s.resultNamed seq = some e →
          (let spent := (s.num (s.resultAddr e + 7) 1).testBit 4 || [0, 3, 6].contains (s.num (s.resultAddr e + 0x13) 1)
           (spent = true → u.analyser = s.analyser ∧ sameData s u ∧ refused via u 0x06090030) ∧
           (spent = false → u.analyser.awaiting = s.analyser.awaiting ++ [e] ∧ u.obj 0x230012 = s.obj 0x230012 ∧
             (u.num (s.resultAddr e + 7) 1).testBit 4 = true ∧
             ∀ r, findKey s.analyser.actions e = some r → ∀ a, a < s.resultAddr e ∨ s.resultAddr e + 64 ≤ a →
               u.byte a = (s.writeRepair r).byte a))))

/-- GEOMETRY, CLEAR_MUTES, RESTORE_BUDGETS, RESULT_READ and RESULT_READ_ADVANCE (R405, R408, R413, R418, R421): a band is requested where fewer than 32 wait and counted otherwise; mutes and budgets are cleared; a read returns the unread result at the cursor with VALID 1, else the last one returned with VALID 0, else zeros, and only the advancing read moves the cursor. -/
def Obligations.AnalyserCommandsAndResults : Prop :=
  (∀ (via : Via) (s : State),
    reaches via s 0x420018 = true →
    ∃ u, exec (.geometry via) s = .next u ∧ sameData s u ∧
      (s.analyser.requests.length < 32 → u.obj 0x420059 = s.obj 0x420059 ∧
        ∃ r, u.analyser.requests = s.analyser.requests ++ [r] ∧ r.cause = .geometry ∧ r.plane = s.obj 0x420016 ∧
          r.tests = [{ plane := s.obj 0x420016, twin := 0, first := 0, geometry := true }]) ∧
      (32 ≤ s.analyser.requests.length → u.analyser.requests = s.analyser.requests ∧ counted s u 0x420059)) ∧
  (∀ (via : Via) (s : State),
    reaches via s 0x420018 = true →
    ∃ u, exec (.clearMutes via) s = .next u ∧ u.analyser = { s.analyser with mutes := [] } ∧ sameData s u) ∧
  (∀ (via : Via) (s : State),
    reaches via s 0x420018 = true →
    ∃ u, exec (.restoreBudgets via) s = .next u ∧ u.analyser = { s.analyser with marked := [] } ∧ sameData s u) ∧
  (∀ (advance : Bool) (s : State),
    reaches .sdo s 0x420040 = true →
    ∃ u d, exec (if advance then .resultReadAdvance else .resultRead) s = .next u ∧ u.slave.resp = .data d ∧ sameData s u ∧
      d.length = 64 ∧
      (s.analyser.unread < s.analyser.made →
        (leAt d 7 1).testBit 0 = true ∧
        (∀ i, i < 64 → i ≠ 7 → leAt d i 1 = (s.byte (s.resultAddr s.analyser.unread + i)).toNat) ∧
        u.analyser.returned = some s.analyser.unread ∧ u.analyser.unread = s.analyser.unread + b2n advance) ∧
      (s.analyser.made ≤ s.analyser.unread → u.analyser = s.analyser ∧
        (s.analyser.returned = none → d = List.replicate 64 0#8) ∧
        ∀ e, s.analyser.returned = some e → (leAt d 7 1).testBit 0 = false ∧
          ∀ i, i < 64 → i ≠ 7 → leAt d i 1 = (s.byte (s.resultAddr e + i)).toNat))

/-- The commands of an axis with the states that accept them (R438). -/
def Sys2Proof.Claims.axisCommands (via : Via) (a : Fin 4) (t : Nat) : List (Instr × List Nat) :=
  [(.moveAbsolute via a t, [1, 2]), (.moveRelative via a t, [1, 2]), (.velocity via a t, [1, 2]), (.axisStop via a t, [2, 3, 4, 5]),
    (.quickStop via a t, [1, 2, 3, 4, 5]), (.home via a t, [1]), (.engageGear via a t, [1]), (.disengageGear via a t, [4]),
    (.setPosition via a t, [1]), (.axisClearFault via a t, [6])]

/-- Neither commanded position nor velocity of an axis changes at an instant (R439). -/
def Sys2Proof.Claims.smooth (s t : State) (a : Fin 4) : Prop :=
  (t.axisKin a).1 = (s.axisKin a).1 ∧ (t.axisKin a).2.1 = (s.axisKin a).2.1

/-- MOVE_ABSOLUTE, MOVE_RELATIVE, VELOCITY, AXIS_STOP, QUICK_STOP, HOME, SET_POSITION and AXIS_CLEAR_FAULT (R433, R438, R439, R440, R443): a command is refused with CMD_REFUSED in any state but those that accept it; a move, a velocity, a stop and a search begin at the position and velocity of the instant, after the segments due in its clock (R449), within the limits. That a stop which leads to FAULT takes no command, and that SET_POSITION keeps within enabled soft limits, are the model's choices (log entries 139, 89). -/
def Obligations.AxisCommandsAreTakenByState : Prop :=
  (∀ (via : Via) (a : Fin 4) (t : Nat) (s : State) (p : Instr × List Nat),
    reachesPdo via s (ak 0x480010 a) = true → p ∈ axisCommands via a t → p.2.contains (s.axisState a) = false ∨ s.stopsToFault a = true →
    ∃ u, exec p.1 s = .next u ∧ u.axis = (s.tick t).axis ∧ u.axisState a = s.axisState a ∧ u.bit (ak 0x480035 a) 7 = true ∧
      (via ≠ .pdo → refused via u 0x08000022)) ∧
  (∀ (relative : Bool) (via : Via) (a : Fin 4) (t : Nat) (s : State),
    reachesPdo via s (ak 0x480010 a) = true → s.axisState a = 1 ∨ s.axisState a = 2 → s.stopsToFault a = false →
    let r := s.tick t
    let target : Rat := (s.axisTarget a : Rat) + if relative then (r.axisKin a).1 else 0
    ∃ u, exec (if relative then .moveRelative via a t else .moveAbsolute via a t) s = .next u ∧
      (∀ b, b ≠ a → u.axis.get b = r.axis.get b) ∧
      (r.outside a target = true → u.axis = r.axis ∧ u.axisState a = s.axisState a ∧ (via ≠ .pdo → refused via u 0x06090030)) ∧
      (r.outside a target = false → u.axisState a = 2 ∧ (u.axis.get a).goal = .move target ∧ smooth r u a ∧
        (s.obj (ak 0x480007 a) ≠ 0 → s.obj (ak 0x480008 a) ≠ 0 → (u.axis.get a).v = 0))) ∧
  (∀ (via : Via) (a : Fin 4) (t : Nat) (s : State),
    reachesPdo via s (ak 0x480010 a) = true → s.axisState a = 1 ∨ s.axisState a = 2 → s.stopsToFault a = false →
    let r := s.tick t
    let v : Rat := (s.axisTarget a : Rat)
    ∃ u, exec (.velocity via a t) s = .next u ∧
      (s.maxVelocity a < absQ v → u.axis = r.axis ∧ u.axisState a = s.axisState a ∧ (via ≠ .pdo → refused via u 0x06090030)) ∧
      (absQ v ≤ s.maxVelocity a → u.axisState a = 2 ∧ smooth r u a ∧
        (s.limited a = true ∧ v ≠ 0 → (u.axis.get a).goal = .limit (if v < 0 then (s.limitMin a : Rat) else (s.limitMax a : Rat))) ∧
        (s.limited a = false ∨ v = 0 → (u.axis.get a).goal = .run ∧
          (s.obj (ak 0x480007 a) ≠ 0 → s.obj (ak 0x480008 a) ≠ 0 → (u.axis.get a).v = v)))) ∧
  (∀ (quick : Bool) (via : Via) (a : Fin 4) (t : Nat) (s : State),
    reachesPdo via s (ak 0x480010 a) = true → 2 ≤ s.axisState a → s.axisState a ≤ 5 → s.stopsToFault a = false →
    ∃ u, exec (if quick then .quickStop via a t else .axisStop via a t) s = .next u ∧
      u.axisState a = 2 ∧ (u.axis.get a).goal = .stop ∧ smooth ((s.tick t).dueSegments a) u a ∧ u.obj (ak 0x480028 a) = 0 ∧
      (s.axisState a = 3 → u.bit (ak 0x480035 a) 2 = true) ∧
      (quick = true → ∀ g ∈ (u.axis.get a).segs, g.j = 0) ∧
      (s.obj (ak (if quick then 0x48000A else 0x480008) a) ≠ 0 → (u.axis.get a).v = 0)) ∧
  (∀ (via : Via) (a : Fin 4) (t : Nat) (s : State),
    reachesPdo via s (ak 0x480010 a) = true → s.axisState a = 1 →
    ∃ u, exec (.quickStop via a t) s = .next u ∧ u.axis = (s.tick t).axis ∧ u.axisState a = 1) ∧
  (∀ (via : Via) (a : Fin 4) (t : Nat) (s : State),
    reachesPdo via s (ak 0x480010 a) = true → s.axisState a = 1 →
    ∃ u, exec (.home via a t) s = .next u ∧ u.axisState a = 3 ∧ u.bit (ak 0x480034 a) 0 = false ∧
      (u.axis.get a).goal = .search ((s.tick t).axisKin a).1 ∧ (u.axisKin a).1 = ((s.tick t).axisKin a).1) ∧
  (∀ (via : Via) (a : Fin 4) (t : Nat) (s : State),
    reachesPdo via s (ak 0x480010 a) = true → s.axisState a = 1 →
    ∃ u, exec (.setPosition via a t) s = .next u ∧ u.axisState a = 1 ∧ (u.axisKin a).2.1 = 0 ∧
      (let p : Int := sx 48 (toBits 48 (s.axisTarget a))
       (s.outside a p = false → u.axisPos a = p) ∧ (u.axisKin a).1 = s.onScale a p ∧
       (u.axis.get a).gen = { ((s.tick t).axis.get a).gen with count := (s.onScale a p).floor })) ∧
  (∀ (via : Via) (a : Fin 4) (t : Nat) (s : State),
    reachesPdo via s (ak 0x480010 a) = true → s.axisState a = 6 →
    ∃ u, exec (.axisClearFault via a t) s = .next u ∧ u.axis = (s.tick t).axis ∧ u.axisState a = 1 ∧ u.obj (ak 0x480036 a) = 0 ∧
      u.bit (ak 0x480034 a) 0 = false)

/-- AXIS_ENABLE, MOVE_DONE, LIMIT_REACHED, MOTION_AT_REST, DIAG_STALL, HOME_FAIL and HOME_DONE (R436, R441, R442, R443, R444, R445, R446, R460): a move ends exactly on its target; a velocity move holds at its limit and stays MOVING; a DIAG level that has not held for the filter time, or is not the active one, is no stall, and DIAG_NOW shows the level after the filter; a stall in a search past the blanking distance sets the home offset, one in motion counts and by DIAG action 1 stops the axis in FAULT; a search that fails, and any other stop that leads to FAULT, enters it when it is at rest.
A timing clock in which no command comes issues a step that is due where DIR has been set up and STEP has been high and low for the pulse width each, and else holds it, which is counted once and reported (R433, R434). -/
def Obligations.AxisMotionsEndAndStall : Prop :=
  (∀ (via : Via) (a : Fin 4) (value t : Nat) (s : State),
    reaches via s (ak 0x480001 a) = true → value ≤ 1 →
    ∃ u, exec (.axisEnable via a value t) s = .next u ∧ u.obj (ak 0x480001 a) = value ∧
      (value = 0 → u.axisState a = 0 ∧ (u.axisKin a).1 = ((s.tick t).axisKin a).1 ∧ (u.axisKin a).2.1 = 0) ∧
      (value = 1 → u.axis = (s.tick t).axis ∧ u.axisState a = if s.axisState a = 0 then 1 else s.axisState a)) ∧
  (∀ (a : Fin 4) (t : Nat) (target : Rat) (s : State),
    (s.axis.get a).goal = .move target → s.axisState a = 2 → (s.tick t).profileDone a = true →
    ∃ u, exec (.moveDone a t) s = .next u ∧ u.axisState a = 1 ∧ (u.axisKin a).1 = s.onScale a target ∧ (u.axisKin a).2.1 = 0 ∧
      u.bit (ak 0x480035 a) 0 = true) ∧
  (∀ (a : Fin 4) (t : Nat) (place : Rat) (s : State),
    (s.axis.get a).goal = .limit place → s.axisState a = 2 → (s.tick t).profileDone a = true →
    ∃ u, exec (.limitReached a t) s = .next u ∧ u.axisState a = 2 ∧ (u.axisKin a).1 = s.onScale a place ∧ (u.axisKin a).2.1 = 0 ∧
      u.bit (ak 0x480035 a) 5 = true ∧ u.bit (ak 0x480034 a) 3 = true) ∧
  (∀ (a : Fin 4) (t : Nat) (s : State),
    (s.axis.get a).goal = .stop → s.axisState a = 2 → (s.tick t).profileDone a = true →
    ∃ u, exec (.motionAtRest a t) s = .next u ∧ u.axisState a = 1 ∧ (u.axisKin a).1 = ((s.tick t).axisKin a).1) ∧
  (∀ (a : Fin 4) (reason source t : Nat) (s : State),
    (reason, source) ∈ [(2, 157), (3, 159), (4, 157)] →
    (s.axis.get a).goal = .fault reason source → s.axisState a = 2 → (s.tick t).profileDone a = true →
    ∃ u, exec (.motionAtRest a t) s = .next u ∧ u.axisState a = 6 ∧ u.obj (ak 0x480036 a) = reason ∧
      (u.axisKin a).1 = ((s.tick t).axisKin a).1 ∧ (u.axisKin a).2.1 = 0 ∧ counted s u (ak (faultCounter reason) a) ∧
      u.bit 0x5E0010 (source - 128) = true) ∧
  (∀ (a : Fin 4) (level : Bool) (held t : Nat) (s : State),
    held < 500 * s.obj (ak 0x48000F a) ∨ (level ≠ s.bit (ak 0x48000E a) 0) →
    ∃ u, exec (.diagStall a level held t) s = .next u ∧ u.axisState a = s.axisState a ∧
      u.obj (ak 0x480040 a) = s.obj (ak 0x480040 a) ∧
      (s.timing = true → 500 * s.obj (ak 0x48000F a) ≤ held → u.bit (ak 0x480034 a) 1 = false)) ∧
  (∀ (a : Fin 4) (held t : Nat) (p : Rat) (s : State),
    s.timing = true → 500 * s.obj (ak 0x48000F a) ≤ held → (s.axis.get a).goal = .search p → s.axisState a = 3 →
    ∃ u, exec (.diagStall a (s.bit (ak 0x48000E a) 0) held t) s = .next u ∧ u.bit (ak 0x480034 a) 1 = true ∧
      (let far := (s.tick t).travelled a p
       (far < (s.obj (ak 0x48001A a) : Rat) → u.axis = (s.tick t).axis) ∧
       ((s.obj (ak 0x48001A a) : Rat) ≤ far → u.axisState a = 3 ∧ u.bit (ak 0x480034 a) 0 = true ∧
         (u.axisKin a).2.1 = 0 ∧
         (let p : Int := sx 48 (toBits 48 (sx 64 (s.obj (ak 0x48001C a))))
          (s.outside a p = false → u.axisPos a = p ∧ (u.axis.get a).gen.count = p) ∧
          (u.axisKin a).1 = s.onScale a p ∧ (u.axis.get a).gen.count = (s.onScale a p).floor)))) ∧
  (∀ (a : Fin 4) (held t : Nat) (s : State),
    s.timing = true → 500 * s.obj (ak 0x48000F a) ≤ held → (∀ p, (s.axis.get a).goal ≠ .search p) → s.axisState a = 2 ∨ s.axisState a = 4 ∨ s.axisState a = 5 →
    ∃ u, exec (.diagStall a (s.bit (ak 0x48000E a) 0) held t) s = .next u ∧ counted s u (ak 0x480040 a) ∧
      (s.bit (ak 0x48000E a) 1 = false → u.axis = (s.tick t).axis ∧ u.axisState a = s.axisState a ∧ u.bit (ak 0x480035 a) 3 = true) ∧
      (s.bit (ak 0x48000E a) 1 = true → u.axisState a = 6 ∧ u.obj (ak 0x480036 a) = 1 ∧ u.bit (ak 0x480034 a) 0 = false ∧
        (u.axisKin a).1 = ((s.tick t).axisKin a).1 ∧ (u.axisKin a).2.1 = 0 ∧ u.bit 0x5E0010 30 = true)) ∧
  (∀ (a : Fin 4) (t : Nat) (p : Rat) (s : State),
    s.timing = true → (s.axis.get a).goal = .search p → s.axisState a = 3 →
    (s.obj (ak 0x48001B a) : Rat) ≤ (s.tick t).travelled a p →
    ∃ u, exec (.homeFail a t) s = .next u ∧
      (let v := ((s.tick t).axisKin a).2.1
       (v ≠ 0 → s.obj (ak 0x480008 a) ≠ 0 → u.axisState a = 2 ∧ (u.axis.get a).goal = .fault 2 157 ∧ smooth (s.tick t) u a ∧
         (u.axis.get a).v = 0 ∧ u.obj (ak 0x480041 a) = s.obj (ak 0x480041 a)) ∧
       (v = 0 → u.axisState a = 6 ∧ u.obj (ak 0x480036 a) = 2 ∧ counted s u (ak 0x480041 a) ∧ u.bit 0x5E0010 29 = true ∧
         (u.axisKin a).1 = ((s.tick t).axisKin a).1))) ∧
  (∀ (a : Fin 4) (t : Nat) (target : Rat) (s : State),
    (s.axis.get a).goal = .backoff target → s.axisState a = 3 → (s.tick t).profileDone a = true →
    ∃ u, exec (.homeDone a t) s = .next u ∧ u.axisState a = 1 ∧ (u.axisKin a).1 = s.onScale a target ∧ u.bit (ak 0x480035 a) 1 = true) ∧
  (∀ (a : Fin 4) (s : State),
    s.pending = [] → s.timing = true → 2 ≤ s.axisState a → s.axisState a ≤ 5 →
    ∃ u, step s = .next u ∧
      (let r := s.at (s.clk + 1)
       let g := (s.axis.get a).gen
       let h := (u.axis.get a).gen
       let back := decide (r.stepLag a < 0)
       let turns := g.dir ≠ back ∧ r.passed g.rise (s.obj (ak 0x480003 a)) = true
       let ready := g.dir = back ∧ r.passed g.rise (2 * s.obj (ak 0x480003 a)) = true ∧
         r.passed g.cut (s.obj (ak 0x480003 a)) = true ∧ r.passed g.turn (s.obj (ak 0x480004 a)) = true
       (r.stepLag a = 0 → h = { g with held := false }) ∧
       (r.stepLag a ≠ 0 → ready →
         h = { g with count := sx 48 (toBits 48 (g.count + if back then -1 else 1)), rise := some (s.clk + 1), held := false, cut := none }) ∧
       (r.stepLag a ≠ 0 → turns → s.obj (ak 0x480004 a) ≠ 0 →
         h = { g with dir := back, turn := some (s.clk + 1), held := true }) ∧
       (r.stepLag a ≠ 0 → ¬turns → ¬ready → h = { g with held := true }) ∧
       (h.held = true → g.held = false → counted s u (ak 0x480045 a) ∧ u.bit (ak 0x480035 a) 8 = true) ∧
       (h.held = false ∨ g.held = true → u.obj (ak 0x480045 a) = s.obj (ak 0x480045 a))))

/-- ENGAGE_GEAR, DISENGAGE_GEAR, SEGMENT, SEGMENT_QUEUE_WRITE, GEARED_AXIS_FAULT and WALK_ENABLE (R447, R448, R449, R450, R451, R453, R454): a ratio becomes current with the position continuous, from the ratio in force; the queue takes at most 8 segments; a limit puts the axis into FAULT, and an overspeed starts the quick stop that leads there; one axis walks at a time, from walk zero, enabled in DISABLED or STANDBY. -/
def Obligations.AxesFollowTheWeb : Prop :=
  (∀ (via : Via) (a : Fin 4) (t : Nat) (s : State),
    reachesPdo via s (ak 0x480010 a) = true → s.axisState a = 1 →
    ∃ u, exec (.engageGear via a t) s = .next u ∧ u.axisState a = 4 ∧ (u.axisKin a).1 = ((s.tick t).axisKin a).1 ∧
      u.ratioInForce a = if s.obj (ak 0x480021 a) = 0 then s.gearRatio a else 0) ∧
  (∀ (via : Via) (a : Fin 4) (t : Nat) (s : State),
    reachesPdo via s (ak 0x480010 a) = true → s.axisState a = 4 →
    ∃ u, exec (.disengageGear via a t) s = .next u ∧ (u.axisKin a).1 = ((s.tick t).axisKin a).1 ∧
      (u.axis.get a).goal = .disengage ∧ (u.axis.get a).r1 = 0 ∧
      u.ratioInForce a = if s.obj (ak 0x480021 a) = 0 then 0 else ((s.tick t).dueSegments a).ratioInForce a) ∧
  (∀ (a : Fin 4) (t y ramp : Nat) (ratio : Int) (rest : List (Nat × Int × Nat)) (s : State),
    s.timing = true → s.axisState a = 4 → (s.axis.get a).queue = (y, ratio, ramp) :: rest →
    ∃ u, exec (.segment a t) s = .next u ∧
      (let r := s.tick t
       (atOrBeyond (r.extrapolated r.clk) y = false → u.axis = r.axis) ∧
       (atOrBeyond (r.extrapolated r.clk) y = true → (u.axis.get a).queue = rest ∧ (u.axisKin a).1 = (r.axisKin a).1 ∧
         (u.axis.get a).r1 = (ratio : Rat) / (2 ^ 32 : Nat) ∧
         u.ratioInForce a = (if ramp = 0 then (ratio : Rat) / (2 ^ 32 : Nat) else r.ratioInForce a) ∧
         u.bit (ak 0x480035 a) 6 = true))) ∧
  (∀ (a : Fin 4) (d : Bytes) (n : Nat) (s : State),
    reaches .sdo s (ak 0x480022 a) = true → d.length = 24 * n →
    (∀ i, i < n → leAt d (24 * i + 20) 4 = 0 ∧ leAt d (24 * i) 8 < 2 ^ 48) →
    ∃ u, exec (.segmentQueueWrite a d) s = .next u ∧
      (let old := (s.axis.get a).queue
       (n = 0 → (u.axis.get a).queue = []) ∧
       (n ≠ 0 → 8 < old.length + n → u.axis = s.axis ∧ u.slave.resp = .abort 0x06090030) ∧
       (n ≠ 0 → old.length + n ≤ 8 → (u.axis.get a).queue = old ++ (List.range n).map fun i =>
         (leAt d (24 * i) 8, sx 64 (leAt d (24 * i + 8) 8), leAt d (24 * i + 16) 4)))) ∧
  (∀ (a : Fin 4) (t : Nat) (s : State),
    s.timing = true → s.axisState a = 4 ∨ s.axisState a = 5 →
    ∃ u, exec (.gearedAxisFault a t) s = .next u ∧
      (let k := (s.tick t).axisKin a
       let lo : Rat := (s.limitMin a : Rat)
       let hi : Rat := (s.limitMax a : Rat)
       let limit := s.limited a = true ∧ (k.1 ≤ lo ∨ hi ≤ k.1)
       (limit → u.axisState a = 6 ∧ u.obj (ak 0x480036 a) = 5 ∧ (u.axisKin a).2.1 = 0 ∧ u.bit 0x5E0010 29 = true ∧
         (lo < hi → (u.axisKin a).1 = if k.1 ≤ lo then lo else hi)) ∧
       (¬limit → s.maxVelocity a < absQ k.2.1 → s.obj (ak 0x48000A a) ≠ 0 →
         u.axisState a = 2 ∧ (u.axis.get a).goal = .fault 4 157 ∧ smooth (s.tick t) u a ∧ (u.axis.get a).v = 0 ∧
         u.obj (ak 0x480044 a) = s.obj (ak 0x480044 a)) ∧
       (¬limit → absQ k.2.1 ≤ s.maxVelocity a → u.axis = (s.tick t).axis ∧ u.axisState a = s.axisState a))) ∧
  (∀ (via : Via) (a : Fin 4) (value t : Nat) (s : State),
    reaches via s (ak 0x480028 a) = true → value ≤ 1 →
    ∃ u, exec (.walkEnable via a value t) s = .next u ∧
      (let k := (s.tick t).axisKin a
       let free := s.axisState a = 1 ∧ k.1 = (sx 64 (s.obj (ak 0x48002E a)) : Rat) ∧ ∀ b : Fin 4, b ≠ a → s.obj (ak 0x480028 b) ≠ 1
       (1 < s.engineState → u.axis = (s.tick t).axis ∧ u.axisState a = s.axisState a ∧ refused via u 0x08000022) ∧
       (s.engineState ≤ 1 → value = 1 → free → u.axisState a = 5 ∧ u.obj (ak 0x480028 a) = 1) ∧
       (s.engineState ≤ 1 → value = 1 → ¬free → u.axisState a = s.axisState a ∧ refused via u 0x08000022) ∧
       (s.engineState ≤ 1 → value = 0 → s.axisState a = 5 →
         u.axisState a = 1 ∧ (u.axisKin a).1 = k.1 ∧ (u.axisKin a).2.1 = 0 ∧ u.obj (ak 0x480028 a) = 0)))

/-- Channel `c` at stack clock `k`, before it issues its command: finished commands have left the retry buffer, waiting requests that find an entry are accepted, and the mode is that of the clock (R468, R472, R497). -/
def Sys2Proof.Claims.atClock (s : State) (c : Fin 8) (k : Nat) : State :=
  let v := (s.stackAt k).chanAt c k
  v.modChan c fun ch => { ch with writeMode := v.inWriteMode ch k }

/-- STACK_REQUEST, STACK_COMMAND_ISSUE, TARGET_MISS and PAGE_IDLE_EXPIRY (R466, R468, R470, R471, R475, R476, R489, R491, R497): a request is decoded, and answered with an error, queued or left waiting by its class's entries; a channel issues at most one command in a clock, and keeps it in its retry buffer; a read returns the bytes that memory holds, unless it meets a poisoned word, and a write replaces exactly the bytes under its mask, after the read of a read-modify-write where it replaces part of a word; an idle row is closed. -/
def Obligations.StackServesRequests : Prop :=
  (∀ (cls : ReqClass) (port addr : Nat) (write : Bool) (data : Bytes) (mask k : Nat) (s : State),
    s.timing = true →
    ∃ u, exec (.stackRequest cls port addr write data mask k) s = .next u ∧ sameData s u ∧
      (let p := s.place (addr / 64 * 64)
       let v := (s.stackAt k).chanAt p.1 k
       let q := if write then (v.chan p.1).writes else (v.chan p.1).reads
       let room := hasRoom q (classCode cls) && !((v.chan p.1).waits.any fun w => w.cls = classCode cls && w.write = write)
       let fits := fun (r : StackReq) => r.addr = addr / 64 * 64 ∧ r.cls = classCode cls ∧ r.write = write ∧ (r.bank, r.row) = p.2 ∧ r.since = k
       let own := !write || s.ownArea (classCode cls) (addr / 64 * 64)
       (s.inStack addr = false → u.stack.chan = s.stack.chan ∧ u.stack.reply = .error) ∧
       (s.inStack addr = true → own = false → u.stack.chan = s.stack.chan ∧ u.stack.reply = s.stack.reply) ∧
       (s.inStack addr = true → own = true → s.requestFails (classCode cls) p.1 = true → u.stack.chan = s.stack.chan ∧ u.stack.reply = .error ∧
         (s.stack.sr ≠ .off → counted s u (ck8 0x500044 p.1))) ∧
       (s.inStack addr = true → own = true → s.requestFails (classCode cls) p.1 = false →
         (room = true → u.stack.reply = .accepted ∧
           ∃ r, (if write then (u.chan p.1).writes else (u.chan p.1).reads) = q ++ [r] ∧ fits r) ∧
         (room = false → u.stack.reply = .waits ∧ ∃ r, (u.chan p.1).waits = (v.chan p.1).waits ++ [r] ∧ fits r)))) ∧
  (∀ (c : Fin 8) (k : Nat) (s : State),
    ∃ u, exec (.stackCommandIssue c k) s = .next u ∧
      (let w := atClock s c k
       let ch := w.chan c
       (((s.stackAt k).chanAt c k).issues c k = false → u.chan c = ((s.stackAt k).chanAt c k).chan c ∧ sameData s u) ∧
       (((s.stackAt k).chanAt c k).issues c k = true →
         (w.nextRefresh ch k true = none → w.nextRequest ch k = none → w.nextRefresh ch k false = none →
           u.chan c = ch ∧ sameData s u) ∧
         (∀ n, w.nextRefresh ch k true = some n ∨ w.nextRefresh ch k true = none ∧ w.nextRequest ch k = none ∧ w.nextRefresh ch k false = some n →
           sameData s u ∧ (u.chan c).reads = ch.reads ∧ (u.chan c).writes = ch.writes ∧ (u.chan c).issued = k + 1 ∧
           (u.chan c).retry.length = ch.retry.length + 1) ∧
         (∀ r, w.nextRefresh ch k true = none → w.nextRequest ch k = some r →
           (u.chan c).issued = (if ch.command r = .write ∧ r.rmw = true then k + rmwGap else k) + 1 ∧
           (u.chan c).retry.length = ch.retry.length + (if ch.command r = .write ∧ r.rmw = true then 2 else 1) ∧
           (ch.command r = .activate → ((u.chan c).bank r.bank).row = some r.row ∧ (u.chan c).reads = ch.reads ∧
             (u.chan c).writes = ch.writes ∧ sameData s u) ∧
           (ch.command r = .precharge → ((u.chan c).bank r.bank).row = none ∧ (u.chan c).reads = ch.reads ∧
             (u.chan c).writes = ch.writes ∧ sameData s u) ∧
           (ch.command r = .read → u.stack.reply = (if w.hitsPoison r then .accepted else .data (s.bytes r.addr 64)) ∧ sameData s u ∧
             (u.chan c).reads = ch.reads.filter fun q => q.id ≠ r.id) ∧
           (ch.command r = .write → (u.chan c).writes = (ch.writes.filter fun q => q.id ≠ r.id) ∧
             (∀ i, i < 64 → r.mask.testBit i = true → u.byte (r.addr + i) = r.data.getD i 0) ∧
             ∀ a, (∀ i, i < 64 → r.mask.testBit i = true → a ≠ r.addr + i) → u.byte a = s.byte a))))) ∧
  (∀ (c : Fin 8) (k : Nat) (s : State),
    ∃ u, exec (.targetMiss c k) s = .next u ∧
      (let v := (s.stackAt k).chanAt c k
       let late := fun (r : StackReq) => !r.missed && decide (v.urgency k r = 3)
       let mark := fun (r : StackReq) => if late r then { r with missed := true } else r
       (u.chan c).reads = (v.chan c).reads.map mark ∧ (u.chan c).writes = (v.chan c).writes.map mark ∧
       ∀ r, r ∈ (v.chan c).reads ++ (v.chan c).writes → late r = true →
         u.bit 0x50000F 6 = true ∧ (r.cls < 8 → min (2 ^ 32 - 1) (s.obj (ck8 (0x500048 + r.cls) c) + 1) ≤ u.obj (ck8 (0x500048 + r.cls) c)))) ∧
  (∀ (c : Fin 8) (bank : Fin 32) (k : Nat) (s : State),
    ∃ u, exec (.pageIdleExpiry c bank k) s = .next u ∧ sameData s u ∧
      (let v := (s.stackAt k).chanAt c k
       let b := (v.chan c).bank bank.val
       let due := v.issues c k = true ∧ b.row.isSome = true ∧ b.fresh = false ∧ v.idleExpired b k = true ∧ b.preOk ≤ k
       (due → ((u.chan c).bank bank.val).row = none ∧ k + 17 ≤ ((u.chan c).bank bank.val).actOk) ∧
       (¬due → u.chan c = v.chan c)))

/-- REFRESH_DUE, REFRESH_WINDOW_START, STACK_TEMP_READING and THERMAL_THROTTLE_WINDOW (R477, R478, R480, R481, R483, R484, R485, R486, R508): the owed count rises once its interval has passed and forces the bank at the postpone limit; a window of 32 ms, or 16 ms, empties tables and throttles; the highest reading is reported, enters and leaves the stages at their thresholds, and trips the stack into self-refresh and the engine into FAULT. -/
def Obligations.RefreshDisturbAndHeat : Prop :=
  (∀ (c : Fin 8) (bank : Fin 32) (k : Nat) (s : State),
    s.stack.sr = .off → s.chanState c ≠ 3 →
    ∃ u, exec (.refreshDue c bank k) s = .next u ∧
      (let b := (s.chan c).bank bank.val
       let full := s.obj 0x500008 ≤ b.owed + 1
       let due := s.nextDue c bank ≤ 128 * k
       (¬due → (u.chan c).banks = (s.chan c).banks) ∧
       (due → ((u.chan c).bank bank.val).due = some (s.nextDue c bank + s.refreshInterval)) ∧
       (due → ¬full → ((u.chan c).bank bank.val).owed = b.owed + 1 ∧ ((u.chan c).bank bank.val).forced = b.forced) ∧
       (due → full → (s.chan c).training = false → b.forced = false →
         ((u.chan c).bank bank.val).owed = b.owed + 1 ∧ ((u.chan c).bank bank.val).forced = true ∧
         counted s u (ck8 0x500040 c) ∧ u.bit 0x50000F 7 = true) ∧
       (due → full → (s.chan c).training = true → ((u.chan c).bank bank.val).owed = b.owed))) ∧
  (∀ (k : Nat) (s : State),
    ∃ u, exec (.refreshWindowStart k) s = .next u ∧
      (let due := s.stack.window + s.refreshWindow ≤ k
       (¬due → u.stack = s.stack) ∧
       (due → u.stack.window = s.stack.window + s.refreshWindow ∧
         ∀ c, (u.chan c).tables = [] ∧ (u.chan c).throttled = [] ∧ (u.chan c).banks = (s.chan c).banks ∧
           (u.chan c).reads = (s.chan c).reads ∧ (u.chan c).writes = (s.chan c).writes))) ∧
  (∀ (temps : List Int) (t : Nat) (s : State),
    temps ≠ [] →
    ∃ u m, exec (.stackTempReading temps t) s = .next u ∧ m ∈ temps ∧ (∀ x ∈ temps, x ≤ m) ∧ u.obj 0x50000C = toBits 16 m ∧
      temps[u.obj 0x50000D]? = some m ∧
      (u.bit 0x50000E 0 = true ↔ if s.bit 0x50000E 0 then 21248 ≤ m else 21760 ≤ m) ∧
      (u.bit 0x50000E 1 = true ↔ if s.bit 0x50000E 1 then 23808 ≤ m else 24320 ≤ m) ∧
      (u.bit 0x50000E 2 = true ↔ s.bit 0x50000E 2 = true ∨ 26880 ≤ m) ∧
      (s.bit 0x50000E 2 = false → 26880 ≤ m → u.engineState = 6 ∧ counted s u 0x500019 ∧
        (s.stack.sr = .off ∨ s.stack.sr = .leaving → u.stack.sr = .entering)) ∧
      (s.bit 0x50000E 2 = true → u.stack.cool = if m < 23808 then some (s.stack.cool.getD (max s.clk t)) else none)) ∧
  (∀ (k : Nat) (s : State),
    ∃ u, exec (.thermalThrottleWindow k) s = .next u ∧
      ∀ c, (u.chan c).ingest = 0 ∧ (u.chan c).capture = 0 ∧ (u.chan c).waited = false ∧
        (let waited := s.thermalWaits c || (s.chan c).waited
         (waited = true → counted s u (ck8 0x500045 c)) ∧
         (waited = false → u.obj (ck8 0x500045 c) = s.obj (ck8 0x500045 c))))

/-- OVERTEMP_RECOVERY, SELF_REFRESH_ENTER, SELF_REFRESH_EXIT, SELF_REFRESH_ENTRY_DONE, SELF_REFRESH_EXIT_DONE and ADDRESS_MAP_WRITE (R465, R486, R487, R488, R490): entry by command only in DISABLED, every queued request failing and counted; entry closes every row; exit, 150 ns after it was begun, resets owed counts, tables and throttles and starts a refresh window; the order written is kept for the next reset. -/
def Obligations.StackEntersAndLeavesSelfRefresh : Prop :=
  (∀ (t : Nat) (s : State),
    ∃ u, exec (.overtempRecovery t) s = .next u ∧
      (let due := s.bit 0x50000E 2 = true ∧ s.stack.sr = .on ∧ ∃ c, s.stack.cool = some c ∧ c + 500000000 ≤ max s.clk t
       (due → u.stack.sr = .leaving) ∧ (¬due → u.stack = s.stack))) ∧
  (∀ (via : Via) (t : Nat) (s : State),
    reaches via s 0x50000B = true →
    ∃ u, exec (.selfRefreshEnter via t) s = .next u ∧ sameData s u ∧
      (s.engineState ≠ 0 → u.stack = s.stack ∧ refused via u 0x08000022) ∧
      (s.engineState = 0 → s.stack.sr = .off → u.stack.sr = .entering ∧
        ∀ c, (u.chan c).reads = [] ∧ (u.chan c).writes = [] ∧ (u.chan c).waits = [] ∧
          (let ch := s.chan c
           u.obj (ck8 0x500044 c) = min (2 ^ 32 - 1) (s.obj (ck8 0x500044 c) + (ch.reads.length + ch.writes.length + ch.waits.length))))) ∧
  (∀ (via : Via) (t : Nat) (s : State),
    reaches via s 0x50000B = true →
    ∃ u, exec (.selfRefreshExit via t) s = .next u ∧
      (s.engineState ≠ 0 → u.stack = s.stack ∧ refused via u 0x08000022) ∧
      (s.engineState = 0 → s.stack.sr = .on → u.stack.sr = .leaving) ∧
      (s.engineState = 0 → s.stack.sr ≠ .on → u.stack = s.stack)) ∧
  (∀ (t : Nat) (s : State),
    s.stack.sr = .entering →
    ∃ u, exec (.selfRefreshEntryDone t) s = .next u ∧ sameData s u ∧ u.stack.sr = .on ∧ u.bit 0x50000E 3 = true ∧
      u.bit 0x50000F 3 = true ∧ counted s u 0x500018 ∧
      ∀ c, (s.chanState c = 1 → u.chanState c = 2) ∧ (u.chan c).retry = [] ∧ ∀ b, ((u.chan c).bank b).row = none) ∧
  (∀ (k : Nat) (s : State),
    s.stack.sr = .leaving → s.stack.leftAt + 180 ≤ k →
    ∃ u, exec (.selfRefreshExitDone [] k) s = .next u ∧ sameData s u ∧ u.stack.window = k ∧ u.stack.sr = .off ∧ u.bit 0x50000E 3 = false ∧
      u.bit 0x50000E 2 = false ∧ u.bit 0x50000F 4 = true ∧
      ∀ c, (u.chan c).banks = [] ∧ (u.chan c).tables = [] ∧ (u.chan c).throttled = [] ∧
        (s.chanState c = 2 → u.chanState c = 1 ∧ u.obj (ck8 0x510018 c) = 1)) ∧
  (∀ (via : Via) (v : Nat) (s : State),
    reaches via s 0x500001 = true →
    ∃ u, exec (.addressMapWrite via v) s = .next u ∧ u.obj 0x500002 = s.obj 0x500002 ∧
      (s.engineState ≠ 0 → u.mram.mapOrder = s.mram.mapOrder ∧ refused via u 0x08000022) ∧
      (s.engineState = 0 → v ≤ 3 → u.mram.mapOrder = v) ∧
      (s.engineState = 0 → 3 < v → u.mram.mapOrder = s.mram.mapOrder ∧ refused via u 0x06090030))

/-- TRAINING_DONE, ALERT, REPLAY_ROUND_DONE and QUICK_TRAINING_DONE (R496, R498, R499, R500, R501, R502, R506, R507, R508, R516): a lane whose eye is below 90 fails and takes the next free spare, a channel without one is retired; words that hold even numbers of ones fail no parity check; one round serves the errors of one clock, and waits 72 clocks where no ALERT is present; an error is masked and counted when a round succeeds; an ALERT for a write drops it; after four rounds the channel retrains where one ended on an ALERT, or the read awaits its retest; a round that fails after retraining retires the channel. -/
def Obligations.ChannelsTrainAndReplay : Prop :=
  (∀ (c : Fin 8) (eyes : List (Nat × Nat)) (k : Nat) (s : State),
    s.timing = true → s.chanState c = 0 → s.bit 0x520001 4 = false → s.bit (ck8 0x51001A c) 0 = false → (∀ e ∈ eyes, 90 ≤ e.2) →
    ∃ u, exec (.trainingDone c eyes k) s = .next u ∧ u.chanState c = 1 ∧ u.obj (ck8 0x510018 c) = 1) ∧
  (∀ (c : Fin 8) (lane eye k : Nat) (s : State),
    s.timing = true → s.chanState c = 0 → s.bit 0x520001 4 = false → s.bit (ck8 0x51001A c) 0 = false → lane < 66 → eye < 90 → s.replaced c lane = false →
    ∃ u, exec (.trainingDone c [(lane, eye)] k) s = .next u ∧
      (let used := s.obj (ck8 0x510010 c)
       (used < 4 → field (s.spareMap c) (8 * used) 8 = 0xFF → u.chanState c = 1 ∧ u.obj (ck8 0x510018 c) = 2 ∧
         u.obj (ck8 0x510010 c) = used + 1 ∧ field (u.spareMap c) (8 * used) 8 = lane) ∧
       (4 ≤ used → u.chanState c = 3 ∧ u.obj (ck8 0x510018 c) = 3 ∧ u.bit 0x200003 c.val = false))) ∧
  (∀ (c : Fin 8) (words : List Nat) (addr start k : Nat) (s : State),
    (∀ w ∈ words, ((List.range 33).filter fun i => w.testBit i).length % 2 = 0) →
    ∃ u, exec (.alert c .readParity words addr ⟨start, k⟩) s = .next u ∧ sameData s u ∧ (u.chan c).replay = (s.chan c).replay) ∧
  (∀ (c : Fin 8) (kind : AlertKind) (words : List Nat) (w addr start k : Nat) (s : State),
    s.chanState c = 1 → (kind = .readParity → w ∈ words ∧ ((List.range 33).filter fun i => w.testBit i).length % 2 = 1) →
    (kind ≠ .readParity → start ≤ k ∧ k ≤ start + 24) →
    ∃ u, exec (.alert c kind words addr ⟨start, k⟩) s = .next u ∧ (kind = .readParity → sameData s u) ∧
      (kind ≠ .readParity → ∀ m q, (((s.stackAt k).chanAt c k).chan c).retry = [m] → m.kind = .write → m.req = some q → start ≤ m.issuedAt →
        ∀ i, i < m.old.length → u.byte (q.addr + i) = m.old.getD i 0) ∧
      (let cause := (kind, if kind = .readParity then addr / 64 * 64 else 0x1000000000)
       ((s.chan c).replay = none → (u.chan c).replay = some { causes := [cause], since := k, round := 1, alerted := false, retrained := false }) ∧
       ∀ r, (s.chan c).replay = some r →
         (u.chan c).replay = some (if r.since = k then { r with causes := r.causes ++ [cause] } else r))) ∧
  (∀ (c : Fin 8) (k : Nat) (kind : AlertKind) (a : Nat) (bad : List Nat) (r : Replay) (s : State),
    (s.chan c).training = false → (s.chan c).replay = some r → r.causes = [(kind, a)] → (kind = .readParity → r.since + 72 ≤ k) →
    (kind = .readParity → a ∉ bad) → (∀ m ∈ (s.chan c).retry, m.kind = .read → ∀ q, m.req = some q → q.addr ∉ bad) → s.stack.poison = [] →
    ∃ u, exec (.replayRoundDone c ⟨false, bad⟩ k) s = .next u ∧ (u.chan c).replay = none ∧
      counted s u (ck8 (maskedKey kind) c) ∧ counted s u (ck8 0x510004 c)) ∧
  (∀ (c : Fin 8) (k : Nat) (kind : AlertKind) (a : Nat) (bad : List Nat) (r : Replay) (s : State),
    (s.chan c).training = false → (s.chan c).replay = some r → r.causes = [(kind, a)] → (kind = .readParity → r.since + 72 ≤ k) →
    ∃ u, exec (.replayRoundDone c ⟨true, bad⟩ k) s = .next u ∧
      (r.retrained = false → r.round < 4 → (u.chan c).replay = some { r with alerted := true, round := r.round + 1, since := k }) ∧
      (r.retrained = false → 4 ≤ r.round →
        (u.chan c).replay = some { r with alerted := true, retrained := true } ∧ (u.chan c).training = true ∧
        counted s u (ck8 0x510005 c) ∧ counted s u (ck8 0x510009 c)) ∧
      (r.retrained = true → u.chanState c = 3 ∧ (u.chan c).replay = none ∧ u.stack.reply = .error ∧ u.bit 0x200003 c.val = false)) ∧
  (∀ (c : Fin 8) (k a : Nat) (r : Replay) (s : State),
    (s.chan c).training = false → (s.chan c).replay = some r → r.causes = [(.readParity, a)] → r.since + 72 ≤ k →
    (∀ m ∈ (s.chan c).retry, m.kind = .read → ∀ q, m.req = some q → q.addr = a) →
    ∃ u, exec (.replayRoundDone c ⟨false, [a]⟩ k) s = .next u ∧
      (r.retrained = false → r.round < 4 → (u.chan c).replay = some { r with round := r.round + 1, since := k }) ∧
      (r.retrained = false → 4 ≤ r.round → r.alerted = false →
        (u.chan c).replay = none ∧ (u.chan c).retests = (s.chan c).retests ++ [(a, k)] ∧ u.stack.reply = .error ∧
        counted s u (ck8 0x510006 c)) ∧
      (r.retrained = true → u.chanState c = 3 ∧ (u.chan c).replay = none ∧ u.stack.reply = .error ∧ u.bit 0x200003 c.val = false)) ∧
  (∀ (c : Fin 8) (eyes : List (Nat × Nat)) (k : Nat) (s : State),
    (s.chan c).training = true → s.obj 0x5F1009 = 0xFFFFFFFF → (∀ e ∈ eyes, 90 ≤ e.2) →
    ∃ u, exec (.quickTrainingDone c eyes k) s = .next u ∧ (u.chan c).training = false ∧ u.chanState c = s.chanState c ∧
      u.obj (ck8 0x510018 c) = 1) ∧
  (∀ (c : Fin 8) (lane eye k : Nat) (s : State),
    (s.chan c).training = true → s.obj 0x5F1009 = 0xFFFFFFFF → lane < 66 → eye < 90 → s.replaced c lane = false → 4 ≤ s.obj (ck8 0x510010 c) →
    ∃ u, exec (.quickTrainingDone c [(lane, eye)] k) s = .next u ∧ (u.chan c).training = false ∧ u.chanState c = 3 ∧
      u.bit 0x200003 c.val = false ∧ (2 ≤ s.engineState → s.engineState ≤ 4 → u.engineState = 5 ∨ u.engineState = 6))

/-- RETEST_READ, EYE_SWEEP, PATROL_READ and REBUILD_DONE (R502, R509, R510, R513, R514, R515, R518, R520): a second failed retest gives the row the next spare row of its bank group, or marks its page pending; an eye below 77 warns and one below 51 retrains; a patrol read that fails awaits its retest; a rebuild brings the channels in service and the retired pages into force, and a word whose copy could not be read is poisoned. -/
def Obligations.RowsPagesAndMapAreRepaired : Prop :=
  (∀ (c : Fin 8) (ok : Bool) (poison : List Nat) (k addr since : Nat) (rest : List (Nat × Nat)) (s : State),
    (s.chan c).retests = (addr, since) :: rest → since + 12000 ≤ k → s.requestFails 7 c = false →
    ∃ u, exec (.retestRead c ok poison k) s = .next u ∧ (u.chan c).retests = rest ∧
      (let p := s.place addr
       let key := p.2.1 * 65536 + p.2.2
       let fails := ok = false ∨ s.poisoned addr = true
       (¬fails → u.mram.repair = s.mram.repair ∧ u.stack.pending = s.stack.pending ∧ u.obj (ck8 0x510007 c) = s.obj (ck8 0x510007 c)) ∧
       (fails → counted s u (ck8 0x510007 c) ∧
         (findKey (s.chan c).rowFails key = none → findKey (u.chan c).rowFails key = some 1 ∧ u.mram.repair = s.mram.repair) ∧
         (findKey (s.chan c).rowFails key = some 1 →
           let used := s.sparesUsed c (p.2.1 / 4)
           (used < 16 → u.mram.repair.rows = s.mram.repair.rows ++ [(c.val, p.2.1, p.2.2, used)] ∧ counted s u 0x520042 ∧
             u.bit 0x520002 2 = true) ∧
           (16 ≤ used → u.mram.repair.rows = s.mram.repair.rows ∧
             ∃ q ∈ u.stack.pending ++ u.stack.retiring ++ u.mram.repair.pages, q.2.2 = s.pageOf c p.2.2))))) ∧
  (∀ (c : Fin 8) (eyes : List (Nat × Nat)) (k : Nat) (s : State),
    s.timing = true → s.chanState c = 1 → eyes ≠ [] →
    ∃ u e, exec (.eyeSweep c eyes k) s = .next u ∧ e ∈ eyes ∧ (∀ f ∈ eyes, e.2 ≤ f.2) ∧
      u.obj (ck8 0x510016 c) = e.2 ∧ u.obj (ck8 0x510017 c) = e.1 ∧
      (e.2 < 77 → u.bit (ck8 0x51001A c) 4 = true) ∧ (77 ≤ e.2 → u.bit (ck8 0x51001A c) 4 = s.bit (ck8 0x51001A c) 4) ∧
      (e.2 < 51 → (u.chan c).training = true) ∧ (51 ≤ e.2 → (u.chan c).training = (s.chan c).training)) ∧
  (∀ (ok : Bool) (k : Nat) (s : State),
    s.timing = true → 0 < s.populated → s.stack.patrol % 64 = 0 →
    ∃ u, exec (.patrolRead ok k) s = .next u ∧
      (let a := if s.stack.patrol < s.populated then s.stack.patrol else 0
       let c := (s.place (0x1000000000 + a)).1
       u.stack.patrol = (if a + 64 < s.populated then a + 64 else 0) ∧
       (s.requestFails 7 c = true → (u.chan c).retests = (s.chan c).retests ∧ (s.stack.sr ≠ .off → counted s u (ck8 0x500044 c))) ∧
       (s.requestFails 7 c = false →
         (ok = true ∧ s.poisoned (0x1000000000 + a) = false → (u.chan c).retests = (s.chan c).retests) ∧
         (ok = false ∨ s.poisoned (0x1000000000 + a) = true →
           (u.chan c).retests = (s.chan c).retests ++ [(0x1000000000 + a, k)] ∧ counted s u (ck8 0x510006 c) ∧
           counted s u (ck8 0x510008 c))))) ∧
  (∀ (poison : List Nat) (finds : List (Nat × Bool)) (t : Nat) (s : State),
    s.bit 0x520001 1 = true → s.stack.result = none →
    ∃ u, exec (.rebuildDone ⟨poison, finds, t⟩) s = .next u ∧ u.bit 0x520001 1 = false ∧
      (∀ w ∈ poison, u.inStack (w / 4 * 4) = true → w / 4 * 4 ∈ u.stack.poison) ∧
      u.mram.repair.pages = s.mram.repair.pages ++ s.stack.retiring ∧ u.stack.retiring = [] ∧
      u.obj 0x520005 = u.pagesFor u.stack.mapped ∧ u.obj 0x200002 = u.pagesFor u.stack.mapped * 0x80000 ∧
      (s.stack.rebuild = true → u.stack.mapped = s.inService ∧ counted s u 0x520044 ∧ u.bit 0x520002 5 = true) ∧
      (s.stack.rebuild = false → u.stack.mapped = s.stack.mapped))

/-- MBIST_RUN, MBIST_ABORT, MBIST_DONE, STK_WIR, STK_WDR, CLEAR_LISTS and STACK_LOSS_CLEAR (R504, R522, R523, R524, R525): MBIST runs only in DISABLED and destroys the stack's contents; its channels are ACTIVE when it ends with its result; a wrapper register is connected only while 1500 access is 1; the lists are erased at the next reset; every stack-loss range is cleared. -/
def Obligations.MbistJtagAndLists : Prop :=
  (∀ (via : Via) (t : Nat) (s : State),
    reaches via s 0x520010 = true →
    ∃ u, exec (.mbistRun via t) s = .next u ∧
      (s.engineState ≠ 0 → u.stack = s.stack ∧ sameData s u ∧ refused via u 0x08000022) ∧
      (s.engineState = 0 → s.bit 0x520001 4 = false → u.bit 0x520001 4 = true ∧ u.obj 0x520013 = 1 ∧ u.stack.algorithm = s.obj 0x520012 ∧
        (∀ a, u.byte a = if a < 0x1000000000 then s.byte a else memDefault a) ∧
        ∀ c : Fin 8, s.bit 0x520011 c.val = true → s.bit 0x200003 c.val = true → u.chanState c = 0)) ∧
  (∀ (via : Via) (t : Nat) (s : State),
    reaches via s 0x520010 = true →
    ∃ u, exec (.mbistAbort via t) s = .next u ∧ u.stack = { s.stack with abort := s.stack.abort || s.bit 0x520001 4 }) ∧
  (∀ (rows : List (Fin 8 × Fin 32 × Nat)) (eyes : List (Fin 8 × Nat × Nat)) (t : Nat) (s : State),
    s.bit 0x520001 4 = true → s.stack.result = none →
    ∃ u, exec (.mbistDone rows eyes t) s = .next u ∧
      u.obj 0x520014 = (rows.filter fun r => s.mbistChannels.contains r.1).length) ∧
  (∀ (t : Nat) (s : State),
    s.bit 0x520001 4 = true → s.stack.result = none → s.bit 0x520001 1 = false → s.inService = s.stack.mapped →
    s.stack.pending = [] → (∀ c, s.bit (ck8 0x51001A c) 0 = false) → (∀ c ∈ s.mbistChannels, s.retrains c.val < 4) →
    ∃ u, exec (.mbistDone [] [] t) s = .next u ∧ u.bit 0x520001 4 = false ∧ u.bit 0x520002 6 = true ∧
      u.obj 0x520013 = (if s.stack.abort then 5 else 2) ∧ ∀ c ∈ s.mbistChannels, s.chanState c = 0 → u.chanState c = 1) ∧
  (∀ (wir : Bool) (s : State),
    ∃ u, exec (if wir then .stkWir else .stkWdr) s = .next u ∧
      (let j : Jtag := if s.obj 0x520015 = 1 then (if wir then .wir (s.obj 0x520016) else .wdr (s.obj 0x520016)) else .bypass
       u.stack = { s.stack with ir := if wir then 0x2A else 0x2B } ∧ u.jtag = j)) ∧
  (∀ (via : Via) (s : State),
    reaches via s 0x520008 = true →
    ∃ u, exec (.clearLists via) s = .next u ∧ u.mram.repair = s.mram.repair ∧
      (s.engineState = 0 → u.mram.clearLists = true) ∧
      (s.engineState ≠ 0 → u.mram.clearLists = s.mram.clearLists ∧ refused via u 0x08000022)) ∧
  (∀ (via : Via) (v : Nat) (s : State),
    reaches via s 0x520040 = true → v ≤ 1 →
    ∃ u, exec (.stackLossClear via v) s = .next u ∧
      ∀ n, n < 16 → u.obj (0x520020 + n) = (if v = 1 then 0xFFFFFFFF else s.obj (0x520020 + n)) ∧
        u.obj (0x520030 + n) = (if v = 1 then 0xFFFFFFFF else s.obj (0x520030 + n)))

/-- SRAM_CLEAR_DONE, SCRUB_STEP and MEMORY_ACCESS (R36, R531, R534, R535, R536, R537, R538, R539, R540): the clearing that follows a reset leaves every SRAM byte 0 and every word good; the scrub steps through the bank words and counts what it finds; an access that decodes reads what memory holds or writes exactly its bytes; a word with a double error answers with an error; a lost system write is repeated once, or not made. -/
def Obligations.SramIsClearedScrubbedAndAccessed : Prop :=
  (∀ s : State,
    ∃ u, exec .sramClearDone s = .next u ∧ u.bit 0x580008 0 = true ∧
      (s.bit 0x580008 0 = false → (∀ a, u.byte a = if a < 0x02800000 then memDefault a else s.byte a) ∧
        u.sram.bad = [] ∧ (u.bit 0x580008 1 = true ↔ s.obj 0x58000C ≠ 0)) ∧
      (s.bit 0x580008 0 = true → u.sram = s.sram ∧ sameData s u)) ∧
  (∀ (found : List (Nat × Bool)) (s : State),
    ∃ u, exec (.scrubStep found) s = .next u ∧ sameData s u ∧
      (s.bit 0x580008 1 = false → u.sram = s.sram) ∧
      (s.bit 0x580008 1 = true → u.sram.scrubWord = (s.sram.scrubWord + 1) % 163840 ∧
        (found = [] → (∀ w ∈ s.sram.bad, w / 256 ≠ s.sram.scrubWord) → u.sram.bad = s.sram.bad ∧ u.obj 0x58000D = s.obj 0x58000D ∧
          u.obj 0x58000E = s.obj 0x58000E) ∧
        (∀ a, found = [(a, false)] → a / 256 = s.sram.scrubWord → (∀ w ∈ s.sram.bad, w / 256 ≠ s.sram.scrubWord) →
          counted s u 0x58000D ∧ u.sram.bad = s.sram.bad) ∧
        ∀ a, found = [(a, true)] → a / 256 = s.sram.scrubWord → (∀ w ∈ s.sram.bad, w / 256 ≠ s.sram.scrubWord) →
          counted s u 0x58000E ∧ a / 8 * 8 ∈ u.sram.bad ∧
            u.obj 0x58000A = if s.obj 0x58000A = 0xFFFFFFFF then a / 8 * 8 else s.obj 0x58000A)) ∧
  (∀ (m : Master) (write : Bool) (a width v n : Nat) (ecc : EccFind) (s : State),
    memoryDecodes s a width = false → ¬(inRegisters a = true ∧ width = 4 ∧ a % 4 = 0) →
    ∃ u, exec (.memoryAccess m write a width v n ecc) s = .next u ∧ u.slave.resp = .decodeError ∧ sameData s u) ∧
  (∀ (m : Master) (a width v n : Nat) (ecc : EccFind) (s : State),
    memoryDecodes s a width = true → inSram a = true →
    ∃ u, exec (.memoryAccess m false a width v n ecc) s = .next u ∧ sameData s u ∧
      (let bad := ecc = .double ∨ s.badWord a width ≠ none
       (¬bad → u.slave.resp = .busData (leNat (s.memRead a width).1) ∧
         ((∀ i, i < width → s.openByte (a + i) = false) → u.slave.resp = .busData (s.num a width)) ∧ (ecc = .single → counted s u 0x58000D)) ∧
       (bad → u.slave.resp = .errorResponse ∧ counted s u 0x58000E))) ∧
  (∀ (m : Master) (a width v : Nat) (n : Nat) (s : State),
    memoryDecodes s a width = true → inSram a = true → s.badWord a width = none →
    ∃ u, exec (.memoryAccess m true a width v n .clean) s = .next u ∧
      (let made := n = 0 ∨ m = .maint ∨ (m = .window ∧ n = 1)
       (∀ b, b < a ∨ a + width ≤ b → u.byte b = s.byte b) ∧
       (made → u.num a width = v % 2 ^ (8 * width) ∧ u.slave.resp = .busDone) ∧
       (¬made → u.num a width = s.num a width ∧ u.slave.resp = if m = .firmware then .busDone else .errorResponse) ∧
       (n ≠ 0 → m ≠ .maint → u.bit 0x580009 2 = true ∧ u.obj 0x58000B = if s.obj 0x58000B = 0xFFFFFFFF then a else s.obj 0x58000B))) ∧
  (∀ (m : Master) (a width v n : Nat) (ecc : EccFind) (s : State),
    memoryDecodes s a width = true → inSram a = false → s.requestFails (masterClass m) (s.place a).1 = false → s.stack.poison = [] →
    (∃ u, exec (.memoryAccess m false a width v n ecc) s = .next u ∧ sameData s u ∧
      u.slave.resp = .busData (leNat (s.memRead a width).1) ∧
      ((∀ i, i < width → s.openByte (a + i) = false) → (∀ c, (s.chan c).pendingWrites = []) → u.slave.resp = .busData (s.num a width))) ∧
    ∃ u, exec (.memoryAccess m true a width v n ecc) s = .next u ∧ u.slave.resp = .busDone ∧
      (s.busDiscards a = true → sameData s u) ∧
      (s.busDiscards a = false → u.num a width = v % 2 ^ (8 * width) ∧ ∀ b, b < a ∨ a + width ≤ b → u.byte b = s.byte b)) ∧
  (∀ (m : Master) (write : Bool) (a width v n : Nat) (ecc : EccFind) (s : State),
    memoryDecodes s a width = true → inSram a = false → s.requestFails (masterClass m) (s.place a).1 = true →
    ∃ u, exec (.memoryAccess m write a width v n ecc) s = .next u ∧ u.slave.resp = .errorResponse ∧ sameData s u ∧
      (s.stack.sr ≠ .off → counted s u (ck8 0x500044 (s.place a).1)))

/-- DMA_START, DESCRIPTOR_FETCH and DESCRIPTOR_COMPLETE (R541, R542, R544, R545, R546, R549, R550): a start needs IDLE and no bus stop; a bad descriptor moves nothing; a completed one lays each byte of the destination stream from its source byte, changes no other byte but its status, and ends the chain at LAST. -/
def Obligations.DmaChainsRunTheirDescriptors : Prop :=
  (∀ (via : Via) (ch : Fin 32) (t : Nat) (s : State),
    reachesPdo via s (dk 0x580011 ch) = true →
    ∃ u, exec (.dmaStart via ch t) s = .next u ∧ sameData s u ∧
      (let free := s.obj (dk 0x580013 ch) = 0 ∧ s.busStopped = false
       (free → u.obj (dk 0x580013 ch) = 1 ∧ u.dma.get ch = { fetch := some (s.obj (dk 0x580010 ch)), desc := none, ahead := none }) ∧
       (¬free → u.dma = s.dma ∧ u.obj (dk 0x580013 ch) = s.obj (dk 0x580013 ch) ∧ u.bit (dk 0x580017 ch) 4 = true ∧
         (via ≠ .pdo → refused via u 0x08000022)))) ∧
  (∀ (ch : Fin 32) (finds : List (Nat × Bool)) (t a : Nat) (s : State),
    s.obj (dk 0x580013 ch) = 1 → s.timing = true → (s.dma.get ch).fetch = some a → s.badWord a 32 = none →
    ∃ u, exec (.descriptorFetch ch ⟨finds, t⟩) s = .next u ∧ sameData s u ∧
      ((∃ f ∈ finds, f.2 = true ∧ a < f.1 / 8 * 8 + 8 ∧ f.1 / 8 * 8 < a + 32) ∨ (s.dma.get ch).ahead.isSome = true → u.dma = s.dma) ∧
      ((∀ f ∈ finds, f.2 = false) → (s.dma.get ch).ahead = none →
       let d := (s.sramRead a 32).1
       ((s.dma.get ch).desc.isSome = true → (u.dma.get ch).ahead = some d ∧ (u.dma.get ch).desc = (s.dma.get ch).desc) ∧
       ((s.dma.get ch).desc = none → u.obj (dk 0x580015 ch) = a ∧
         (s.descBad d = true → u.obj (dk 0x580013 ch) = 0 ∧ u.obj (dk 0x580014 ch) = 3 ∧ u.bit (dk 0x580017 ch) 2 = true ∧
           counted s u (dk 0x580023 ch) ∧ u.obj (dk 0x580016 ch) = if emptyDesc d then 0 else streamLength d) ∧
         (s.descBad d = false → u.obj (dk 0x580013 ch) = 1 ∧ (u.dma.get ch).desc = some d)))) ∧
  (∀ (ch : Fin 32) (corrected : Nat) (collided : List Nat) (t : Nat) (d : Bytes) (s : State),
    s.obj (dk 0x580013 ch) = 1 → s.timing = true → (s.dma.get ch).desc = some d → s.descBad d = false →
    s.sideReads (srcSide d) = true → s.sideWrites (dstSide d) = true →
    (descCtrl d).testBit 0 = true ∨ (s.dma.get ch).ahead = none →
    ∃ u, exec (.descriptorComplete ch corrected collided t) s = .next u ∧ u.obj (dk 0x580014 ch) = 1 ∧ u.obj (dk 0x580016 ch) = 0 ∧
      counted s u (dk 0x580020 ch) ∧ (collided ≠ [] → u.bit 0x580009 2 = true) ∧ (corrected ≠ 0 → u.bit 0x580009 0 = true) ∧
      ((descCtrl d).testBit 0 = true → u.obj (dk 0x580013 ch) = 0 ∧ u.bit (dk 0x580017 ch) 0 = true ∧ counted s u (dk 0x580021 ch)) ∧
      ((descCtrl d).testBit 0 = false → u.obj (dk 0x580013 ch) = 1 ∧ (u.dma.get ch).desc = none ∧
        ((descCtrl d).testBit 2 = true → u.bit (dk 0x580017 ch) 0 = true)) ∧
      (let at_ := s.obj (dk 0x580015 ch) + 0x18
       let n := streamLength d
       let dst := fun (p : Nat) => ((dstSide d).addr p).toNat
       let status := fun (a : Nat) => (descCtrl d).testBit 1 = true ∧ at_ ≤ a ∧ a < at_ + 8
       ((descCtrl d).testBit 1 = true → inSram at_ = true → u.num at_ 4 = 0 ∧ u.num (at_ + 4) 4 = 1) ∧
       (∀ a, (∀ p, p < n → dst p ≠ a) → ¬status a → u.byte a = s.byte a) ∧
       (∀ p, p < n → (∀ r, r < n → dst r / 64 = dst p / 64 → s.busDiscards (dst r) = true) → ¬status (dst p) →
         u.byte (dst p) = s.byte (dst p)) ∧
       ∀ p, p < n → descShuffle d < 3 → (∀ r, r < n → dst r / 64 = dst p / 64 → s.busDiscards (dst r) = false) → ¬status (dst p) →
         (∀ r, r < n → dst r = dst p → r = p) →
         (∀ r, r < p → (dstSide d).addr r ≠ (srcSide d).addr (shuffleSource d p)) →
         (let a := ((srcSide d).addr (shuffleSource d p)).toNat
          s.openByte a = false → u.byte (dst p) = if inSram a then s.byte a else s.latestByte a))) ∧
  (∀ (d : Bytes) (p : Nat),
    descShuffle d = 0 → shuffleSource d p = p) ∧
  (∀ (d e : Bytes) (p : Nat),
    descShuffle d = 1 → descShuffle e = 2 → descPlanes e = descPlanes d → descElem e = descElem d → streamLength e = streamLength d →
    streamLength d % (descPlanes d * descElem d) = 0 → p < streamLength d → shuffleSource e (shuffleSource d p) = p)

/-- DMA_ABORT, DMA_BUS_ERROR and BUS_ERROR_CLEAR (R551, R553, R554): an abort ends the channel with its residue and is ignored when IDLE; a bus error is captured once and stops every channel; the clear lets channels start again. -/
def Obligations.DmaAbortsAndBusErrors : Prop :=
  (∀ (via : Via) (ch : Fin 32) (written corrected : Nat) (collided : List Nat) (t : Nat) (s : State),
    reachesPdo via s (dk 0x580011 ch) = true →
    ∃ u, exec (.dmaAbort via ch ⟨written, corrected, collided⟩ t) s = .next u ∧
      (s.obj (dk 0x580013 ch) = 0 → u.dma = s.dma ∧ sameData s u ∧ u.obj (dk 0x580017 ch) = s.obj (dk 0x580017 ch)) ∧
      (s.obj (dk 0x580013 ch) ≠ 0 → u.obj (dk 0x580013 ch) = 0 ∧ u.obj (dk 0x580014 ch) = 2 ∧ u.bit (dk 0x580017 ch) 1 = true ∧
        counted s u (dk 0x580022 ch) ∧ u.dma.get ch = DmaChan.reset ∧
        u.obj (dk 0x580016 ch) = match (s.dma.get ch).desc with
          | none => 0
          | some d => streamLength d - min written (streamLength d))) ∧
  (∀ (ch : Fin 32) (write : Bool) (addr cause : Nat) (written : List Nat) (corrected : Nat) (collided : List (Fin 32 × Nat)) (t : Nat) (s : State),
    s.timing = true → s.obj (dk 0x580013 ch) ≠ 0 →
    ∃ u, exec (.dmaBusError ch write addr cause ⟨written, corrected, collided⟩ t) s = .next u ∧ u.bit 0x580002 0 = true ∧
      (s.busStopped = true → u.obj 0x580001 = s.obj 0x580001 ∧ u.obj 0x580003 = s.obj 0x580003) ∧
      (s.busStopped = false → u.bit 0x580001 0 = true ∧ u.bit 0x580001 1 = write ∧
        u.bit 0x580001 2 = decide (0x1000000000 ≤ addr) ∧ field (u.obj 0x580001) 4 4 = cause % 16 ∧ u.obj 0x580003 = addr) ∧
      ∀ x : Fin 32, u.obj (dk 0x580013 x) = 0 ∧
        (s.obj (dk 0x580013 x) ≠ 0 → u.obj (dk 0x580014 x) = 4 ∧ u.bit (dk 0x580017 x) 3 = true ∧ counted s u (dk 0x580024 x)) ∧
        (s.obj (dk 0x580013 x) = 0 → u.obj (dk 0x580014 x) = s.obj (dk 0x580014 x) ∧ u.dma.get x = s.dma.get x)) ∧
  (∀ (via : Via) (s : State),
    reaches via s 0x580005 = true →
    ∃ u, exec (.busErrorClear via) s = .next u ∧ u.busStopped = false ∧ sameData s u ∧ u.obj 0x580003 = s.obj 0x580003)

/-- No channel waits to leave service, and four are in service or their lack has been reported: a job boundary then brings no FAULT (R515, R519). -/
def Sys2Proof.Claims.channelsKeep (s : State) : Prop :=
  (∀ c : Fin 8, s.bit (ck8 0x51001A c) 0 = false) ∧ (4 ≤ (chanList s.inService).length ∨ s.bit 0x520001 2 = true)

/-- How a judged command is reported: last command, status, acknowledged sequence, and its count; a refused one sets CMD_REFUSED and changes neither the engine nor memory (R578, R584, R585, R587). -/
def Sys2Proof.Claims.reported (via : Via) (s u : State) (code : Nat) (abort : Option Nat) (status : Nat) : Prop :=
  u.obj 0x5F100B = code ∧ u.obj 0x5F1004 = status ∧ u.obj 0x5F1005 = (if via = .pdo then s.obj 0x5F1003 else s.obj 0x5F1005) ∧
  match abort with
  | none => counted s u 0x5F1020 ∧ (via = .sdo → u.slave.resp = .done)
  | some a => counted s u 0x5F1021 ∧ u.bit 0x5F100C 2 = true ∧ (via ≠ .pdo → refused via u a) ∧
      (s.obj 0x5F1009 = 0xFFFFFFFF → u.engineState = s.engineState ∧ sameData s u)

/-- AL_STATE_REQUEST, WATCHDOG, MAILBOX_UNSUPPORTED and SII_WRITE (R559, R560, R561, R562, R563): the AL state goes where the table lets it, else the request is refused with its AL status; leaving OP takes the engine to DISABLED from STANDBY and to FAULT with cause 102 from a job; the watchdog enters SAFEOP with 0x001B; unsupported protocols get the mailbox error; the SII is written in INIT and PREOP alone. -/
def Obligations.AlStateFollowsRequests : Prop :=
  (∀ (target : AlState) (sm0 sm1 sm2 sm3 sync0 firstOut t : Nat) (bootMbx : Bool) (s : State),
    ∃ u, exec (.alStateRequest target sm0 sm1 sm2 sm3 sync0 firstOut bootMbx t) s = .next u ∧
      (let enters := u.slave.al = target ∧ u.slave.alStatus = 0 ∧ u.slave.resp = .done
       let refuses := fun (code : Nat) => u.slave.al = s.slave.al ∧ u.slave.alStatus = code ∧ u.slave.resp = .alRefused code
       (target = s.slave.al → u.slave.al = s.slave.al ∧ u.slave.alStatus = s.slave.alStatus) ∧
       (s.slave.al = .init → s.slave.ready = false → (target = .boot → s.obj 0x200007 ≠ 0xFF) → u.slave.al = .init) ∧
       (s.slave.al ≠ .init → target = .init → enters) ∧
       (s.slave.al = .init → s.slave.ready = true →
         (target = .preop → (32 ≤ sm0 ∧ sm0 ≤ 512 ∧ 32 ≤ sm1 ∧ sm1 ≤ 512 → enters) ∧
           (¬(32 ≤ sm0 ∧ sm0 ≤ 512 ∧ 32 ≤ sm1 ∧ sm1 ≤ 512) → refuses 0x0016)) ∧
         (target = .boot → if bootMbx then enters else refuses 0x0016) ∧ (target = .safeop ∨ target = .op → refuses 0x0011)) ∧
       (s.slave.al = .preop → target = .safeop →
         if sm2 ≠ s.assignedBytes 0x1C12 then refuses 0x001D
         else if sm3 ≠ s.assignedBytes 0x1C13 then refuses 0x001E
         else if s.obj 0x1C3201 = 2 ∧ ¬(sync0 % 2 = 0 ∧ 125000 ≤ sync0 ∧ sync0 ≤ 100000000 ∧ sync0 = s.obj 0x1C3202) then refuses 0x0030
         else enters) ∧
       (s.slave.al = .safeop → target = .op → if firstOut = s.assignedBytes 0x1C12 then enters else refuses 0x001D) ∧
       ((s.slave.al = .safeop ∧ target = .preop) ∨ (s.slave.al = .op ∧ (target = .safeop ∨ target = .preop)) → enters) ∧
       (s.slave.al = .boot ∧ target ≠ .boot ∧ target ≠ .init ∨ (s.slave.al = .preop ∨ s.slave.al = .safeop ∨ s.slave.al = .op) ∧ target = .boot ∨
         s.slave.al = .preop ∧ target = .op → refuses 0x0011))) ∧
  (∀ (target : AlState) (sm0 sm1 sm2 sm3 sync0 firstOut t : Nat) (bootMbx : Bool) (s : State),
    s.slave.al = .op → target = .safeop ∨ target = .preop ∨ target = .init →
    ∃ u, exec (.alStateRequest target sm0 sm1 sm2 sm3 sync0 firstOut bootMbx t) s = .next u ∧ u.bit 0x200023 0 = true ∧
      (s.engineState = 1 → channelsKeep s → u.engineState = 0) ∧
      (2 ≤ s.engineState → s.engineState ≤ 5 → u.engineState = 6 ∧ u.obj 0x5F1008 = 102 ∧ u.bit 0x5F100C 3 = true) ∧
      (s.engineState = 0 ∨ s.engineState = 6 → u.engineState = s.engineState)) ∧
  (∀ (t : Nat) (s : State),
    ∃ u, exec (.watchdog t) s = .next u ∧
      (s.slave.al ≠ .op → u.slave.al = s.slave.al ∧ u.slave.alStatus = s.slave.alStatus ∧ u.engineState = s.engineState) ∧
      (s.slave.al = .op → u.slave.al = .safeop ∧ u.slave.alStatus = 0x001B ∧ u.bit 0x200023 1 = true ∧ u.bit 0x200023 0 = true ∧
        u.slave.rxWait = none ∧ u.obj 0x5F1002 = s.obj 0x5F1002 ∧ u.obj 0x5F1003 = s.obj 0x5F1003 ∧
        (2 ≤ s.engineState → s.engineState ≤ 5 → u.engineState = 6 ∧ u.obj 0x5F1008 = 102))) ∧
  (∀ (p : Protocol) (s : State),
    ∃ u, exec (.mailboxUnsupported p) s = .next u ∧ sameData s u ∧
      (s.slave.al ≠ .init → (p = .coe → s.slave.al = .boot) → u.slave.resp = .mailboxError)) ∧
  (∀ (offset word : Nat) (s : State),
    ∃ u, exec (.siiWrite offset word) s = .next u ∧ sameData s u ∧
      (if (s.slave.al = .init ∨ s.slave.al = .preop) ∧ offset < 2048 then u.mram.sii = putKey s.mram.sii offset (word % 2 ^ 16) else u.mram.sii = s.mram.sii))

/-- PROCESS_DATA_OUTPUT, INPUT_SAMPLE, SYNC0_EVENT, DC_ACTIVATION, DC_SYNCHRONISED, DC_UNSYNC and EMERGENCY_SEND (R71, R563, R566, R567, R568, R569, R585, R592), the outputs under the mapping of R567: data reach their objects in OP, under sync type 2 at the next SYNC0; a mapped command runs only where the sequence has changed; the DC state follows the differences; an emergency leaves the queue oldest first. -/
def Obligations.ProcessDataIsExchangedBySyncType : Prop :=
  (∀ (d : Bytes) (t : Nat) (s : State),
    s.slave.al = .op → s.obj 0x1C1200 = 1 → s.obj 0x1C1201 = 0x1600 → s.obj 0x160000 = 3 → s.obj 0x160001 = 0x5F100108 →
    s.obj 0x160002 = 0x5F100308 → s.obj 0x160003 = 0x5F100220 → d.length = 6 →
    ∃ u, exec (.processDataOutput d t) s = .next u ∧
      (s.obj 0x1C3201 = 2 → u.slave.rxWait = some d ∧ u.obj 0x5F1002 = s.obj 0x5F1002 ∧ u.obj 0x5F1003 = s.obj 0x5F1003 ∧ u.engineState = s.engineState) ∧
      (s.obj 0x1C3201 ≠ 2 → u.obj 0x5F1003 = leAt d 1 1 ∧ u.obj 0x5F1002 = leAt d 2 4 ∧
        (s.slave.cmdRef = none ∨ s.slave.cmdRef = some (leAt d 1 1) → u.engineState = s.engineState ∧ u.obj 0x5F1004 = s.obj 0x5F1004 ∧
          u.obj 0x5F1005 = s.obj 0x5F1005 ∧ u.slave.cmdRef = some (leAt d 1 1)) ∧
        (∀ q, s.slave.cmdRef = some q → q ≠ leAt d 1 1 → u.obj 0x5F1005 = leAt d 1 1 ∧ u.obj 0x5F100B = leAt d 0 1 ∧ u.slave.cmdRef = some (leAt d 1 1) ∧
          (10 < leAt d 0 1 → u.obj 0x5F1004 = 22 ∧ counted s u 0x5F1021) ∧
          (leAt d 0 1 = 4 → s.engineState ≠ 2 → u.obj 0x5F1004 = 3 ∧ counted s u 0x5F1021)))) ∧
  (∀ (d : Bytes) (t : Nat) (s : State),
    (s.slave.al ≠ .safeop ∧ s.slave.al ≠ .op) ∨ d.length ≠ s.assignedBytes 0x1C12 →
    ∃ u, exec (.processDataOutput d t) s = .next u ∧ sameData s u ∧ u.slave.rxWait = s.slave.rxWait ∧ u.slave.txSample = s.slave.txSample ∧
      u.obj 0x5F1002 = s.obj 0x5F1002 ∧ u.engineState = s.engineState) ∧
  (∀ (t : Nat) (s : State),
    s.obj 0x1C1300 = 1 → s.obj 0x1C1301 = 0x1A00 → s.obj 0x1A0000 = 2 → s.obj 0x1A0001 = 0x5F100608 → s.obj 0x1A0002 = 0x5F100408 →
    ∃ u v, exec (.inputSample t) s = .next u ∧ exec (.sync0Event t) s = .next v ∧
      (let image := [leBytes 2 (s.obj 0x5F1006 % 256 + s.obj 0x5F1004 % 256 * 256)]
       let live := s.slave.al = .safeop ∨ s.slave.al = .op
       u.slave.txSample = (if live ∧ s.obj 0x1C3201 = 0 then image else s.slave.txSample) ∧ sameData s u ∧
       (¬(live ∧ s.obj 0x1C3201 = 2) → v.slave.txSample = s.slave.txSample ∧ v.slave.rxWait = s.slave.rxWait) ∧
       (live → s.obj 0x1C3201 = 2 → s.slave.rxWait = none → v.slave.txSample = image ∧ v.slave.rxWait = none))) ∧
  (∀ (d : Bytes) (t : Nat) (s : State),
    s.slave.al = .op → s.obj 0x1C3201 = 2 → s.slave.rxWait = some d → d.length = 6 → s.obj 0x1C1200 = 1 → s.obj 0x1C1201 = 0x1600 →
    s.obj 0x160000 = 3 → s.obj 0x160001 = 0x5F100108 → s.obj 0x160002 = 0x5F100308 → s.obj 0x160003 = 0x5F100220 →
    ∃ u, exec (.sync0Event t) s = .next u ∧ u.slave.rxWait = none ∧ u.obj 0x5F1003 = leAt d 1 1 ∧ u.obj 0x5F1002 = leAt d 2 4 ∧
      ∀ q, s.slave.cmdRef = some q → q ≠ leAt d 1 1 → u.obj 0x5F1005 = leAt d 1 1 ∧ u.obj 0x5F100B = leAt d 0 1) ∧
  (∀ s : State,
    ∃ u, exec .dcActivation s = .next u ∧ u.obj 0x200021 = (if s.obj 0x200021 = 0 then 1 else s.obj 0x200021) ∧
      u.slave.al = s.slave.al ∧ u.engineState = s.engineState) ∧
  (∀ (diffs : List (Nat × Int)) (first : Nat) (diff : Int) (t : Nat) (s : State),
    ∃ u v, exec (.dcSynchronised ((first, diff) :: diffs) t) s = .next u ∧ exec (.dcUnsync diff t) s = .next v ∧
      (let within := fun (d : Int) => -(s.obj 0x200020 : Int) ≤ d ∧ d ≤ s.obj 0x200020
       let inside := within diff
       let stayed := inside ∧ (∀ d ∈ diffs, within d.2) ∧ first + 50000000 ≤ t
       (stayed → s.clocks.dcOn = true → s.clocks.ctl ≠ .clockHold → u.obj 0x200021 = 2 ∧
         u.obj 0x200022 = toBits 32 ((diffs.getLast?.map (·.2)).getD diff)) ∧
       (¬stayed → u.obj 0x200021 = s.obj 0x200021) ∧
       (¬inside → s.clocks.dcOn = true → v.obj 0x200022 = toBits 32 diff ∧
         (s.obj 0x200021 = 2 → v.obj 0x200021 = 1 ∧ v.bit 0x200023 2 = true) ∧ (s.obj 0x200021 ≠ 2 → v.obj 0x200021 = s.obj 0x200021)) ∧
       (inside → v.obj 0x200021 = s.obj 0x200021) ∧
       u.slave.al = s.slave.al ∧ u.engineState = s.engineState ∧ v.slave.al = s.slave.al ∧ v.engineState = s.engineState)) ∧
  (∀ s : State,
    ∃ u, exec .emergencySend s = .next u ∧ sameData s u ∧
      (s.slave.al = .init ∨ s.slave.al = .boot → u.slave.emcyOut = s.slave.emcyOut ∧ u.obj 0x5F2031 = s.obj 0x5F2031) ∧
      (s.slave.emcy = [] → u.slave.emcyOut = s.slave.emcyOut) ∧
      (s.slave.al ≠ .init → s.slave.al ≠ .boot → ∀ m rest, s.slave.emcy = m :: rest →
        u.slave.emcyOut = s.slave.emcyOut ++ [m] ∧ rest <+: u.slave.emcy ∧ counted s u 0x5F2031))

/-- ENABLE, DISABLE, ARM, START, DRAIN, HOLD, RESUME, STOP, CLEAR_FAULT and COMMIT (R57, R124, R170, R248, R578, R579, R580, R581, R584, R586, R587): each command acts in the states listed for it, its checks in their order, and is otherwise refused with its abort and status. What the engine enters is stated for a job without a last line. -/
def Obligations.EngineTakesCommands : Prop :=
  (∀ (via : Via) (t : Nat) (s : State),
    reachesPdo via s 0x5F1001 = true →
    ∃ u, exec (.enable via t) s = .next u ∧
      (let tested := s.obj 0x5E0002 = 2 ∨ s.obj 0x5E0002 = 3
       (s.engineState ≠ 0 → reported via s u 1 (some 0x08000022) 3) ∧
       (s.engineState = 0 → s.slave.al ≠ .op → reported via s u 1 (some 0x08000022) 5) ∧
       (s.engineState = 0 → s.slave.al = .op → ¬tested → reported via s u 1 (some 0x08000020) 6) ∧
       (s.engineState = 0 → s.slave.al = .op → tested → s.stack.sr = .off → reported via s u 1 none 1 ∧
         (channelsKeep s → u.engineState = 1 ∧ u.obj 0x5F1007 = 0 ∧ u.bit 0x5F100C 0 = true)))) ∧
  (∀ (via : Via) (t : Nat) (s : State),
    reachesPdo via s 0x5F1001 = true →
    ∃ u, exec (.disable via t) s = .next u ∧
      (s.engineState ≠ 1 → reported via s u 2 (some 0x08000022) 3) ∧
      (s.engineState = 1 → reported via s u 2 none 1 ∧ (channelsKeep s → u.engineState = 0 ∧ u.obj 0x5F1007 = 1))) ∧
  (∀ (via : Via) (pairFails : List (Fin 5)) (t : Nat) (s : State),
    reachesPdo via s 0x5F1001 = true →
    ∃ u, exec (.arm via pairFails t) s = .next u ∧
      (let denied := fun (status : Nat) => reported via s u 3 (some 0x08000020) status
       (s.engineState ≠ 1 → reported via s u 3 (some 0x08000022) 3) ∧
       (s.engineState = 1 → match s.armRefusal (pairFails.filter fun p => s.health.pairsSuspect.testBit p.val) with
         | some status => denied status
         | none => reported via s u 3 none 1 ∧ u.engineState = 2 ∧ u.obj 0x5F1007 = 1 ∧ u.obj 0x5F1009 = 0xFFFFFFFF) ∧
       (s.engineState = 1 →
         if s.bit 0x520001 1 = true then denied 19
         else if s.regionInvalid = true then denied 9
         else if s.obj 0x250010 = 0 ∧ s.obj 0x250020 ≠ 1 then denied 11
         else if s.obj 0x250020 = 1 ∧ s.repPresent < s.repRequired then denied 12
         else if ∃ n, s.columns n ≠ [] ∧ s.portEnabled n.val = false then denied 13
         else True))) ∧
  (∀ (via : Via) (t : Nat) (s : State),
    reachesPdo via s 0x5F1001 = true →
    ∃ u, exec (.start via t) s = .next u ∧
      (let l := s.obj 0x5F1002
       let lineOk := l < 2 ^ 31 ∨ l = 0xFFFFFFFF
       (s.engineState ≠ 2 → reported via s u 4 (some 0x08000022) 3) ∧
       (s.engineState = 2 → ¬lineOk → reported via s u 4 (some 0x06090030) 4) ∧
       (s.engineState = 2 → lineOk → reported via s u 4 none 1 ∧ u.obj 0x5F1009 = l) ∧
       (s.engineState = 2 → l = 0xFFFFFFFF → u.engineState = 3 ∧ u.obj 0x5F1007 = 2 ∧
         (s.obj 0x22000D = 3 → u.obj 0x220018 = s.obj 0x22000E % 2 ^ 48 ∧ u.bit 0x220015 5 = true ∧ u.position.await = none) ∧
         (s.obj 0x22000D = 0 → u.bit 0x220015 5 = true ∧ u.position.await = none) ∧
         (s.obj 0x22000D = 1 ∨ s.obj 0x22000D = 2 → u.bit 0x220015 5 = false ∧ u.position.await = some (s.obj 0x22000D))))) ∧
  (∀ (via : Via) (t : Nat) (s : State),
    reachesPdo via s 0x5F1001 = true →
    ∃ u, exec (.drain via t) s = .next u ∧
      (let l := s.obj 0x5F1002
       let early := ∃ n f, n ∈ s.renderedPorts ∧ s.fireLine n = some f ∧ lineAtOrBeyond l f = false
       let listed := s.engineState = 3 ∨ s.engineState = 5
       (¬listed → reported via s u 5 (some 0x08000022) 3) ∧
       (listed → 2 ^ 31 ≤ l ∨ early → reported via s u 5 (some 0x06090030) 4) ∧
       (listed → l < 2 ^ 31 → ¬early → reported via s u 5 none 1 ∧ u.obj 0x5F1009 = l))) ∧
  (∀ (via : Via) (t : Nat) (s : State),
    reachesPdo via s 0x5F1001 = true →
    ∃ u, exec (.hold via t) s = .next u ∧
      (let listed := 2 ≤ s.engineState ∧ s.engineState ≤ 4
       (¬listed → reported via s u 6 (some 0x08000022) 3) ∧
       (listed → reported via s u 6 none 1 ∧ u.bit 0x5F100C 4 = true ∧
         (s.obj 0x5F1009 = 0xFFFFFFFF → u.engineState = 5 ∧ u.engine.heldFrom = s.engineState ∧ u.obj 0x5F1007 = s.engineState)))) ∧
  (∀ (via : Via) (t : Nat) (s : State),
    reachesPdo via s 0x5F1001 = true →
    ∃ u, exec (.resume via t) s = .next u ∧
      (let winding := ∃ n, (s.port.get n).windup.isSome = true
       (s.engineState ≠ 5 → reported via s u 7 (some 0x08000022) 3) ∧
       (s.engineState = 5 → winding → reported via s u 7 (some 0x08000022) 8) ∧
       (s.engineState = 5 → ¬winding → reported via s u 7 none 1 ∧
         (s.obj 0x5F1009 = 0xFFFFFFFF → u.engineState = s.engine.heldFrom ∧ u.obj 0x5F1007 = 5)))) ∧
  (∀ (via : Via) (t : Nat) (s : State),
    reachesPdo via s 0x5F1001 = true →
    ∃ u, exec (.stop via t) s = .next u ∧
      (let listed := 2 ≤ s.engineState ∧ s.engineState ≤ 5
       (¬listed → reported via s u 8 (some 0x08000022) 3) ∧
       (listed → reported via s u 8 none 1 ∧ u.engine.inJob = false ∧ u.obj 0x5F1022 = s.obj 0x5F1022 ∧
         (channelsKeep s → u.engineState = 1 ∧ u.obj 0x5F1007 = s.engineState)))) ∧
  (∀ (via : Via) (t : Nat) (s : State),
    reachesPdo via s 0x5F1001 = true →
    ∃ u, exec (.clearFault via t) s = .next u ∧
      (s.engineState ≠ 6 → reported via s u 9 (some 0x08000022) 3) ∧
      (s.engineState = 6 → s.clocks.safeLow = true ∨ s.clocks.ctl ≠ .run ∨ s.stack.sr ≠ .off ∨ s.bit 0x520001 2 = true →
        reported via s u 9 (some 0x08000022) 7) ∧
      (s.engineState = 6 → s.lastingCause = false → reported via s u 9 none 1 ∧
        (channelsKeep s → u.engineState = 0 ∧ u.obj 0x5F1008 = 0xFFFF ∧ u.faultLow = false))) ∧
  (∀ (via : Via) (ckptErr t : Nat) (s : State),
    reachesPdo via s 0x5F1001 = true →
    ∃ u, exec (.commit via ckptErr t) s = .next u ∧
      (let listed := 1 ≤ s.engineState ∧ s.engineState ≤ 5
       (s.engineState = 0 ∨ s.engineState = 6 → reported via s u 10 (some 0x08000022) 3 ∧ u.obj 0x230013 = 5) ∧
       (listed → s.obj 0x230012 = 1 → reported via s u 10 (some 0x08000022) 20 ∧ u.obj 0x230013 = 3) ∧
       (listed → s.obj 0x230012 ≠ 1 → s.obj 0x230011 = 0 → reported via s u 10 none 1 ∧ u.obj 0x230014 = (s.obj 0x230014 + 1) % 2 ^ 32)))

/-- SDO_WRITE and SDO_SEGMENT (R560, R564, R565, R569, R600): the first abort of the list that applies ends a write that then changes nothing, a missing index before complete access; the DC sync window shows an accepted value and its range; a segmented write takes effect with its last segment, as one write of all its bytes, and a new first segment or an abort discards it; that a segment without a write in progress has no effect is the model's choice (log entry 158).
STORE_PARAMETERS, RESTORE_DEFAULT_PARAMETERS and CONFIG_RESTORE (R573, R574, R575, R651): save and load need DISABLED or STANDBY and their value; what is stored holds settings and no enable; the restore writes it back once and reports the outcome, an image with a double-bit word fails its CRC and raises MRAM_ERROR, and then the AL state may leave INIT. -/
def Obligations.SdoWritesAndStoredConfiguration : Prop :=
  ((∀ (index sub : Nat) (data : Bytes) (complete : Bool) (s : State),
    s.slave.al = .init ∨ s.slave.al = .boot →
    ∃ u, exec (.sdoWrite index sub data complete) s = .next u ∧ sameData s u ∧ (s.slave.al = .boot → u.slave.resp = .mailboxError) ∧
      ∀ k, k ∉ shared → u.obj k = s.obj k) ∧
  (∀ (index sub : Nat) (data : Bytes) (complete : Bool) (s : State),
    s.slave.al ≠ .init → s.slave.al ≠ .boot → s.gated (objKey index sub) = false →
    ∃ u, exec (.sdoWrite index sub data complete) s = .next u ∧
      (let refuses := fun (code : Nat) => u.slave.resp = .abort code ∧ u.slave.seg = none ∧ sameData s u ∧ ∀ k, k ∉ shared → u.obj k = s.obj k
       (complete = true → refuses (if indexListed (index % 0x10000) then 0x06010000 else 0x06020000)) ∧
       (complete = false → match rowOf (homeKey (objKey index sub)) with
         | none => refuses (if indexListed (index % 0x10000) then 0x06090011 else 0x06020000)
         | some r => (r.acc = .ro → refuses 0x06010002) ∧
            (r.acc ≠ .ro → r.kind ≠ .dom → data.length ≠ (r.bits + 7) / 8 → refuses 0x06070010)))) ∧
  (∀ (v : Nat) (s : State),
    s.slave.al ≠ .init → s.slave.al ≠ .boot → v < 2 ^ 16 →
    ∃ u, exec (.sdoWrite 0x2000 0x20 (leBytes 2 v) false) s = .next u ∧ sameData s u ∧ (∀ k, k ≠ 0x200020 → k ∉ shared → u.obj k = s.obj k) ∧
      (10 ≤ v ∧ v ≤ 10000 → u.slave.resp = .done ∧ u.obj 0x200020 = v) ∧
      (¬(10 ≤ v ∧ v ≤ 10000) → u.slave.resp = .abort 0x06090030 ∧ u.obj 0x200020 = s.obj 0x200020)) ∧
  (∀ (index sub : Nat) (data : Bytes) (s : State),
    s.slave.al ≠ .init → s.slave.al ≠ .boot →
    let k := objKey index sub
    let taken := fun (u : State) (d : Bytes) => sameData s u ∧ u.slave.resp = .done ∧ u.slave.seg = some { key := k, data := d } ∧
      ∀ x, x ∉ shared → u.obj x = s.obj x
    (∃ u, exec (.sdoSegment index sub data .first) s = .next u ∧ taken u data) ∧
    (∃ u, exec (.sdoSegment index sub data .abort) s = .next u ∧ sameData s u ∧ u.slave.seg = none ∧ ∀ x, x ∉ shared → u.obj x = s.obj x) ∧
    (∀ d, s.slave.seg = some { key := k, data := d } →
      (∃ u, exec (.sdoSegment index sub data .next) s = .next u ∧ taken u (d ++ data)) ∧
      exec (.sdoSegment index sub data .last) s = exec (.sdoWrite index sub (d ++ data) false) s) ∧
    ((∀ d, s.slave.seg ≠ some { key := k, data := d }) → ∀ part, part = .next ∨ part = .last →
      ∃ u, exec (.sdoSegment index sub data part) s = .next u ∧ sameData s u ∧ u.slave.seg = s.slave.seg ∧ ∀ x, x ∉ shared → u.obj x = s.obj x))) ∧
  ((∀ (value : Nat) (s : State),
    s.slave.al ≠ .init → s.slave.al ≠ .boot →
    ∃ u v, exec (.storeParameters value) s = .next u ∧ exec (.restoreDefaultParameters value) s = .next v ∧ sameData s u ∧ sameData s v ∧
      (let idle := s.engineState ≤ 1
       (¬idle → u.slave.resp = .abort 0x08000022 ∧ u.mram.cfg = s.mram.cfg ∧ v.slave.resp = .abort 0x08000022 ∧ v.mram.cfgErase = s.mram.cfgErase) ∧
       (idle → value ≠ 0x65766173 → u.slave.resp = .abort 0x08000020 ∧ u.mram.cfg = s.mram.cfg) ∧
       (idle → value ≠ 0x64616F6C → v.slave.resp = .abort 0x08000020 ∧ v.mram.cfgErase = s.mram.cfgErase) ∧
       (idle → value = 0x64616F6C → v.slave.resp = .done ∧ v.mram.cfgErase = true) ∧
       (idle → value = 0x65766173 → u.slave.resp = .done ∧ u.obj 0x20000C ≤ 262144 ∧
         ∃ c, u.mram.cfg = some c ∧ findKey c 0x200020 = some (leBytes 2 (s.obj 0x200020)) ∧ findKey c 0x1C3202 = some (leBytes 4 (s.obj 0x1C3202)) ∧
           ∀ k b, (k, b) ∈ c → baseKey k ∉ [0x220001, 0x220030, 0x250001, 0x250002, 0x250010, 0x250020, 0x300001, 0x340002, 0x400001, 0x410001,
             0x410002, 0x420001, 0x480001, 0x480028, 0x490001, 0x230009, 0x500001]))) ∧
  (∀ (read : MramRead) (s : State),
    s.slave.al = .init → s.slave.ready = false →
    ∃ u, exec (.configRestore read) s = .next u ∧ u.slave.al = .init ∧
      (s.obj 0x5E0002 < 2 → u.slave.ready = false) ∧ (2 ≤ s.obj 0x5E0002 → u.slave.ready = true) ∧
      (let bad := read.crcBad = true ∨ .double ∈ read.finds
       let skipped := sameData s u ∧ ∀ k, k ∉ shared → k ∉ [0x20000A, 0x20000B, 0x5E0054, 0x5E0055] → u.obj k = s.obj k
       (s.obj 0x5E0002 = 4 → u.obj 0x20000A = 4 ∧ skipped) ∧
       (s.obj 0x5E0002 = 2 ∨ s.obj 0x5E0002 = 3 →
         (s.mram.cfg = none → u.obj 0x20000A = 0 ∧ skipped) ∧
         (s.mram.cfg ≠ none → bad → u.obj 0x20000A = 3 ∧ skipped) ∧
         (s.mram.cfg ≠ none → read.finds = [.double] → u.bit 0x5E0011 13 = true ∧ u.bit 0x5E0004 3 = true ∧ counted s u 0x5E0055) ∧
         (s.mram.cfg ≠ none → ¬bad → u.obj 0x20000A = (if u.obj 0x20000B = 0 then 1 else 2) ∧ (u.obj 0x20000B ≠ 0 → u.bit 0x200023 4 = true)) ∧
         ∀ v, 10 ≤ v → v ≤ 10000 → s.mram.cfg = some [(0x200020, leBytes 2 v)] → ¬bad → u.obj 0x200020 = v ∧ u.obj 0x20000A = 1))))

/-- WINDOW_ACCESS and WINDOW_BLOCK_ACCESS (R38, R594, R595, R596, R597): a bad address or width and a write that is not enabled make no access; an access of SRAM reads or writes its bytes and moves the address where auto-increment is 1; a block reads its bytes in ascending order.
FOE_FW_WRITE, FOE_HDR_WRITE, FOE_HDR_READ and FOE_LOG_READ (R139, R598, R599): firmware is taken in BOOT alone, into the slot not in use, which becomes the next slot; a record is written and read outside BOOT; the log is its header and entries. -/
def Obligations.WindowAccessesAndFiles : Prop :=
  ((∀ (write : Bool) (value collide : Nat) (ecc : EccFind) (s : State),
    s.slave.al ≠ .init → s.slave.al ≠ .boot →
    ∃ u, exec (.windowAccess write value collide ecc) s = .next u ∧
      (let a := s.obj 0x5F0001
       let w := s.obj 0x5F0002
       let badAddr := 2 ^ 40 ≤ a ∨ a % w ≠ 0 ∨ (inRegisters a = true ∧ w ≠ 4)
       let fails := fun (result code : Nat) => u.slave.resp = .abort code ∧ u.obj 0x5F0008 = result ∧ u.obj 0x5F0001 = a ∧ sameData s u
       (badAddr → fails 2 0x06090030) ∧
       (¬badAddr → write = true → s.obj 0x5F0007 = 0 → fails 4 0x08000020) ∧
       (¬badAddr → write = false ∨ s.obj 0x5F0007 = 1 → inRegisters a = false → memoryDecodes s a w = false → fails 1 0x06060000))) ∧
  (∀ (value collide : Nat) (s : State),
    s.slave.al ≠ .init → s.slave.al ≠ .boot → s.obj 0x5F0001 % s.obj 0x5F0002 = 0 → s.obj 0x5F0007 = 1 →
    memoryDecodes s (s.obj 0x5F0001) (s.obj 0x5F0002) = true → inSram (s.obj 0x5F0001) = true → s.badWord (s.obj 0x5F0001) (s.obj 0x5F0002) = none →
    (∀ i, i < s.obj 0x5F0002 → s.openByte (s.obj 0x5F0001 + i) = false) →
    ∃ u v, exec (.windowAccess false value collide .clean) s = .next u ∧ exec (.windowAccess true value 0 .clean) s = .next v ∧
      (let a := s.obj 0x5F0001
       let w := s.obj 0x5F0002
       let next := if s.obj 0x5F0004 = 1 then a + w else a
       u.slave.resp = .data (leBytes 8 (s.num a w)) ∧ u.obj 0x5F0008 = 0 ∧ u.obj 0x5F0001 = next ∧ sameData s u ∧
       v.slave.resp = .done ∧ v.obj 0x5F0008 = 0 ∧ v.obj 0x5F0001 = next ∧ v.num a w = value % 2 ^ (8 * w) ∧
       ∀ b, b < a ∨ a + w ≤ b → v.byte b = s.byte b)) ∧
  (∀ (write : Bool) (data : Bytes) (met : List (Nat × EccFind)) (s : State),
    s.slave.al ≠ .init → s.slave.al ≠ .boot →
    ∃ u, exec (.windowBlockAccess write ⟨data, met⟩) s = .next u ∧
      (let a := s.obj 0x5F0001
       let w := s.obj 0x5F0002
       let len := s.obj 0x5F0006
       (len % w ≠ 0 → write = false → u.slave.resp = .abort 0x06090030 ∧ u.obj 0x5F0008 = 2 ∧ u.obj 0x5F0009 = 0 ∧ sameData s u) ∧
       (write = true → data.length ≠ len → u.slave.resp = .abort 0x06070010 ∧ sameData s u) ∧
       (write = true → data.length = len → len % w = 0 → 0 < w → w ≤ len → a < 2 ^ 40 → a % w = 0 → inRegisters a = false → s.obj 0x5F0007 = 0 →
         u.slave.resp = .abort 0x08000020 ∧ u.obj 0x5F0008 = 4 ∧ u.obj 0x5F0009 = 0 ∧ sameData s u) ∧
       (write = false → 0 < w → 0 < len → len % w = 0 →
         (∀ i, i < len / w → (a + i * w) % w = 0 ∧ memoryDecodes s (a + i * w) w = true ∧ inSram (a + i * w) = true ∧ s.badWord (a + i * w) w = none) →
         (∀ i, i < len → s.openByte (a + i) = false) → (∀ m ∈ met, m.2 ≠ .double) →
         u.slave.resp = .data (s.bytes a len) ∧ u.obj 0x5F0008 = 0 ∧ u.obj 0x5F0009 = len ∧ sameData s u)))) ∧
  ((∀ (image : Bytes) (s : State),
    s.slave.al ≠ .init →
    ∃ u, exec (.foeFwWrite image) s = .next u ∧ sameData s u ∧
      (let refuses := fun (code : Nat) => u.slave.resp = .foeError code ∧ u.mram.slotA = s.mram.slotA ∧ u.mram.slotB = s.mram.slotB ∧
         u.mram.slotNext = s.mram.slotNext
       if s.slave.al ≠ .boot then refuses 0x8008
       else if 0x100000 < image.length then refuses 0x8003
       else if Config.imageOk image = false then refuses 0x8004
       else u.slave.resp = .done ∧
         (s.obj 0x200007 = 0 → u.mram.slotB = some image ∧ u.mram.slotA = s.mram.slotA ∧ u.mram.slotNext = 1 ∧ u.obj 0x200008 = 1) ∧
         (s.obj 0x200007 = 1 → u.mram.slotA = some image ∧ u.mram.slotB = s.mram.slotB ∧ u.mram.slotNext = 0 ∧ u.obj 0x200008 = 0))) ∧
  (∀ (n : Fin 16) (r : Bytes) (s : State),
    s.slave.al ≠ .init →
    ∃ u, exec (.foeHdrWrite n r) s = .next u ∧
      (let refuses := fun (code : Nat) => u.slave.resp = .foeError code ∧ ∀ k, u.domain k = s.domain k
       if s.slave.al = .boot then refuses 0x8009
       else if s.portState n.val ≠ 0 then refuses 0x8002
       else (r.length ≠ 256 ∨ recordValid r = false → refuses 0x8004) ∧
         (s.gated (pk 0x300020 n) = false → r.length = 256 → s.obj 0x230012 = 0 → recordValid r = true →
           u.slave.resp = .done ∧ u.domain (pk 0x300020 n) = r ∧ u.obj (pk 0x310006 n) = leAt r 0x1C 2))) ∧
  (∀ (n : Fin 16) (s : State),
    s.slave.al ≠ .init →
    ∃ u v, exec (.foeHdrRead n) s = .next u ∧ exec .foeLogRead s = .next v ∧ sameData s u ∧ sameData s v ∧
      (s.slave.al = .boot → u.slave.resp = .foeError 0x8009 ∧ v.slave.resp = .foeError 0x8009) ∧
      (s.slave.al ≠ .boot → u.slave.resp = .data (s.domain (pk 0x300020 n)) ∧
        ∃ h, v.slave.resp = .data (h ++ s.mram.log.flatten) ∧ h.length = 16 ∧ leAt h 0 4 = 0x474F4C42 ∧
          (s.mram.log.length < 2 ^ 32 → leAt h 4 4 = s.mram.log.length))))

/-- POWER_ON, RESET_PIN, SOFTWARE_RESET, BROWN_OUT and RAILS_BACK_IN_RANGE (R592, R602, R606, R607, R625, R626, R627, R630, R638, R651): a reset sets its cause alone, samples the straps, clears SRAM and every block and keeps the VBAT domain, the firmware slots and the lifetime totals, of which power-on takes the valid copy with the higher number; SAFE_L low then puts the engine in FAULT; a brown-out holds the device in RESET until the rails are back. -/
def Obligations.ResetsKeepOnlyVbatAndMram : Prop :=
  (∀ (straps : Nat) (safeHigh vrHigh : Bool) (latest older : MramRead) (s : State),
    s.mram.repair = RepairLists.blank →
    ∃ u v, exec (.powerOn straps safeHigh ⟨vrHigh, latest, older⟩) s = .next u ∧ exec (.resetPin straps safeHigh vrHigh) s = .next v ∧
      u.obj 0x21000D = 1 ∧ v.obj 0x21000D = 2 ∧ v.mram.totals = s.mram.totals ∧
      (readFails latest = false → u.mram.totals = s.mram.totals) ∧
      (readFails latest = true → readFails older = false → u.mram.totals = s.mram.totalsOld) ∧
      ∀ x, x = u ∨ x = v →
        x.slave.al = .init ∧ x.slave.ready = false ∧ x.slave.emcy = [] ∧ x.clocks.ctl = .rcStart ∧ x.clocks.safeLow = !safeHigh ∧
        x.obj 0x210002 = straps % 16 ∧ x.obj 0x210001 = 4 ^ (straps % 4) ∧ x.bit 0x210004 12 = straps.testBit 3 ∧
        (∀ a, x.byte a = memDefault a) ∧ x.vbat = s.vbat ∧ x.mram.slotA = s.mram.slotA ∧ x.mram.slotB = s.mram.slotB ∧
        x.mram.cfg = (if s.mram.cfgErase then none else s.mram.cfg) ∧ x.pending = s.pending ∧ x.obj 0x5E0002 = 0 ∧ x.obj 0x5F1020 = 0 ∧
        x.engineState = (if safeHigh then 0 else 6) ∧ (safeHigh = false → x.obj 0x5F1008 = 128) ∧ x.faultLow = !safeHigh) ∧
  (∀ (via : Via) (value straps : Nat) (s : State),
    reaches via s 0x21000E = true →
    ∃ u, exec (.softwareReset via value straps) s = .next u ∧
      (s.engineState ≠ 0 → s.engineState ≠ 6 → refused via u 0x08000022 ∧ u.clocks = s.clocks ∧ u.engineState = s.engineState) ∧
      (s.engineState = 0 ∨ s.engineState = 6 → value ≠ 0x74657372 → refused via u 0x06090030 ∧ u.clocks = s.clocks) ∧
      (s.engineState = 0 ∨ s.engineState = 6 → value = 0x74657372 →
        u.clocks.ctl = .rcStart ∧ u.obj 0x21000D = 4 ∧ u.slave.al = .init ∧ (∀ a, u.byte a = memDefault a) ∧ u.vbat = s.vbat)) ∧
  (∀ (straps : Nat) (s : State),
    ∃ u v, exec .brownOut s = .next u ∧ exec (.railsBackInRange straps) s = .next v ∧
      u.clocks.ctl = .reset ∧ u.obj 0x21000D = 8 ∧ u.slave.al = .init ∧ (∀ a, u.byte a = memDefault a) ∧ u.vbat = s.vbat ∧
      (¬(s.clocks.ctl = .reset ∧ s.clocks.brownOut = true) → v.clocks = s.clocks ∧ sameData s v) ∧
      (s.clocks.ctl = .reset → s.clocks.brownOut = true → v.clocks.ctl = .rcStart ∧ v.obj 0x21000D = 8 ∧ v.obj 0x210002 = straps % 16))

/-- RC_READY, REF_READY, REF_WINDOW_OUT_OF_RANGE, PLL_LOCKED, PLL_FAIL, REF_LOSS, HOLD_EXIT and RC_FAULT (R602, R607, R608, R609, R610, R612, R613, R614, R619, R628, R651): the states of the clock controller in their order, an image selected once the SRAM is clear, from the slots whose read does not fail, with the settle delay met, windows counted against 22 to 28 cycles, XO_IN still for 1 us or a PLL unlocked, and the RC counted against 28.8 to 35.2 MHz; a loss in RUN puts the engine in FAULT and the device in CLOCK_HOLD with nothing firing; the exit finds every port and axis OFF and keeps FAULT. -/
def Obligations.ClockStatesFollowTheReference : Prop :=
  (∀ (active count : Nat) (s : State),
    ∃ u v w, exec .rcReady s = .next u ∧ exec (.refReady active) s = .next v ∧ exec (.refWindowOutOfRange count) s = .next w ∧
      sameData s v ∧ sameData s w ∧
      (s.clocks.ctl = .rcStart → u.clocks.ctl = .refWait ∧ u.clocks.rcReady = true ∧ u.engineState = s.engineState ∧ sameData s u) ∧
      (s.clocks.ctl = .holdReset → u.clocks.ctl = .clockHold ∧ u.clocks.rcReady = true ∧ u.engineState = 6 ∧ u.obj 0x200021 = 1) ∧
      (active < 1000 * s.obj 0x210001 → v.clocks = s.clocks) ∧
      (1000 * s.obj 0x210001 ≤ active → s.clocks.ctl = .refWait → v.clocks.ctl = .pllLock ∧ v.clocks.refReady = true) ∧
      (1000 * s.obj 0x210001 ≤ active → s.clocks.ctl = .clockHold → v.clocks.ctl = .clockHold ∧ v.clocks.refReady = true) ∧
      w.clocks.ctl = s.clocks.ctl ∧ (22 ≤ count → count ≤ 28 → w.clocks = s.clocks) ∧
      (count < 22 ∨ 28 < count → s.clocks.ctl = .refWait ∨ s.clocks.ctl = .clockHold → w.clocks.refReady = false)) ∧
  (∀ (roms : BootImages) (s : State),
    ∃ u v, exec (.pllLocked roms) s = .next u ∧ exec .pllFail s = .next v ∧ sameData s u ∧ sameData s v ∧
      (s.clocks.ctl = .pllLock → u.clocks.ctl = .run ∧ u.clocks.pll = 15 ∧
        (s.bit 0x580008 0 = false → u.clocks.startPending = true ∧ u.obj 0x200007 = s.obj 0x200007) ∧
        (s.bit 0x580008 0 = true → s.clocks.straps.testBit 2 = true → u.obj 0x200007 = if roms.flashOk then 2 else 0xFF) ∧
        (s.bit 0x580008 0 = true → s.clocks.straps.testBit 2 = false → s.mram.slotA.isSome = true → s.mram.slotB.isSome = true →
          (s.mram.slotNext = 0 → readFails roms.slotA = false → u.obj 0x200007 = 0) ∧ (s.mram.slotNext = 1 → readFails roms.slotB = false → u.obj 0x200007 = 1) ∧
          (s.mram.slotNext = 0 → readFails roms.slotA = true → readFails roms.slotB = false → u.obj 0x200007 = 1) ∧
          (s.mram.slotNext = 1 → readFails roms.slotA = false → readFails roms.slotB = true → u.obj 0x200007 = 0))) ∧
      (s.clocks.ctl = .pllLock → v.clocks.ctl = .refWait ∧ v.clocks.refReady = false ∧ v.bit 0x210004 2 = true)) ∧
  (∀ (l : List Nat) (x y ns plls t : Nat) (s : State),
    ∃ u v w, exec (.refLoss (.windows (l ++ [x, y])) t) s = .next u ∧ exec (.refLoss (.noEdge ns) t) s = .next v ∧
      exec (.refLoss (.unlock plls) t) s = .next w ∧
      ((22 ≤ x ∧ x ≤ 28) ∨ (22 ≤ y ∧ y ≤ 28) → u.clocks = s.clocks ∧ u.engineState = s.engineState) ∧
      (ns < 1000 → v.clocks = s.clocks ∧ v.engineState = s.engineState) ∧
      (plls % 16 = 0 ∨ s.clocks.ctl ≠ .run → w.clocks = s.clocks ∧ w.engineState = s.engineState)) ∧
  (∀ (cause : RefLossCause) (l : List Nat) (x y ns plls t : Nat) (s : State),
    (cause = .windows (l ++ [x, y]) ∧ (x < 22 ∨ 28 < x) ∧ (y < 22 ∨ 28 < y)) ∨ (cause = .noEdge ns ∧ 1000 ≤ ns) ∨
      (cause = .unlock plls ∧ plls % 16 ≠ 0 ∧ s.clocks.ctl = .run) →
    ∃ u, exec (.refLoss cause t) s = .next u ∧
      (s.clocks.ctl = .run → u.clocks.ctl = .clockHold ∧ u.clocks.refReady = false ∧ u.clocks.pll = 0 ∧ u.engineState = 6 ∧ u.obj 0x200021 = 1 ∧
        u.bit 0x210004 0 = true ∧ u.bit 0x5E0010 1 = true ∧ counted s u 0x210020 ∧ (s.engineState ≠ 6 → u.obj 0x5F1008 = 129) ∧
        (s.stack.sr = .off → u.stack.sr = .entering ∧ u.stack.byCommand = false) ∧ u.clocks.psBusy = none ∧
        ∀ n : Fin 16, (u.port.get n).cur = none ∧ (u.port.get n).next = none ∧ (u.port.get n).queue = []) ∧
      (s.clocks.ctl = .rcStart → u.clocks.ctl = .holdReset) ∧
      (s.clocks.ctl = .clockHold → u.clocks.ctl = .clockHold ∧ u.clocks.refReady = false)) ∧
  (∀ (t : Nat) (s : State),
    ∃ u, exec (.holdExit t) s = .next u ∧
      (¬(s.clocks.ctl = .clockHold ∧ s.clocks.refReady = true) → u.clocks = s.clocks ∧ sameData s u) ∧
      (s.clocks.ctl = .clockHold → s.clocks.refReady = true → u.clocks.ctl = .run ∧ u.clocks.pll = 15 ∧ u.obj 0x210006 = s.obj 0x210005 ∧
        u.engineState = s.engineState ∧ u.bit 0x210004 1 = true ∧ counted s u 0x210021 ∧ u.bit 0x220015 5 = false ∧
        (∀ n : Fin 16, u.portState n.val = 0) ∧ (∀ a : Fin 4, u.axisState a = 0) ∧ (∀ h : Fin 4, s.obj (hk 0x49000F h) ≤ 2 → u.obj (hk 0x490001 h) = 0) ∧
        (∀ ch : Fin 32, u.obj (dk 0x580013 ch) = 0 ∧ u.dma.get ch = DmaChan.reset))) ∧
  (∀ (cycles t : Nat) (s : State),
    ∃ u, exec (.rcFault cycles t) s = .next u ∧ sameData s u ∧ u.clocks.ctl = s.clocks.ctl ∧
      (2880 ≤ cycles → cycles ≤ 3520 → u.clocks = s.clocks) ∧
      (cycles < 2880 ∨ 3520 < cycles → s.clocks.ctl = .run → s.clocks.rcFault = false → u.clocks.rcFault = true ∧ u.bit 0x210004 8 = true ∧ counted s u 0x210027 ∧
        u.bit 0x5E0010 2 = true ∧ u.bit 0x5E0001 3 = true ∧ u.engineState = s.engineState) ∧
      (s.clocks.rcFault = true → u.clocks.rcFault = true))

/-- CORE_SOURCE_SWITCH, PSTATE_REQUEST, PSTATE_DONE, VR_FAULT, VR_READY_RESTORED, CLOCK_GATE_WRITE and GATE_ABORT (R615, R617, R619, R620, R621, R622, R623): a switch needs a ready source; a lower point is in force at once and a higher one once the voltage is there, after the VR settle time and within the VR timeout; a lost VR_READY falls to P3 with the engine in FAULT; a gate closes on an idle block alone. -/
def Obligations.OperatingPointsAndGatesChange : Prop :=
  (∀ (via : Via) (source : Nat) (s : State),
    reaches via s 0x210009 = true → source ≤ 1 →
    ∃ u, exec (.coreSourceSwitch via source) s = .next u ∧ sameData s u ∧ u.engineState = s.engineState ∧
      (let ready := if source = 1 then s.clocks.rcReady else s.clocks.pll.testBit 0
       let open_ := s.engineState = 0 ∧ s.clocks.ctl ≠ .clockHold
       (¬open_ → u.obj 0x210009 = s.obj 0x210009 ∧ refused via u 0x08000022 ∧ u.obj 0x210022 = s.obj 0x210022) ∧
       (open_ → ready = false → u.obj 0x210009 = s.obj 0x210009 ∧ refused via u 0x08000022 ∧ u.bit 0x210004 3 = true ∧ counted s u 0x210022) ∧
       (open_ → ready = true → u.obj 0x210009 = source))) ∧
  (∀ (via : Via) (p : Nat) (s : State),
    reachesPdo via s 0x210005 = true →
    ∃ u, exec (.pstateRequest via p) s = .next u ∧ sameData s u ∧ u.engineState = s.engineState ∧
      (let now := s.obj 0x210006
       let blocked := s.clocks.ctl = .clockHold ∨ ((s.clocks.vrBlocked = true ∨ s.clocks.hot = true) ∧ p < now)
       (blocked → u.obj 0x210005 = s.obj 0x210005 ∧ u.clocks = s.clocks ∧ (via ≠ .pdo → refused via u 0x08000022)) ∧
       (¬blocked → 3 < p → u.obj 0x210005 = s.obj 0x210005 ∧ u.clocks = s.clocks ∧ (via ≠ .pdo → refused via u 0x06090030)) ∧
       (¬blocked → p ≤ 3 → u.obj 0x210005 = p ∧
         (s.clocks.psBusy ≠ none → u.clocks.psNext = some p ∧ u.obj 0x210006 = now ∧ u.clocks.vid = s.clocks.vid) ∧
         (s.clocks.psBusy = none → p = now → u.clocks = s.clocks) ∧
         (s.clocks.psBusy = none → p < now → u.obj 0x210006 = now ∧ u.clocks.psBusy = some p ∧ u.clocks.vid = [15, 11, 8, 5].getD p 0) ∧
         (s.clocks.psBusy = none → now < p → u.obj 0x210006 = p ∧ u.clocks.psBusy = some p ∧ u.clocks.vid = [15, 11, 8, 5].getD p 0 ∧
           u.bit 0x210004 7 = true ∧ counted s u 0x210026)))) ∧
  (∀ (ready : Bool) (waited : Nat) (s : State),
    waited < s.obj 0x210007 + (if ready then 0 else s.obj 0x210008) →
    ∃ u, exec (.pstateDone ready waited) s = .next u ∧ u.clocks = s.clocks ∧ u.obj 0x210006 = s.obj 0x210006) ∧
  (∀ (p waited : Nat) (timedOut : Bool) (s : State),
    s.clocks.psBusy = some p → s.clocks.psNext = none → s.obj 0x210007 + (if timedOut then s.obj 0x210008 else 0) ≤ waited →
    ∃ u, exec (.pstateDone (!timedOut) waited) s = .next u ∧ u.clocks.psBusy = none ∧
      (let now := s.obj 0x210006
       (timedOut = true → u.obj 0x210006 = now ∧ u.bit 0x210004 5 = true ∧ counted s u 0x210024 ∧
         (p < now → u.clocks.vid = if now = 0 then 15 else if now = 1 then 11 else if now = 2 then 8 else 5) ∧ (now ≤ p → u.clocks.vid = s.clocks.vid)) ∧
       (timedOut = false → u.obj 0x210006 = p ∧ u.obj 0x210024 = s.obj 0x210024 ∧ (p ≠ now → u.bit 0x210004 7 = true ∧ counted s u 0x210026)))) ∧
  (∀ (p q waited : Nat) (s : State),
    s.clocks.psBusy = some p → s.clocks.psNext = some q → q < p → s.obj 0x210007 ≤ waited →
    ∃ u, exec (.pstateDone true waited) s = .next u ∧ u.obj 0x210006 = p ∧ u.clocks.psBusy = some q ∧ u.clocks.psNext = none) ∧
  (∀ (t : Nat) (s : State),
    s.clocks.ctl = .run → s.clocks.psBusy = none →
    ∃ u, exec (.vrFault t) s = .next u ∧ u.obj 0x210006 = 3 ∧ u.clocks.vid = 5 ∧ u.clocks.vrBlocked = true ∧ u.bit 0x210004 6 = true ∧
      counted s u 0x210025 ∧ u.bit 0x5E0010 3 = true ∧ u.engineState = 6 ∧ (s.engineState ≠ 6 → u.obj 0x5F1008 = 131)) ∧
  (∀ s : State, ∃ u, exec .vrReadyRestored s = .next u ∧ sameData s u ∧ u.clocks = { s.clocks with vrPin := true, vrBlocked := false } ∧ u.engineState = s.engineState) ∧
  (∀ (via : Via) (gates busy : Nat) (s : State),
    reaches via s 0x21000A = true → gates < 2 ^ 23 →
    ∃ u, exec (.clockGateWrite via gates busy) s = .next u ∧ sameData s u ∧
      (let inUse := ∃ i, i < 23 ∧ (s.obj 0x21000A).testBit i = true ∧ gates.testBit i = false ∧ s.gatesInUse.testBit i = true
       (inUse → u.obj 0x21000A = s.obj 0x21000A ∧ u.clocks = s.clocks ∧ refused via u 0x08000022) ∧
       (¬inUse → u.obj 0x21000A = gates ∧ ∀ i, i < 23 →
         (gates.testBit i = true → u.clocks.closed.testBit i = false) ∧
         (gates.testBit i = false → busy.testBit i = false → s.clocks.closing.testBit i = false → u.clocks.closed.testBit i = true)))) ∧
  (∀ s : State,
    (∀ n : Fin 16, s.gatesInUse.testBit n.val = decide (s.portState n.val ≠ 0)) ∧
    s.gatesInUse.testBit 16 = decide (s.obj 0x400001 ≠ 0) ∧ s.gatesInUse.testBit 17 = decide (s.obj 0x400101 ≠ 0) ∧
    s.gatesInUse.testBit 18 = decide (s.obj 0x410001 ≠ 0 ∨ s.obj 0x420001 ≠ 0) ∧
    (s.gatesInUse.testBit 19 = true ↔ s.linkState 0 ≠ 0 ∨ s.linkState 1 ≠ 0) ∧
    (s.gatesInUse.testBit 20 = true ↔ ∃ a, s.axisState a ≠ 0) ∧
    (s.gatesInUse.testBit 21 = true ↔ ∃ h, s.obj (hk 0x490001 h) ≠ 0) ∧
    (s.gatesInUse.testBit 22 = true ↔ ∃ ch, s.obj (dk 0x580013 ch) ≠ 0)) ∧
  (∀ (g : Nat) (s : State),
    ∃ u, exec (.gateAbort g) s = .next u ∧ sameData s u ∧
      (s.clocks.closing.testBit g = false → u.clocks = s.clocks ∧ u.obj 0x210023 = s.obj 0x210023) ∧
      (s.clocks.closing.testBit g = true → u.clocks.closing.testBit g = false ∧ u.clocks.closed.testBit g = true ∧ u.bit 0x210004 4 = true ∧
        counted s u 0x210023))

/-- SAFE_L_LOW, SAFE_L_HIGH, JUNCTION_READING, RTC_WRITE, RTC_STOP and OPERATING_HOURS_TICK (R630, R631, R633): SAFE_L low puts ports, axes and heaters off and the engine in FAULT; a junction at 110 degrees falls to P3 with FAULT; the RTC is set by a write and loses its validity and the retention memory where the domain stops. -/
def Obligations.SafetyInputsAndBatteryDomain : Prop :=
  (∀ (t : Nat) (s : State),
    s.clocks.safeLow = false →
    ∃ u, exec (.safeLLow t) s = .next u ∧ u.clocks.safeLow = true ∧ u.bit 0x210004 9 = true ∧ u.bit 0x5E0010 0 = true ∧ u.engineState = 6 ∧
      (s.engineState ≠ 6 → u.obj 0x5F1008 = 128) ∧ (∀ n : Fin 16, u.portState n.val = 0) ∧ (∀ a : Fin 4, u.axisState a = 0) ∧
      (∀ h : Fin 4, s.obj (hk 0x49000F h) ≤ 2 → u.obj (hk 0x490001 h) = 0) ∧ u.clocks.ctl = s.clocks.ctl ∧ u.stack.sr = s.stack.sr) ∧
  (∀ (t : Nat) (s : State), s.clocks.safeLow = true → ∃ u, exec (.safeLLow t) s = .next u ∧ u.clocks = s.clocks ∧ u.engineState = s.engineState) ∧
  (∀ s : State, ∃ u, exec .safeLHigh s = .next u ∧ u.clocks = { s.clocks with safeLow := false } ∧ u.engineState = s.engineState ∧ sameData s u) ∧
  (∀ (temp : Int) (t : Nat) (s : State),
    -(2 ^ 15 : Int) ≤ temp → temp < 2 ^ 15 →
    ∃ u, exec (.junctionReading temp t) s = .next u ∧ u.obj 0x21000C = toBits 16 temp ∧
      (temp < 100 * 256 → u.bit 0x210004 10 = s.bit 0x210004 10) ∧ (100 * 256 ≤ temp → u.bit 0x210004 10 = true) ∧
      (temp < 105 * 256 → u.clocks.hot = false) ∧ (105 * 256 ≤ temp → temp < 110 * 256 → u.clocks.hot = s.clocks.hot) ∧
      (temp < 110 * 256 → u.engineState = s.engineState ∧ u.obj 0x210006 = s.obj 0x210006 ∧ u.bit 0x210004 11 = s.bit 0x210004 11) ∧
      (110 * 256 ≤ temp → u.engineState = 6 ∧ (s.engineState ≠ 6 → u.obj 0x5F1008 = 132) ∧ (s.clocks.ctl ≠ .clockHold → u.obj 0x210006 = 3) ∧ u.clocks.hot = true ∧
        u.bit 0x210004 11 = true ∧ u.bit 0x5E0010 4 = true)) ∧
  (∀ (via : Via) (value : Nat) (s : State),
    reaches via s 0x210010 = true →
    ∃ u, exec (.rtcWrite via value) s = .next u ∧ u.rtc = value % 2 ^ 64 ∧ u.vbat.rtcValid = true ∧ u.vbat.hours = s.vbat.hours ∧ sameData s u) ∧
  (∀ s : State,
    ∃ u v, exec .rtcStop s = .next u ∧ exec .operatingHoursTick s = .next v ∧ sameData s u ∧ sameData s v ∧
      u.vbat.rtcValid = false ∧ u.rtc = 0 ∧ u.vbat.hours = s.vbat.hours ∧ u.readDomain 0x210012 = List.replicate 256 0#8 ∧
      v.vbat.hours = (if s.clocks.ctl = .run ∨ s.clocks.ctl = .clockHold then min (2 ^ 32 - 1) (s.vbat.hours + 1) else s.vbat.hours))

/-- STARTUP_SELFTEST_DONE, COUNTER_CHECKPOINT, CHECKPOINT, CHECKPOINT_DONE, CLEAR_RETIREMENTS and CLEAR_LOG (R636, R637, R638, R642, R645, R647, R648, R649, R651, R653, R658): the result of the start-up test follows its detail, and units whose retest fails are retired; device records that cannot be read fail it, and a word corrected in them is counted; a checkpoint adds every lifetime increment to its total and keeps the copy before it; the log and the retirements are cleared in DISABLED alone. -/
def Obligations.SelfTestCheckpointsAndLog : Prop :=
  (∀ (lanes lanesRetest pairs pairsRetest : Nat) (checker crc : Bool) (mram : MramRead) (t : Nat) (s : State),
    ∃ u, exec (.startupSelftestDone lanes lanesRetest pairs pairsRetest checker crc mram t) s = .next u ∧ sameData s u ∧
      (s.obj 0x5E0002 ≠ 1 → u.obj 0x5E0002 = s.obj 0x5E0002 ∧ u.obj 0x5E0003 = s.obj 0x5E0003) ∧
      (s.obj 0x5E0002 = 1 →
        (let d := u.obj 0x5E0003
         u.obj 0x5E0002 = (if d = 0 then 2 else if d < 2 ^ 22 then 3 else 4) ∧
         (u.obj 0x5E0002 = 4 → u.bit 0x5E0011 12 = true) ∧
         (∀ l, l < 17 → d.testBit l = (s.bit 0x240010 l && lanes.testBit l)) ∧
         (∀ p, p < 5 → d.testBit (17 + p) = (pairs.testBit p && !s.mram.pairsRetired.testBit p)) ∧
         d.testBit 22 = checker ∧ d.testBit 23 = crc ∧ d.testBit 24 = (mram.crcBad || mram.finds.contains .double) ∧
         (mram.finds = [.single] → counted s u 0x5E0054) ∧ (mram.finds = [.double] → u.bit 0x5E0011 13 = true ∧ counted s u 0x5E0055) ∧
         (∀ l, l < 17 → d.testBit l = true → lanesRetest.testBit l = true → readFails mram = false → s.mram.lanesRetired.testBit l = false →
           u.bit 0x5E0020 l = true ∧ u.bit 0x240010 l = false ∧ u.mram.lanesRetired.testBit l = true ∧ u.bit 0x5E0004 1 = true) ∧
         (∀ p, p < 5 → d.testBit (17 + p) = true → pairsRetest.testBit p = true →
           u.bit 0x5E0021 p = true ∧ u.mram.pairsRetired.testBit p = true ∧ u.bit 0x5E0004 2 = true) ∧
         ((lanes = 0 ∧ pairs = 0 ∧ checker = false ∧ crc = false ∧ readFails mram = false ∧ (∃ l, l < 17 ∧ s.bit 0x240010 l = true) ∧
           s.mram.pairsRetired.testBit 0 = false) → u.obj 0x5E0002 = 2)))) ∧
  (∀ s : State,
    ∃ u, exec .counterCheckpoint s = .next u ∧ sameData s u ∧
      (s.health.ckSeconds < s.obj 0x5E0005 → u.health.ckSeconds = s.health.ckSeconds ∧ u.health.ckBusy = s.health.ckBusy) ∧
      (s.obj 0x5E0005 ≤ s.health.ckSeconds → u.health.ckSeconds = 0 ∧ u.health.ckBusy = true ∧ (s.health.ckBusy = true → u.health.ckAgain = true))) ∧
  (∀ (via : Via) (s : State),
    reaches via s 0x5E0006 = true →
    ∃ u v w, exec (.checkpoint via) s = .next u ∧ exec (.clearRetirements via) s = .next v ∧ exec (.clearLog via) s = .next w ∧
      sameData s u ∧ sameData s v ∧ sameData s w ∧ u.health.ckBusy = true ∧ (s.health.ckBusy = true → u.health.ckAgain = true) ∧
      (s.engineState = 0 → v.mram.clearRetired = true ∧ v.mram.lanesRetired = s.mram.lanesRetired) ∧
      (s.engineState ≠ 0 → v.mram.clearRetired = s.mram.clearRetired ∧ refused via v 0x08000022 ∧ refused via w 0x08000022 ∧
        (∀ e ∈ s.mram.log.drop 2, e ∈ w.mram.log)) ∧
      (s.engineState = 0 → w.mram.log.length ≤ 1 ∧ (s.bit 0x5E0019 14 = false → w.mram.log = []))) ∧
  (∀ (k : Nat) (s : State),
    s.health.ckBusy = true →
    ∃ u, exec .checkpointDone s = .next u ∧ u.health.ckBusy = s.health.ckAgain ∧ u.health.ckAgain = false ∧ u.bit 0x5E0004 0 = true ∧
      u.obj 0x5E0007 = s.vbat.hours ∧ counted s u 0x5E0053 ∧ u.mram.totalsSeq = s.mram.totalsSeq + 1 ∧ u.mram.totalsOld = s.mram.totals ∧ sameData s u ∧
      (storeWf (fun _ => 0) s.health.lifetime = true → storeWf (fun _ => 0) s.mram.totals = true →
        storeGet (fun _ => 0) s.mram.totals k < 2 ^ 64 →
        storeGet (fun _ => 0) u.mram.totals k = min (2 ^ 64 - 1) (storeGet (fun _ => 0) s.mram.totals k + storeGet (fun _ => 0) s.health.lifetime k)) ∧
      (s.portEnabled 3 = true → ∃ e, findKey u.mram.health 3 = some e ∧ e.serial = s.obj 0x310303)) ∧
  (∀ s : State, s.health.ckBusy = false → ∃ u, exec .checkpointDone s = .next u ∧ sameData s u ∧ u.mram.totals = s.mram.totals ∧ u.obj 0x5E0053 = s.obj 0x5E0053)

/-- The parts of the state, beside objects, that the frames below name. -/
inductive Sys2Proof.Claims.Part where
  | memory
  | domains
  | al
  | clocks
  | vbat
  | engine
  | position
  | port
  | heater
  | render
  | jigsaw
  | ingest
  | camera
  | kaleido
  | analyser
  | axis
  | stack
  | sram
  | dma
  deriving DecidableEq, Repr

open Sys2Proof.Claims.Part

/-- A part reads as before; of the position unit, all but the mark of a reversal, and of the axes, all but the step generators, which time alone may change. -/
def Sys2Proof.Claims.same (s u : State) : Claims.Part → Prop
  | memory => ∀ a, u.byte a = s.byte a
  | domains => ∀ k, u.domain k = s.domain k
  | al => u.slave.al = s.slave.al
  | clocks => u.clocks = s.clocks
  | vbat => u.vbat = s.vbat
  | engine => u.engine = s.engine
  | position => { u.position with reversed := false } = { s.position with reversed := false }
  | port => u.port = s.port
  | heater => u.heater = s.heater
  | render => u.render = s.render
  | jigsaw => u.jigsaw = s.jigsaw
  | ingest => u.ingest = s.ingest
  | camera => u.camera = s.camera
  | kaleido => u.kaleido = s.kaleido
  | analyser => u.analyser = s.analyser
  | axis => ∀ a : Fin 4, (u.axis.get a).still = (s.axis.get a).still
  | stack => u.stack = s.stack
  | sram => u.sram = s.sram
  | dma => u.dma = s.dma

/-- What an entry into FAULT may change. -/
def Sys2Proof.Claims.haltParts : List Claims.Part := [memory, port, render, jigsaw, ingest, analyser, axis, stack]

/-- What a change of the engine's state may change. -/
def Sys2Proof.Claims.jobParts : List Claims.Part := haltParts ++ [engine]

/-- What each command may change: parts of the state, and index families of objects; none where it may change any (a reset, and an access that may reach any object or register). -/
def Sys2Proof.Claims.touches : Instr → Option (List Claims.Part × List Nat)
  | .registerWrite .. | .rcRegisterRead .. | .pairLoRead .. | .pairHiWrite .. | .sdoWrite .. | .sdoSegment .. | .sync0Event ..
  | .processDataOutput .. | .configRestore .. | .windowAccess .. | .windowBlockAccess .. | .powerOn .. | .resetPin .. | .softwareReset ..
  | .brownOut .. | .holdExit .. | .railsBackInRange .. => none
  | .memoryAccess .. => some ([.memory, .stack, .sram], [0x23, 0x38, 0x40, 0x50, 0x51, 0x58, 0x5E])
  | .mailboxUnsupported .. | .siiWrite .. | .slowReqPinChange .. | .statsRead .. | .inputSample .. | .foeHdrRead .. | .foeLogRead ..
  | .counterCheckpoint .. => some ([], [])
  | .encoderEnable .. | .stall .. => some ([.position, .port], [0x22, 0x32])
  | .encoderDisable .. | .wireZ .. | .zEvent .. | .barModeWrite .. => some ([.position], [0x22])
  | .wireFault .. | .illegalTransition .. => some (haltParts ++ [.position], [0x22, 0x23, 0x24, 0x25, 0x31, 0x32, 0x33, 0x38, 0x48, 0x50, 0x5E, 0x5F])
  | .countingEdge .. => some ([.position, .port, .axis], [0x22, 0x23, 0x32, 0x48, 0x5E])
  | .originLatch .. => some ([.position, .port, .camera], [0x22])
  | .latchInEdge .. => some ([], [0x22])
  | .barFrameStart .. | .barFrameTimeout .. => some ([.position], [0x22, 0x5E])
  | .barSample .. => some (jobParts ++ [.position], [0x20, 0x22, 0x23, 0x24, 0x25, 0x31, 0x32, 0x33, 0x38, 0x42, 0x48, 0x50, 0x51, 0x52, 0x5E, 0x5F])
  | .lineEvent .. | .cannotMaskStop .. | .nakIntervalExpiry .. | .renderLineStart .. | .renderLineDone .. | .quickTrainingDone ..
  | .enable .. | .disable .. | .arm .. | .drain .. | .hold .. | .resume .. | .stop .. | .clearFault .. | .commit .. =>
    some (jobParts, [0x20, 0x23, 0x24, 0x25, 0x31, 0x32, 0x33, 0x38, 0x42, 0x48, 0x50, 0x51, 0x52, 0x5E, 0x5F])
  | .eventWithdrawal .. => some ([.port], [0x23, 0x33])
  | .loadStart .. => some ([.port, .sram], [0x31, 0x32, 0x33, 0x34, 0x52, 0x58, 0x5E])
  | .loadEnd .. | .lockstepMismatch .. | .echoVerdict .. | .stackTempReading .. =>
    some (haltParts, [0x23, 0x24, 0x25, 0x31, 0x32, 0x33, 0x38, 0x48, 0x50, 0x5E, 0x5F])
  | .latchTransfer .. | .strobe .. => some ([.port], [])
  | .cycleEnd .. | .windupShot .. | .tsConversionDone .. | .thermalIdleTick .. | .modelInitTimeout .. =>
    some (haltParts, [0x23, 0x24, 0x25, 0x31, 0x32, 0x33, 0x34, 0x38, 0x48, 0x50, 0x5E, 0x5F])
  | .slowReqRelease .. => some ([], [0x23])
  | .armCommit .. | .batchApply .. => some ([.memory, .port, .render, .jigsaw, .analyser, .stack], [0x23, 0x24, 0x31, 0x32, 0x38, 0x42, 0x5E])
  | .portTransfer .. => some ([.memory, .jigsaw, .analyser, .stack], [0x23, 0x31, 0x32, 0x38, 0x5E])
  | .hdrWrite .. => some ([.domains, .memory, .stack], [0x23, 0x30, 0x31, 0x32, 0x34, 0x38])
  | .portEnable .. => some ([.port, .render], [0x24, 0x30, 0x31])
  | .idReadDone .. => some ([.domains, .memory, .port, .render, .stack], [0x24, 0x30, 0x31, 0x33, 0x34, 0x38, 0x5E])
  | .portDisable .. => some ([.memory, .port, .render, .stack], [0x24, 0x30, 0x31, 0x32, 0x33, 0x34, 0x50])
  | .headerOnlyFrame .. | .ttlUpdate .. => some ([.port], [0x34])
  | .flushFrame .. => some ([.port], [0x31, 0x34])
  | .windupStart .. => some ([.port, .sram], [0x31, 0x33, 0x58, 0x5E])
  | .windupStop .. | .slotDescWrite .. => some ([.port], [0x31])
  | .limitClear .. => some ([], [0x31, 0x34])
  | .ntcConversion .. => some ([.heater], [0x34, 0x49, 0x5E])
  | .pidUpdate .. | .heaterModeWrite .. => some ([.heater], [0x49])
  | .heaterCut .. => some ([.heater], [0x49, 0x5E])
  | .cutClear .. => some ([], [0x49])
  | .linkEnable .. | .linkSignalEvent .. | .linkUp .. => some ([.ingest], [0x25, 0x5E])
  | .frameReceived .. | .statusRequest .. | .tilePacket .. | .tileComplete .. => some ([.memory, .ingest, .stack], [0x25, 0x50])
  | .arpRequest .. | .fragmentTimeout .. | .nakTimeout .. | .nakSend .. | .jobIdWrite .. => some ([.ingest], [0x25])
  | .statusInterval .. => some ([.ingest], [])
  | .storeConfigWrite .. | .repeatConfigWrite .. => some ([.ingest], [0x20, 0x25])
  | .rowRelease .. => some ([.memory, .ingest, .stack], [0x25])
  | .laneTestWindow .. | .laneRetestDone .. | .startupSelftestDone .. => some ([.render], [0x24, 0x5E])
  | .laneEntersTest .. => some ([.render], [0x24])
  | .jigsawLineTake .. => some ([.memory, .jigsaw, .stack], [0x38, 0x50, 0x5E])
  | .slotCopy .. => some ([.memory, .port, .jigsaw, .stack, .sram], [0x38])
  | .mapWrite .. | .nozzleStateEdit .. => some ([.memory, .stack], [0x23, 0x38])
  | .firingCounterReset .. => some ([.memory, .stack], [0x38])
  | .captureEnable .. | .frameWatchdog .. | .webTrigger .. | .triggerCommand .. | .directTransfer .. | .holdMaskWrite .. => some ([.camera], [0x40])
  | .frameStart .. | .cameraPacket .. | .frameEnd .. => some ([.memory, .camera, .stack], [0x40, 0x50])
  | .triggerPulseEnd .. => some ([.camera], [])
  | .settingsSetWrite .. => some ([.domains, .camera], [0x40])
  | .cciTransferDone .. => some ([.camera], [0x40, 0x5E])
  | .reprocess .. => some ([.memory, .camera, .stack], [0x40])
  | .cameraStall .. => some ([], [0x40, 0x5E])
  | .frameTake .. => some ([.camera, .kaleido], [0x40, 0x41, 0x5E])
  | .recordComplete .. => some ([.memory, .camera, .kaleido, .stack], [0x41, 0x50])
  | .processParamWrite .. => some ([.domains], [0x41])
  | .parameterFreeze .. | .statsReadAdvance .. => some ([.kaleido], [0x41])
  | .kaleidoEnable .. => some ([.kaleido, .analyser], [0x41])
  | .analyseRecord .. => some ([.domains, .memory, .analyser, .stack], [0x42, 0x50, 0x5E])
  | .bandPlacement .. | .recalibration .. | .geometry .. | .clearMutes .. | .restoreBudgets .. => some ([.analyser], [0x42])
  | .muteTimeout .. | .resultRead .. | .resultReadAdvance .. => some ([.analyser], [])
  | .apply .. => some ([.memory, .analyser, .stack], [0x23, 0x38, 0x42])
  | .axisEnable .. | .moveAbsolute .. | .moveRelative .. | .velocity .. | .axisStop .. | .quickStop .. | .home .. | .engageGear ..
  | .disengageGear .. | .setPosition .. | .axisClearFault .. | .moveDone .. | .limitReached .. | .homeDone .. | .segment ..
  | .segmentQueueWrite .. | .walkEnable .. => some ([.axis], [0x48])
  | .diagStall .. | .homeFail .. | .gearedAxisFault .. | .motionAtRest .. => some ([.axis], [0x48, 0x5E])
  | .stackRequest .. | .targetMiss .. | .pageIdleExpiry .. | .refreshDue .. | .thermalThrottleWindow .. | .selfRefreshEnter ..
  | .selfRefreshExit .. | .selfRefreshEntryDone .. => some ([.stack], [0x50])
  | .stackCommandIssue .. | .alert .. => some ([.memory, .stack], [0x50, 0x5E])
  | .refreshWindowStart .. | .overtempRecovery .. | .stkWir .. | .stkWdr .. => some ([.stack], [])
  | .selfRefreshExitDone .. | .trainingDone .. | .replayRoundDone .. | .mbistDone .. =>
    some (jobParts, [0x20, 0x23, 0x24, 0x25, 0x31, 0x32, 0x33, 0x38, 0x48, 0x50, 0x51, 0x52, 0x5E, 0x5F])
  | .addressMapWrite .. => some ([], [0x50])
  | .retestRead .. | .eyeSweep .. => some ([.stack], [0x51, 0x52, 0x5E])
  | .patrolRead .. => some ([.stack], [0x50, 0x51, 0x52])
  | .rebuildDone .. => some (haltParts ++ [.sram], [0x20, 0x23, 0x24, 0x25, 0x31, 0x32, 0x33, 0x38, 0x48, 0x50, 0x51, 0x52, 0x58, 0x5E, 0x5F])
  | .mbistRun .. => some ([.memory, .ingest, .stack], [0x25, 0x50, 0x51, 0x52])
  | .mbistAbort .. => some ([.stack], [0x52])
  | .clearLists .. | .stackLossClear .. => some ([], [0x52])
  | .scrubStep .. => some ([.sram], [0x58, 0x5E])
  | .sramClearDone .. => some ([.memory, .stack, .sram], [0x58])
  | .dmaStart .. => some ([.dma], [0x58])
  | .dmaAbort .. | .descriptorComplete .. => some ([.memory, .stack, .sram, .dma], [0x23, 0x38, 0x40, 0x50, 0x58])
  | .descriptorFetch .. => some ([.sram, .dma], [0x58])
  | .dmaBusError .. => some ([.memory, .stack, .sram, .dma], [0x23, 0x38, 0x40, 0x50, 0x58, 0x5E])
  | .busErrorClear .. => some ([], [0x58])
  | .alStateRequest .. | .watchdog .. =>
    some (haltParts ++ [.al], [0x20, 0x23, 0x24, 0x25, 0x31, 0x32, 0x33, 0x38, 0x48, 0x50, 0x51, 0x52, 0x5E, 0x5F])
  | .dcSynchronised .. | .dcUnsync .. | .foeFwWrite .. => some ([], [0x20])
  | .storeParameters .. => some ([], [0x10, 0x20])
  | .restoreDefaultParameters .. => some ([], [0x10])
  | .start .. =>
    some (jobParts ++ [.position, .camera], [0x20, 0x22, 0x23, 0x24, 0x25, 0x31, 0x32, 0x33, 0x38, 0x42, 0x48, 0x50, 0x51, 0x52, 0x5E, 0x5F])
  | .emergencySend .. => some ([], [0x5F])
  | .foeHdrWrite .. => some ([.domains, .memory, .render, .stack], [0x23, 0x24, 0x30, 0x31, 0x32, 0x34, 0x38])
  | .rcReady .. => some (haltParts ++ [.clocks], [0x20, 0x23, 0x24, 0x25, 0x31, 0x32, 0x33, 0x38, 0x48, 0x50, 0x5E, 0x5F])
  | .refReady .. | .safeLHigh .. | .vrReadyRestored .. | .refWindowOutOfRange .. => some ([.clocks], [])
  | .pllLocked .. => some ([.clocks], [0x20, 0x24, 0x5E])
  | .pllFail .. | .pstateRequest .. | .pstateDone .. | .clockGateWrite .. | .gateAbort .. => some ([.clocks], [0x21])
  | .refLoss .. =>
    some (haltParts ++ [.clocks, .position, .dma], [0x20, 0x21, 0x23, 0x24, 0x25, 0x31, 0x32, 0x33, 0x38, 0x48, 0x49, 0x50, 0x58, 0x5E, 0x5F])
  | .rcFault .. => some ([.clocks], [0x21, 0x5E])
  | .coreSourceSwitch .. => some ([], [0x21])
  | .vrFault .. | .junctionReading .. => some (haltParts ++ [.clocks], [0x21, 0x23, 0x24, 0x25, 0x31, 0x32, 0x33, 0x38, 0x48, 0x50, 0x5E, 0x5F])
  | .safeLLow .. => some (haltParts ++ [.clocks, .heater], [0x21, 0x23, 0x24, 0x25, 0x30, 0x31, 0x32, 0x33, 0x34, 0x38, 0x48, 0x49, 0x50, 0x5E, 0x5F])
  | .rtcWrite .. => some ([.vbat], [0x21])
  | .rtcStop .. | .operatingHoursTick .. => some ([.vbat], [])
  | .checkpoint .. | .checkpointDone .. | .clearRetirements .. | .clearLog .. => some ([], [0x5E])
  | .cutComparatorRelease .. => some ([.heater], [])
  | .dcActivation .. => some ([.clocks], [0x20])

/-- Every command (R36, R639 and the chapters of the blocks): each answers a next state and leaves the queue of commands alone; a command changes no part of the state and no object outside those that `touches` names for it, but the objects that time and the end of every command may write. -/
def Obligations.CommandsKeepOtherBlocks : Prop :=
  (∀ (c : Instr) (s : State), ∃ u, exec c s = .next u ∧ u.pending = s.pending) ∧
  ∀ (c : Instr) (parts : List Claims.Part) (families : List Nat) (s u : State),
    touches c = some (parts, families) → exec c s = .next u →
    (∀ p, p ∉ parts → Claims.same s u p) ∧
    ∀ k, k / 0x10000 ∉ families → k ∉ shared → k ∉ timeKeys → u.obj k = s.obj k

/-- The objects that a command may change, beside those that time and the end of every command may write: runs of objects by the key of instance 0 and their number; none for the commands that may reach any object, or change the state of the engine. -/
def Sys2Proof.Claims.writes : Instr → Option (List (Key × Nat))
  | .memoryAccess .. =>
    some [(0x230023, 1), (0x380008, 1), (0x400027, 1), (0x500021, 2), (0x500043, 2), (0x510006, 1), (0x580009, 3), (0x58000D, 3), (0x5E0010, 1)]
  | .mailboxUnsupported .. | .siiWrite .. | .latchTransfer .. | .strobe .. | .slowReqRelease .. | .slowReqPinChange .. | .statusInterval ..
  | .triggerPulseEnd .. | .statsRead .. | .muteTimeout .. | .resultRead .. | .resultReadAdvance .. | .disengageGear .. | .setPosition ..
  | .segment .. | .segmentQueueWrite .. | .refreshWindowStart .. | .overtempRecovery .. | .stkWir .. | .stkWdr .. | .inputSample ..
  | .restoreDefaultParameters .. | .foeHdrRead .. | .foeLogRead .. | .refReady .. | .rtcStop .. | .operatingHoursTick ..
  | .counterCheckpoint .. | .checkpoint .. | .clearRetirements .. | .clearLog .. | .safeLHigh .. | .vrReadyRestored ..
  | .cutComparatorRelease .. | .refWindowOutOfRange .. => some []
  | .encoderEnable .. => some [(0x220001, 1), (0x220014, 1), (0x32001F, 1)]
  | .encoderDisable .. => some [(0x220001, 1)]
  | .wireZ .. => some [(0x220016, 1), (0x220051, 1)]
  | .countingEdge .. =>
    some [(0x220014, 1), (0x220016, 2), (0x220019, 1), (0x220020, 7), (0x220028, 3), (0x220053, 1), (0x230020, 1), (0x32001F, 1), (0x5E0010, 1)]
  | .zEvent .. => some [(0x220016, 1), (0x220020, 6), (0x220028, 3), (0x220054, 1)]
  | .stall .. => some [(0x220014, 1), (0x220016, 1), (0x32001F, 1)]
  | .originLatch .. => some [(0x220016, 1), (0x220018, 1)]
  | .latchInEdge .. => some [(0x220020, 6), (0x220028, 3)]
  | .barModeWrite .. => some [(0x220030, 1)]
  | .barFrameStart .. | .barFrameTimeout .. => some [(0x220016, 1), (0x220058, 1), (0x5E0010, 1)]
  | .eventWithdrawal .. => some [(0x230021, 1), (0x330007, 1)]
  | .loadStart .. =>
    some [(0x310001, 1), (0x310006, 2), (0x310009, 1), (0x31000C, 2), (0x32001A, 1), (0x330003, 1), (0x330010, 1), (0x34001A, 1), (0x520020, 32),
      (0x580009, 2), (0x58000D, 2), (0x5E0010, 1)]
  | .armCommit .. =>
    some [(0x230012, 4), (0x230026, 1), (0x240060, 16), (0x240080, 2), (0x24008A, 1), (0x310006, 3), (0x320011, 8), (0x32001A, 1), (0x32001D, 1),
      (0x32001F, 1), (0x380007, 7), (0x38000F, 1), (0x380027, 1), (0x420070, 16), (0x5E0010, 1)]
  | .portTransfer .. =>
    some [(0x230012, 2), (0x230015, 1), (0x310006, 3), (0x320011, 8), (0x32001A, 1), (0x32001D, 1), (0x32001F, 1), (0x380007, 7), (0x38000F, 1),
      (0x380027, 1), (0x5E0010, 1)]
  | .hdrWrite .. => some [(0x230023, 1), (0x300003, 3), (0x310005, 5), (0x32001A, 1), (0x340001, 2), (0x380007, 1), (0x380009, 7)]
  | .portEnable .. => some [(0x240011, 1), (0x240014, 2), (0x240070, 16), (0x240087, 1), (0x300001, 1), (0x310001, 2), (0x310009, 1)]
  | .idReadDone .. =>
    some [(0x240011, 1), (0x240014, 2), (0x240070, 16), (0x240087, 1), (0x300001, 1), (0x310001, 4), (0x310009, 1), (0x310010, 1), (0x33000E, 2),
      (0x34000E, 4), (0x34001A, 1), (0x380007, 2), (0x380012, 1), (0x5E0054, 2)]
  | .portDisable .. =>
    some [(0x240011, 1), (0x240014, 2), (0x240070, 16), (0x240087, 1), (0x300001, 1), (0x310001, 1), (0x310009, 1), (0x31000E, 1), (0x310010, 1),
      (0x32001C, 1), (0x330001, 2), (0x34001A, 1), (0x500044, 1)]
  | .headerOnlyFrame .. => some [(0x34001A, 1)]
  | .flushFrame .. => some [(0x310001, 1), (0x310009, 1), (0x31000E, 1), (0x34001A, 1)]
  | .windupStart .. => some [(0x310001, 1), (0x310009, 1), (0x31000E, 2), (0x33000B, 1), (0x580009, 2), (0x58000D, 2), (0x5E0010, 1)]
  | .windupStop .. | .slotDescWrite .. => some [(0x310009, 1)]
  | .ttlUpdate .. => some [(0x340009, 1), (0x340012, 10)]
  | .limitClear .. => some [(0x310009, 1), (0x34001A, 1)]
  | .ntcConversion .. => some [(0x34001A, 2), (0x490001, 1), (0x49000D, 4), (0x490021, 1), (0x5E0010, 1)]
  | .pidUpdate .. => some [(0x49000E, 1), (0x490010, 1), (0x490022, 1)]
  | .heaterCut .. => some [(0x490001, 1), (0x49000E, 3), (0x490020, 1), (0x5E0010, 1)]
  | .cutClear .. | .heaterModeWrite .. => some [(0x490001, 1), (0x49000E, 3)]
  | .linkEnable .. => some [(0x250001, 2), (0x250030, 1), (0x25003C, 1), (0x250047, 1), (0x250050, 2), (0x5E0010, 1)]
  | .linkSignalEvent .. | .linkUp .. => some [(0x250030, 1), (0x25003C, 1), (0x250047, 1), (0x250050, 2), (0x5E0010, 1)]
  | .frameReceived .. => some [(0x25003C, 1), (0x250041, 2), (0x250045, 4), (0x25004B, 5), (0x500021, 2), (0x500043, 2)]
  | .arpRequest .. => some [(0x25004B, 1)]
  | .statusRequest .. | .tilePacket .. => some [(0x25003C, 1), (0x250041, 2), (0x250045, 4), (0x25004D, 1), (0x500021, 2), (0x500043, 2)]
  | .tileComplete .. => some [(0x25003C, 1), (0x250040, 1), (0x250043, 2), (0x250047, 1), (0x25004A, 1), (0x500021, 2), (0x500044, 1)]
  | .fragmentTimeout .. => some [(0x25003C, 1), (0x250047, 2)]
  | .nakTimeout .. | .nakSend .. => some [(0x250047, 1)]
  | .jobIdWrite .. => some [(0x250010, 1), (0x250035, 1), (0x25003C, 1)]
  | .storeConfigWrite .. => some [(0x200010, 2), (0x250011, 3), (0x250032, 1), (0x250035, 1), (0x25003C, 1)]
  | .repeatConfigWrite .. => some [(0x200012, 2), (0x250020, 2), (0x25003C, 1)]
  | .rowRelease .. => some [(0x250035, 1)]
  | .laneTestWindow .. => some [(0x240010, 2), (0x240014, 2), (0x240070, 16), (0x240087, 3), (0x5E0010, 1), (0x5E0020, 1), (0x5E0056, 2)]
  | .laneEntersTest .. => some [(0x240011, 1), (0x240014, 2), (0x240070, 16), (0x240087, 1)]
  | .laneRetestDone .. => some [(0x240010, 2), (0x240014, 2), (0x240070, 16), (0x240087, 1), (0x240089, 1), (0x5E0010, 1), (0x5E0020, 1)]
  | .jigsawLineTake .. => some [(0x380008, 1), (0x380020, 6), (0x500044, 1), (0x5E0010, 1)]
  | .slotCopy .. => some [(0x380008, 1), (0x380026, 1)]
  | .mapWrite .. => some [(0x230023, 1), (0x380007, 2), (0x38000E, 1)]
  | .nozzleStateEdit .. => some [(0x230023, 1), (0x380003, 1), (0x380007, 2), (0x38000E, 1)]
  | .firingCounterReset .. => some [(0x380008, 1)]
  | .captureEnable .. => some [(0x400001, 1), (0x400020, 1), (0x400027, 1)]
  | .frameStart .. => some [(0x400020, 1), (0x400023, 5), (0x400040, 9), (0x40004A, 1), (0x40004C, 1), (0x500044, 1)]
  | .cameraPacket .. => some [(0x400020, 1), (0x400027, 1), (0x400041, 1), (0x400043, 2), (0x400047, 5), (0x500021, 2), (0x500044, 1)]
  | .frameEnd .. => some [(0x400020, 1), (0x400023, 3), (0x400027, 1), (0x400040, 6), (0x400047, 2), (0x40004A, 1), (0x500044, 1)]
  | .frameWatchdog .. => some [(0x400020, 1), (0x400027, 1), (0x400041, 1), (0x400043, 2)]
  | .webTrigger .. | .triggerCommand .. => some [(0x400027, 1), (0x40004C, 1)]
  | .settingsSetWrite .. => some [(0x400020, 1), (0x400027, 1), (0x40004E, 1)]
  | .cciTransferDone .. => some [(0x400015, 1), (0x400020, 1), (0x400027, 1), (0x40004D, 1), (0x5E0010, 1)]
  | .directTransfer .. => some [(0x400015, 1), (0x400020, 1), (0x400027, 1)]
  | .holdMaskWrite .. => some [(0x400027, 1), (0x400030, 1)]
  | .reprocess .. => some [(0x400027, 1)]
  | .cameraStall .. => some [(0x400020, 1), (0x400027, 1), (0x40004F, 1), (0x5E0010, 1)]
  | .frameTake .. => some [(0x400020, 1), (0x400030, 1), (0x41000C, 2), (0x410051, 4), (0x5E0010, 1)]
  | .recordComplete .. => some [(0x410001, 1), (0x41000C, 2), (0x410050, 1), (0x500044, 1)]
  | .processParamWrite .. => some [(0x410004, 5), (0x41000D, 2), (0x410012, 7), (0x410022, 7)]
  | .parameterFreeze .. => some [(0x410002, 1), (0x41000C, 2)]
  | .kaleidoEnable .. => some [(0x410001, 1), (0x41000C, 2)]
  | .statsReadAdvance .. => some [(0x41000C, 1)]
  | .analyseRecord .. => some [(0x420021, 1), (0x420031, 1), (0x420045, 1), (0x420050, 7), (0x420058, 2), (0x42005C, 1), (0x500044, 1), (0x5E0010, 1)]
  | .bandPlacement .. => some [(0x420045, 1), (0x420057, 1)]
  | .batchApply .. =>
    some [(0x230012, 4), (0x240060, 16), (0x240080, 2), (0x24008A, 1), (0x310006, 3), (0x320011, 8), (0x32001A, 1), (0x32001D, 1), (0x32001F, 1),
      (0x380007, 9), (0x380027, 1), (0x420045, 1), (0x42005A, 2), (0x420070, 16), (0x5E0010, 1)]
  | .recalibration .. => some [(0x420045, 1), (0x42005D, 1)]
  | .geometry .. | .clearMutes .. | .restoreBudgets .. => some [(0x420045, 1), (0x420059, 1)]
  | .apply .. => some [(0x230023, 1), (0x380007, 1), (0x38000E, 1), (0x420045, 1)]
  | .axisEnable .. => some [(0x480001, 1), (0x480028, 1), (0x480030, 1), (0x480034, 1), (0x480036, 1)]
  | .moveAbsolute .. | .moveRelative .. | .velocity .. | .home .. => some [(0x480030, 1), (0x480034, 1)]
  | .axisStop .. | .quickStop .. => some [(0x480028, 1), (0x480030, 1), (0x480034, 1)]
  | .engageGear .. | .moveDone .. | .homeDone .. => some [(0x480030, 1)]
  | .axisClearFault .. => some [(0x480030, 1), (0x480034, 1), (0x480036, 1)]
  | .limitReached .. => some [(0x480034, 1), (0x480042, 1)]
  | .diagStall .. => some [(0x480028, 1), (0x480030, 1), (0x480034, 1), (0x480036, 1), (0x480040, 1), (0x5E0010, 1)]
  | .homeFail .. => some [(0x480028, 1), (0x480030, 1), (0x480034, 1), (0x480036, 1), (0x480041, 1), (0x5E0010, 1)]
  | .gearedAxisFault .. => some [(0x480028, 1), (0x480030, 1), (0x480034, 1), (0x480036, 1), (0x480042, 1), (0x480044, 1), (0x5E0010, 1)]
  | .walkEnable .. => some [(0x480028, 1), (0x480030, 1)]
  | .stackRequest .. => some [(0x500021, 2), (0x500041, 1), (0x500044, 1)]
  | .stackCommandIssue .. => some [(0x50000F, 1), (0x500021, 2), (0x500041, 3), (0x5E0010, 1)]
  | .targetMiss .. => some [(0x50000F, 1), (0x500021, 2), (0x500041, 1), (0x500048, 8)]
  | .pageIdleExpiry .. => some [(0x500021, 2), (0x500041, 1)]
  | .refreshDue .. => some [(0x50000F, 1), (0x500021, 2), (0x500040, 2)]
  | .thermalThrottleWindow .. => some [(0x500045, 1)]
  | .selfRefreshEnter .. => some [(0x50000F, 1), (0x500044, 1)]
  | .selfRefreshExit .. | .addressMapWrite .. => some [(0x50000F, 1)]
  | .selfRefreshEntryDone .. => some [(0x50000E, 2), (0x500018, 1), (0x500020, 1)]
  | .alert .. => some [(0x500021, 2), (0x500041, 1), (0x5E0010, 1)]
  | .retestRead .. => some [(0x510007, 1), (0x51000B, 1), (0x510012, 1), (0x51001A, 1), (0x520001, 2), (0x520004, 1), (0x520042, 1), (0x5E0010, 1)]
  | .eyeSweep .. => some [(0x510009, 2), (0x510016, 2), (0x51001A, 1), (0x520002, 1), (0x5E0010, 1)]
  | .patrolRead .. => some [(0x500044, 1), (0x510006, 1), (0x510008, 1), (0x520007, 1)]
  | .mbistRun .. => some [(0x250035, 1), (0x500020, 1), (0x500044, 1), (0x51001A, 1), (0x520001, 2), (0x520013, 2)]
  | .mbistAbort .. | .clearLists .. => some [(0x520002, 1)]
  | .stackLossClear .. => some [(0x520002, 1), (0x520020, 32)]
  | .scrubStep .. => some [(0x580009, 2), (0x58000D, 2), (0x5E0010, 1)]
  | .sramClearDone .. => some [(0x580008, 1)]
  | .dmaStart .. => some [(0x580013, 1), (0x580017, 1)]
  | .dmaAbort .. =>
    some [(0x230023, 1), (0x380008, 1), (0x400027, 1), (0x500021, 2), (0x500043, 1), (0x580009, 1), (0x58000B, 1), (0x58000D, 1), (0x58000F, 1),
      (0x580013, 2), (0x580016, 2), (0x580022, 1), (0x580025, 1)]
  | .descriptorFetch .. => some [(0x580009, 1), (0x58000D, 1), (0x580013, 5), (0x580023, 1)]
  | .descriptorComplete .. =>
    some [(0x230023, 1), (0x380008, 1), (0x400027, 1), (0x500021, 2), (0x500043, 1), (0x580009, 1), (0x58000B, 1), (0x58000D, 1), (0x58000F, 1),
      (0x580013, 5), (0x580020, 2), (0x580023, 1), (0x580025, 1)]
  | .dmaBusError .. =>
    some [(0x230023, 1), (0x380008, 1), (0x400027, 1), (0x500021, 2), (0x500043, 2), (0x580001, 3), (0x580009, 3), (0x58000D, 3), (0x580013, 2),
      (0x580016, 2), (0x580024, 2), (0x5E0010, 1)]
  | .busErrorClear .. => some [(0x580001, 2)]
  | .dcSynchronised .. | .dcUnsync .. => some [(0x200021, 2)]
  | .storeParameters .. => some [(0x20000C, 1)]
  | .emergencySend .. => some [(0x5F2031, 1)]
  | .foeFwWrite .. => some [(0x200008, 1)]
  | .foeHdrWrite .. =>
    some [(0x230023, 1), (0x240011, 1), (0x240014, 2), (0x240070, 16), (0x240087, 1), (0x300003, 3), (0x310005, 5), (0x32001A, 1), (0x340001, 2),
      (0x380007, 1), (0x380009, 7)]
  | .pllLocked .. => some [(0x200007, 1), (0x240010, 1), (0x5E0002, 1), (0x5E0054, 2)]
  | .pllFail .. | .rtcWrite .. => some [(0x210004, 1)]
  | .rcFault .. => some [(0x210004, 1), (0x210027, 1), (0x5E0010, 1)]
  | .coreSourceSwitch .. => some [(0x210004, 1), (0x210009, 1), (0x210022, 1)]
  | .pstateRequest .. => some [(0x210004, 3), (0x210026, 1)]
  | .pstateDone .. => some [(0x210004, 1), (0x210006, 1), (0x210024, 1), (0x210026, 1)]
  | .clockGateWrite .. => some [(0x210004, 1), (0x21000A, 1)]
  | .gateAbort .. => some [(0x210004, 1), (0x210023, 1)]
  | .startupSelftestDone .. =>
    some [(0x240010, 2), (0x240014, 2), (0x240070, 16), (0x240087, 3), (0x5E0002, 2), (0x5E0010, 1), (0x5E0020, 2), (0x5E0054, 2)]
  | .checkpointDone .. => some [(0x5E0007, 1), (0x5E0053, 1)]
  | .motionAtRest .. => some [(0x480028, 1), (0x480030, 1), (0x480036, 1), (0x480041, 1), (0x480043, 2), (0x5E0010, 1)]
  | .dcActivation .. => some [(0x200021, 1)]
  | .registerWrite .. | .rcRegisterRead .. | .pairLoRead .. | .pairHiWrite .. | .sdoWrite .. | .sdoSegment .. | .wireFault ..
  | .illegalTransition .. | .sync0Event .. | .barSample .. | .lineEvent .. | .loadEnd .. | .cycleEnd .. | .cannotMaskStop ..
  | .lockstepMismatch .. | .echoVerdict .. | .windupShot .. | .tsConversionDone .. | .thermalIdleTick .. | .modelInitTimeout ..
  | .nakIntervalExpiry .. | .renderLineStart .. | .renderLineDone .. | .stackTempReading .. | .selfRefreshExitDone .. | .trainingDone ..
  | .replayRoundDone .. | .quickTrainingDone .. | .rebuildDone .. | .mbistDone .. | .alStateRequest .. | .watchdog ..
  | .processDataOutput .. | .configRestore .. | .enable .. | .disable .. | .arm .. | .start .. | .drain .. | .hold .. | .resume ..
  | .stop .. | .clearFault .. | .commit .. | .windowAccess .. | .windowBlockAccess .. | .powerOn .. | .resetPin .. | .softwareReset ..
  | .brownOut .. | .rcReady .. | .refLoss .. | .holdExit .. | .vrFault .. | .safeLLow .. | .junctionReading .. | .railsBackInRange .. => none

/-- The kinds of unit of which the block holds several. -/
inductive Sys2Proof.Claims.Unit where
  | port
  | camera
  | heater
  | axis
  | dma
  | chan
  deriving DecidableEq, Repr

/-- The unit that a command acts on alone. -/
def Sys2Proof.Claims.unit : Instr → Option (Claims.Unit × Nat)
  | .eventWithdrawal x .. | .loadStart x .. | .latchTransfer x .. | .strobe x .. | .hdrWrite _ x .. | .portEnable _ x ..
  | .idReadDone x .. | .portDisable _ x .. | .headerOnlyFrame x .. | .flushFrame x .. | .windupStart _ x .. | .windupStop _ x ..
  | .slotDescWrite x .. | .limitClear _ x .. | .jigsawLineTake x .. | .slotCopy x .. | .mapWrite x .. | .nozzleStateEdit _ x ..
  | .firingCounterReset _ x .. | .recalibration x .. | .foeHdrWrite x .. | .foeHdrRead x .. => some (.port, x.val)
  | .ntcConversion x .. | .pidUpdate x .. | .heaterCut x .. | .cutClear _ x .. | .heaterModeWrite _ x .. | .cutComparatorRelease x .. => some (.heater, x.val)
  | .captureEnable _ x .. | .frameStart x .. | .cameraPacket x .. | .frameEnd x .. | .frameWatchdog x ..
  | .webTrigger x .. | .triggerCommand _ x .. | .triggerPulseEnd x .. | .settingsSetWrite x .. | .cciTransferDone x ..
  | .directTransfer _ x .. | .holdMaskWrite _ x .. | .reprocess _ x .. | .cameraStall x .. => some (.camera, x.val)
  | .axisEnable _ x .. | .moveAbsolute _ x .. | .moveRelative _ x .. | .velocity _ x .. | .axisStop _ x .. | .quickStop _ x .. | .home _ x ..
  | .engageGear _ x .. | .disengageGear _ x .. | .setPosition _ x .. | .axisClearFault _ x .. | .moveDone x .. | .limitReached x ..
  | .diagStall x .. | .homeFail x .. | .homeDone x .. | .segment x .. | .segmentQueueWrite x .. | .gearedAxisFault x .. | .walkEnable _ x ..
  | .motionAtRest x .. => some (.axis, x.val)
  | .stackCommandIssue x .. | .targetMiss x .. | .pageIdleExpiry x .. | .refreshDue x .. | .alert x .. | .retestRead x ..
  | .eyeSweep x .. => some (.chan, x.val)
  | .dmaStart _ x .. | .dmaAbort _ x .. | .descriptorFetch x .. | .descriptorComplete x .. => some (.dma, x.val)
  | _ => none

/-- The objects of every unit of a kind but unit `i` are unchanged, but those that time may write. -/
def Sys2Proof.Claims.otherObjects (s u : State) (families : List Nat) (first : Key) (i : Nat) : Prop :=
  ∀ k, k / 0x10000 ∈ families → first ≤ baseKey k → instOf k ≠ i → k ∉ timeKeys → u.obj k = s.obj k

/-- Every unit of a kind but unit `i` is as before. -/
def Sys2Proof.Claims.otherUnits (s u : State) (i : Nat) : Claims.Unit → Prop
  | .port => otherObjects s u [0x30, 0x31, 0x32, 0x33, 0x34, 0x38] 0 i ∧
      ∀ n : Fin 16, n.val ≠ i → u.port.get n = s.port.get n ∧ u.jigsaw.get n = s.jigsaw.get n
  | .camera => otherObjects s u [0x40] 0 i ∧ ∀ c : Fin 2, c.val ≠ i → u.camera.get c = s.camera.get c
  | .heater => otherObjects s u [0x49] 0 i ∧ ∀ h : Fin 4, h.val ≠ i → u.heater.get h = s.heater.get h
  | .axis => otherObjects s u [0x48] 0 i ∧ ∀ a : Fin 4, a.val ≠ i → (u.axis.get a).still = (s.axis.get a).still
  | .dma => otherObjects s u [0x58] 0x580010 i ∧ ∀ ch : Fin 32, ch.val ≠ i → u.dma.get ch = s.dma.get ch
  | .chan => otherObjects s u [0x50, 0x51] 0x500020 i ∧ ∀ c : Fin 8, c.val ≠ i → u.chan c = s.chan c

/-- Commands that change no state of the engine, reset nothing and name what they act on (R19 and the chapters of the blocks): every object is unchanged but those that `writes` names for the command and those that time and the end of every command may write; and of the ports, cameras, heaters, axes, DMA channels and stack channels a command leaves alone every one but its own. -/
def Obligations.CommandsWriteTheirOwnObjects : Prop :=
  (∀ (c : Instr) (keys : List (Key × Nat)) (s u : State),
    Claims.writes c = some keys → exec c s = .next u →
    ∀ k, k ∉ shared → k ∉ timeKeys → (∀ p ∈ keys, baseKey k < p.1 ∨ p.1 + p.2 ≤ baseKey k) → u.obj k = s.obj k) ∧
  ∀ (c : Instr) (f : Claims.Unit) (i : Nat) (s u : State),
    Claims.unit c = some (f, i) → exec c s = .next u → Claims.otherUnits s u i f

/-- A step takes the command at the front of the queue and is that command's effect on the state with the rest; on an empty queue one clock of 2 ns passes, which is the model's choice (log entry 1), and changes only what time and the end of every command may write. -/
def Obligations.StepTakesTheFrontCommand : Prop :=
  (∀ (c : Instr) (rest : List Instr) (s : State), s.pending = c :: rest → step s = exec c { s with pending := rest }) ∧
  (∀ s : State, s.pending = [] → ∃ u, step s = .next u ∧ u.clk = s.clk + 1 ∧
    u.sysTime = (if s.timing then (s.sysTime + 2) % 2 ^ 64 else s.sysTime) ∧ u.pending = [] ∧ sameData s u ∧
    (∀ k, k ∉ shared → k ∉ timeKeys → u.obj k = s.obj k) ∧ ∀ p, p ≠ .axis → Claims.same s u p)

/-- The event vector (R588): after every step it is that of the event registers, whether a command ran or a clock passed, and each source of the table is pending exactly while its register says so, in a state that lists objects of the dictionary alone. -/
def Obligations.EventVectorFollowsItsRegisters : Prop :=
  (∀ s u : State, step s = .next u → u.pend = pendingVector u.od) ∧
  ∀ s : State, s.pend = pendingVector s.od → storeWf defaultObj s.od = true → (∀ x ∈ s.od, (rowOf x.1).isSome = true) →
    (∀ ch : Fin 32, s.pend.testBit ch.val = decide (s.obj (dk 0x580017 ch) % 16 ≠ 0)) ∧
    (∀ n : Fin 16, s.pend.testBit (32 + n.val) = decide (s.obj (pk 0x310009 n) ≠ 0) ∧
      s.pend.testBit (48 + n.val) = decide (s.obj (pk 0x34001B n) ≠ 0) ∧ s.pend.testBit (64 + n.val) = decide (s.obj (pk 0x380008 n) ≠ 0)) ∧
    (∀ i : Fin 4, s.pend.testBit (80 + i.val) = decide (s.obj (hk 0x490010 i) ≠ 0) ∧ s.pend.testBit (84 + i.val) = decide (s.obj (ak 0x480035 i) ≠ 0)) ∧
    (∀ c : Fin 2, s.pend.testBit (88 + c.val) = decide (s.obj (ck 0x400027 c) ≠ 0)) ∧
    (∀ x ∈ [(90, 0x41000D), (91, 0x420045), (92, 0x220016), (93, 0x230019), (94, 0x240013), (95, 0x25003C), (96, 0x50000F), (97, 0x520002),
        (98, 0x580002), (99, 0x580009), (100, 0x210004), (101, 0x5F100C), (102, 0x200023)],
      s.pend.testBit x.1 = decide (s.obj x.2 ≠ 0)) ∧
    (∀ i, 103 ≤ i → i < 128 → s.pend.testBit i = false) ∧
    ∀ i, i < 32 → s.pend.testBit (128 + i) = s.bit 0x5E0010 i

/-- The stores keep their canonical form (R588 for the vector): a step from a sound state gives a sound state. -/
def Obligations.StoresStayCanonical : Prop :=
  ∀ s u : State, s.sound = true → step s = .next u → u.sound = true

/-- The state after reset (R20, R76, R137, R173, R203, R338, R432, R540, R570, R588, R602, R607, R658): the engine in DISABLED, the AL state INIT, every port, axis and heater off, every output pin at its rest level, no event pending, SRAM clear, no command waiting, every store canonical. What a byte of the stack reads is the model's choice (log entry 4). -/
def Obligations.ResetIsInert : Prop :=
  let s := State.reset
  s.sound = true ∧ s.pending = [] ∧ s.pend = 0 ∧ s.engineState = 0 ∧ s.slave.al = .init ∧ s.slave.emcy = [] ∧ s.clocks.ctl = .rcStart ∧
    s.faultLow = false ∧ s.alertLow = false ∧ s.sched.drive = false ∧ s.errorRegister = 0 ∧ s.obj 0x5E0002 = 0 ∧ s.obj 0x200003 = 0xFF ∧
    (∀ n : Fin 16, s.portState n.val = 0 ∧ s.portEnabled n.val = false ∧ (s.port.get n).cur = none ∧ s.fePulses n = false ∧
      s.laneIdle n = true ∧ s.ldHigh n = false) ∧
    (∀ h : Fin 4, s.pwmLow h = true) ∧ (∀ a : Fin 4, s.stepHigh a = false ∧ s.dirHigh a = false ∧ s.enableHigh a = true) ∧
    (∀ c : Fin 2, s.trigHigh c = false) ∧ s.barMaIdle = true ∧ (∀ i : Fin 2, s.syncHigh i = false) ∧ (∀ a : Fin 4, s.axisState a = 0) ∧
    (∀ h : Fin 4, s.obj (hk 0x490001 h) = 0) ∧ (∀ ch : Fin 32, s.obj (dk 0x580013 ch) = 0) ∧ (∀ a, s.byte a = 0) ∧
    s.obj 0x1C1201 = 0x1600 ∧ s.obj 0x160003 = 0x5F100220 ∧ s.obj 0x5F1008 = 0xFFFF
end

