-- ==== Sys2Proof/Laws/Store.lean ====
section
/-! SUPPORT. Laws of the sparse stores: read after write, writes leave other keys alone, and every write keeps the canonical form. -/

namespace Sys2Proof.Machine

variable {α : Type}

theorem findKey_putKey_same (l : List (Nat × α)) (k : Nat) (x : α) : findKey (putKey l k x) k = some x := by
  induction l with
  | nil => simp [putKey, findKey]
  | cons p t ih =>
    obtain ⟨a, y⟩ := p
    by_cases h1 : k < a
    · simp [putKey, findKey, h1]
    · by_cases h2 : k = a
      · simp [putKey, findKey, h2]
      · simp [putKey, findKey, h1, h2, Ne.symm h2, ih]

theorem findKey_putKey_other (l : List (Nat × α)) {j k : Nat} (x : α) (h : j ≠ k) :
    findKey (putKey l k x) j = findKey l j := by
  induction l with
  | nil => simp [putKey, findKey, h.symm]
  | cons p t ih =>
    obtain ⟨a, y⟩ := p
    by_cases h1 : k < a
    · simp [putKey, findKey, h1, h.symm]
    · by_cases h2 : k = a
      · subst h2; simp [putKey, findKey, h.symm]
      · simp only [putKey, if_neg h1, if_neg h2, findKey, ih]

theorem findKey_dropKey_same (l : List (Nat × α)) (k : Nat) : findKey (dropKey l k) k = none := by
  induction l with
  | nil => simp [dropKey, findKey]
  | cons p t ih =>
    obtain ⟨a, y⟩ := p
    by_cases h : a = k
    · simp [dropKey, h, ih]
    · simp [dropKey, findKey, h, ih]

theorem findKey_dropKey_other (l : List (Nat × α)) {j k : Nat} (h : j ≠ k) :
    findKey (dropKey l k) j = findKey l j := by
  induction l with
  | nil => simp [dropKey]
  | cons p t ih =>
    obtain ⟨a, y⟩ := p
    by_cases h1 : a = k
    · have : a ≠ j := fun h2 => h (h2.symm.trans h1)
      simp [dropKey, h1, findKey, ih, h.symm]
    · simp only [dropKey, if_neg h1, findKey, ih]

/-- A store reads back what was written. -/
@[simp] theorem storeGet_storePut_same [DecidableEq α] (d : Nat → α) (l : List (Nat × α)) (k : Nat) (x : α) :
    storeGet d (storePut d l k x) k = x := by
  by_cases h : x = d k
  · simp [storeGet, storePut, h, findKey_dropKey_same]
  · simp [storeGet, storePut, h, findKey_putKey_same]

/-- A write leaves every other key alone. -/
theorem storeGet_storePut_other [DecidableEq α] (d : Nat → α) (l : List (Nat × α)) {j k : Nat} (x : α) (h : j ≠ k) :
    storeGet d (storePut d l k x) j = storeGet d l j := by
  by_cases hx : x = d k
  · simp [storeGet, storePut, hx, findKey_dropKey_other l h]
  · simp [storeGet, storePut, hx, findKey_putKey_other l x h]

/-- Every key of a list is above `k`. -/
def above (k : Nat) (l : List (Nat × α)) : Prop := ∀ p ∈ l, k < p.1

theorem rising_cons (a : Nat) (y : α) (t : List (Nat × α)) :
    rising ((a, y) :: t) = true ↔ above a t ∧ rising t = true := by
  induction t generalizing a y with
  | nil => simp [rising, above]
  | cons p t ih =>
    obtain ⟨b, z⟩ := p
    have hd : rising ((a, y) :: (b, z) :: t) = (decide (a < b) && rising ((b, z) :: t)) := rfl
    rw [hd, Bool.and_eq_true, decide_eq_true_eq, ih]
    constructor
    · rintro ⟨h1, h2, h3⟩
      refine ⟨?_, h2, h3⟩
      intro p hp
      rcases List.mem_cons.mp hp with rfl | hp
      · exact h1
      · exact Nat.lt_trans h1 (h2 p hp)
    · rintro ⟨h1, h2, h3⟩
      exact ⟨h1 (b, z) (List.mem_cons_self ..), h2, h3⟩

theorem mem_putKey {l : List (Nat × α)} {k : Nat} {x : α} {p : Nat × α} (h : p ∈ putKey l k x) :
    p = (k, x) ∨ p ∈ l := by
  induction l with
  | nil => simpa [putKey] using h
  | cons q t ih =>
    obtain ⟨a, y⟩ := q
    by_cases h1 : k < a
    · simp only [putKey, if_pos h1, List.mem_cons] at h; simpa [List.mem_cons] using h
    · by_cases h2 : k = a
      · simp only [putKey, if_neg h1, if_pos h2, List.mem_cons] at h
        rcases h with h | h
        · exact Or.inl h
        · exact Or.inr (List.mem_cons_of_mem _ h)
      · simp only [putKey, if_neg h1, if_neg h2, List.mem_cons] at h
        rcases h with h | h
        · exact Or.inr (h ▸ List.mem_cons_self ..)
        · rcases ih h with h | h
          · exact Or.inl h
          · exact Or.inr (List.mem_cons_of_mem _ h)

theorem mem_dropKey {l : List (Nat × α)} {k : Nat} {p : Nat × α} (h : p ∈ dropKey l k) : p ∈ l := by
  induction l with
  | nil => simp [dropKey] at h
  | cons q t ih =>
    obtain ⟨a, y⟩ := q
    by_cases h1 : a = k
    · simp only [dropKey, if_pos h1] at h; exact List.mem_cons_of_mem _ (ih h)
    · simp only [dropKey, if_neg h1, List.mem_cons] at h
      rcases h with h | h
      · exact h ▸ List.mem_cons_self ..
      · exact List.mem_cons_of_mem _ (ih h)

theorem rising_putKey {l : List (Nat × α)} (h : rising l = true) (k : Nat) (x : α) : rising (putKey l k x) = true := by
  induction l with
  | nil => rfl
  | cons q t ih =>
    obtain ⟨a, y⟩ := q
    obtain ⟨ha, ht⟩ := (rising_cons a y t).mp h
    by_cases h1 : k < a
    · simp only [putKey, if_pos h1]
      refine (rising_cons k x _).mpr ⟨fun p hp => ?_, h⟩
      rcases List.mem_cons.mp hp with rfl | hp
      · exact h1
      · exact Nat.lt_trans h1 (ha p hp)
    · by_cases h2 : k = a
      · subst h2
        simp only [putKey, if_neg h1]
        exact (rising_cons k x t).mpr ⟨ha, ht⟩
      · simp only [putKey, if_neg h1, if_neg h2]
        refine (rising_cons a y _).mpr ⟨fun p hp => ?_, ih ht⟩
        rcases mem_putKey hp with rfl | hp
        · omega
        · exact ha p hp

theorem rising_dropKey {l : List (Nat × α)} (h : rising l = true) (k : Nat) : rising (dropKey l k) = true := by
  induction l with
  | nil => rfl
  | cons q t ih =>
    obtain ⟨a, y⟩ := q
    obtain ⟨ha, ht⟩ := (rising_cons a y t).mp h
    by_cases h1 : a = k
    · simp only [dropKey, if_pos h1]; exact ih ht
    · simp only [dropKey, if_neg h1]
      exact (rising_cons a y _).mpr ⟨fun p hp => ha p (mem_dropKey hp), ih ht⟩

/-- The key written is gone from a store whose entry was dropped. -/
theorem not_mem_dropKey (l : List (Nat × α)) (k : Nat) (p : Nat × α) (h : p ∈ dropKey l k) : p.1 ≠ k := by
  induction l with
  | nil => simp [dropKey] at h
  | cons q t ih =>
    obtain ⟨a, y⟩ := q
    by_cases h1 : a = k
    · simp only [dropKey, if_pos h1] at h; exact ih h
    · simp only [dropKey, if_neg h1, List.mem_cons] at h
      rcases h with h | h
      · exact h ▸ h1
      · exact ih h

/-- Every write keeps the canonical form of a store. -/
theorem storeWf_storePut [DecidableEq α] (d : Nat → α) {l : List (Nat × α)} (h : storeWf d l = true) (k : Nat) (x : α) :
    storeWf d (storePut d l k x) = true := by
  simp only [storeWf, Bool.and_eq_true, List.all_eq_true, decide_eq_true_eq] at h ⊢
  by_cases hx : x = d k
  · simp only [storePut, if_pos hx]
    exact ⟨rising_dropKey h.1 k, fun p hp => h.2 p (mem_dropKey hp)⟩
  · simp only [storePut, if_neg hx]
    refine ⟨rising_putKey h.1 k x, fun p hp => ?_⟩
    rcases mem_putKey hp with rfl | hp
    · exact hx
    · exact h.2 p hp

end Sys2Proof.Machine
end

