-- ==== Sys2Proof/Laws/State.lean ====
section
/-! SUPPORT. One lemma for each field that an update leaves alone, and what an update reads back as. -/

namespace Sys2Proof.Machine

@[simp] theorem State.setObj_obj_same (s : State) (k : Key) (v : Nat) : (s.setObj k v).obj k = v :=
  storeGet_storePut_same ..

theorem State.setObj_obj_other (s : State) {j k : Key} (v : Nat) (h : j ≠ k) : (s.setObj k v).obj j = s.obj j :=
  storeGet_storePut_other _ _ _ h

theorem State.setBit_obj_other (s : State) {j k : Key} (i : Nat) (b : Bool) (h : j ≠ k) : (s.setBit k i b).obj j = s.obj j :=
  State.setObj_obj_other _ _ h

theorem State.event_obj_other (s : State) {j k : Key} (i : Nat) (h : j ≠ k) : (s.event k i).obj j = s.obj j :=
  State.setObj_obj_other _ _ h

theorem State.bumpN_obj_other (s : State) {j k : Key} (n : Nat) (h : j ≠ k) : (s.bumpN k n).obj j = s.obj j :=
  State.setObj_obj_other s (min (2 ^ 32 - 1) (s.obj k + n)) h

theorem State.bump_obj_other (s : State) {j k : Key} (h : j ≠ k) : (s.bump k).obj j = s.obj j :=
  State.bumpN_obj_other s 1 h

/-- A counter rises and saturates (R15). -/
@[simp] theorem State.bumpN_obj_same (s : State) (k : Key) (n : Nat) :
    (s.bumpN k n).obj k = min (2 ^ 32 - 1) (s.obj k + n) := State.setObj_obj_same ..

@[simp] theorem State.bump_obj_same (s : State) (k : Key) : (s.bump k).obj k = min (2 ^ 32 - 1) (s.obj k + 1) :=
  State.bumpN_obj_same ..

@[simp] theorem State.setDomain_domain_same (s : State) (k : Key) (d : Bytes) : (s.setDomain k d).domain k = d :=
  storeGet_storePut_same ..

theorem State.setDomain_domain_other (s : State) {j k : Key} (d : Bytes) (h : j ≠ k) :
    (s.setDomain k d).domain j = s.domain j := storeGet_storePut_other _ _ _ h

@[simp] theorem State.setByte_byte_same (s : State) (a : Nat) (b : Byte) : (s.setByte a b).byte a = b :=
  storeGet_storePut_same ..

theorem State.setByte_byte_other (s : State) {a a' : Nat} (b : Byte) (h : a' ≠ a) : (s.setByte a b).byte a' = s.byte a' :=
  storeGet_storePut_other _ _ _ h

@[simp] theorem State.hold_heldAt_same (s : State) (a v : Nat) : (s.hold a v).heldAt a = v := storeGet_storePut_same ..

theorem State.hold_heldAt_other (s : State) {a a' : Nat} (v : Nat) (h : a' ≠ a) : (s.hold a v).heldAt a' = s.heldAt a' :=
  storeGet_storePut_other _ _ _ h

/-- Writing bytes leaves every byte outside them alone. -/
theorem State.putBytes_byte_outside (d : Bytes) (s : State) (a : Nat) {x : Nat} (h : x < a ∨ a + d.length ≤ x) :
    (s.putBytes a d).byte x = s.byte x := by
  induction d generalizing s a with
  | nil => rfl
  | cons b t ih =>
    simp only [List.length_cons] at h
    rw [State.putBytes, ih _ _ (by omega), State.setByte_byte_other _ _ (by omega)]

/-- Whether words are poisoned does not touch memory. -/
@[simp] theorem State.unpoison_mem (s : State) (a n : Nat) : (s.unpoison a n).mem = s.mem := rfl

@[simp] theorem State.unpoison_byte (s : State) (a n x : Nat) : (s.unpoison a n).byte x = s.byte x := rfl

@[simp] theorem State.unpoison_bytes (s : State) (a n x k : Nat) : (s.unpoison a n).bytes x k = s.bytes x k := by
  induction k generalizing x with
  | zero => rfl
  | succ k ih => simp [State.bytes, ih]

theorem State.setBytes_byte_outside (d : Bytes) (s : State) (a : Nat) {x : Nat} (h : x < a ∨ a + d.length ≤ x) :
    (s.setBytes a d).byte x = s.byte x := State.putBytes_byte_outside d s a h

theorem State.bytes_putBytes (d : Bytes) (s : State) (a : Nat) : (s.putBytes a d).bytes a d.length = d := by
  induction d generalizing s a with
  | nil => rfl
  | cons b t ih =>
    simp only [State.putBytes, List.length_cons, State.bytes, ih]
    rw [State.putBytes_byte_outside t _ _ (by omega), State.setByte_byte_same]

/-- Bytes read back as they were written. -/
theorem State.bytes_setBytes (d : Bytes) (s : State) (a : Nat) : (s.setBytes a d).bytes a d.length = d := by
  rw [State.setBytes, State.unpoison_bytes, State.bytes_putBytes]

/-- Every write of a byte keeps memory in its canonical form. -/
theorem State.setByte_memWf {s : State} (h : memWf s.mem = true) (a : Nat) (b : Byte) :
    memWf (s.setByte a b).mem = true := storeWf_storePut _ h _ _

/-- Every write of bytes keeps memory in its canonical form. -/
theorem State.putBytes_memWf (d : Bytes) {s : State} (h : memWf s.mem = true) (a : Nat) :
    memWf (s.putBytes a d).mem = true := by
  induction d generalizing s a with
  | nil => exact h
  | cons b t ih => exact ih (State.setByte_memWf h a b) _

theorem State.setBytes_memWf (d : Bytes) {s : State} (h : memWf s.mem = true) (a : Nat) :
    memWf (s.setBytes a d).mem = true := State.putBytes_memWf d h a

/-- Every write of an object keeps the object store in its canonical form. -/
theorem State.setObj_odWf {s : State} (h : storeWf defaultObj s.od = true) (k : Key) (v : Nat) :
    storeWf defaultObj (s.setObj k v).od = true := storeWf_storePut _ h _ _

/-! What `setObj` leaves alone. -/
@[simp] theorem State.setObj_variant (s : State) (k : Key) (v : Nat) : (s.setObj k v).variant = s.variant := (rfl)
@[simp] theorem State.setObj_clk (s : State) (k : Key) (v : Nat) : (s.setObj k v).clk = s.clk := (rfl)
@[simp] theorem State.setObj_sysTime (s : State) (k : Key) (v : Nat) : (s.setObj k v).sysTime = s.sysTime := (rfl)
@[simp] theorem State.setObj_dom (s : State) (k : Key) (v : Nat) : (s.setObj k v).dom = s.dom := (rfl)
@[simp] theorem State.setObj_mem (s : State) (k : Key) (v : Nat) : (s.setObj k v).mem = s.mem := (rfl)
@[simp] theorem State.setObj_held (s : State) (k : Key) (v : Nat) : (s.setObj k v).held = s.held := (rfl)
@[simp] theorem State.setObj_clocks (s : State) (k : Key) (v : Nat) : (s.setObj k v).clocks = s.clocks := (rfl)
@[simp] theorem State.setObj_vbat (s : State) (k : Key) (v : Nat) : (s.setObj k v).vbat = s.vbat := (rfl)
@[simp] theorem State.setObj_mram (s : State) (k : Key) (v : Nat) : (s.setObj k v).mram = s.mram := (rfl)
@[simp] theorem State.setObj_slave (s : State) (k : Key) (v : Nat) : (s.setObj k v).slave = s.slave := (rfl)
@[simp] theorem State.setObj_engine (s : State) (k : Key) (v : Nat) : (s.setObj k v).engine = s.engine := (rfl)
@[simp] theorem State.setObj_health (s : State) (k : Key) (v : Nat) : (s.setObj k v).health = s.health := (rfl)
@[simp] theorem State.setObj_position (s : State) (k : Key) (v : Nat) : (s.setObj k v).position = s.position := (rfl)
@[simp] theorem State.setObj_sched (s : State) (k : Key) (v : Nat) : (s.setObj k v).sched = s.sched := (rfl)
@[simp] theorem State.setObj_port (s : State) (k : Key) (v : Nat) : (s.setObj k v).port = s.port := (rfl)
@[simp] theorem State.setObj_heater (s : State) (k : Key) (v : Nat) : (s.setObj k v).heater = s.heater := (rfl)
@[simp] theorem State.setObj_render (s : State) (k : Key) (v : Nat) : (s.setObj k v).render = s.render := (rfl)
@[simp] theorem State.setObj_jigsaw (s : State) (k : Key) (v : Nat) : (s.setObj k v).jigsaw = s.jigsaw := (rfl)
@[simp] theorem State.setObj_ingest (s : State) (k : Key) (v : Nat) : (s.setObj k v).ingest = s.ingest := (rfl)
@[simp] theorem State.setObj_camera (s : State) (k : Key) (v : Nat) : (s.setObj k v).camera = s.camera := (rfl)
@[simp] theorem State.setObj_kaleido (s : State) (k : Key) (v : Nat) : (s.setObj k v).kaleido = s.kaleido := (rfl)
@[simp] theorem State.setObj_analyser (s : State) (k : Key) (v : Nat) : (s.setObj k v).analyser = s.analyser := (rfl)
@[simp] theorem State.setObj_axis (s : State) (k : Key) (v : Nat) : (s.setObj k v).axis = s.axis := (rfl)
@[simp] theorem State.setObj_stack (s : State) (k : Key) (v : Nat) : (s.setObj k v).stack = s.stack := (rfl)
@[simp] theorem State.setObj_sram (s : State) (k : Key) (v : Nat) : (s.setObj k v).sram = s.sram := (rfl)
@[simp] theorem State.setObj_dma (s : State) (k : Key) (v : Nat) : (s.setObj k v).dma = s.dma := (rfl)
@[simp] theorem State.setObj_pend (s : State) (k : Key) (v : Nat) : (s.setObj k v).pend = s.pend := (rfl)
@[simp] theorem State.setObj_pending (s : State) (k : Key) (v : Nat) : (s.setObj k v).pending = s.pending := (rfl)
@[simp] theorem State.setObj_draws (s : State) (k : Key) (v : Nat) : (s.setObj k v).draws = s.draws := (rfl)
@[simp] theorem State.setObj_domain (s : State) (k : Key) (v : Nat) (j : Key) : (s.setObj k v).domain j = s.domain j := (rfl)
@[simp] theorem State.setObj_byte (s : State) (k : Key) (v : Nat) (x : Nat) : (s.setObj k v).byte x = s.byte x := (rfl)

/-! What `setBit` leaves alone. -/
@[simp] theorem State.setBit_variant (s : State) (k : Key) (i : Nat) (b : Bool) : (s.setBit k i b).variant = s.variant := (rfl)
@[simp] theorem State.setBit_clk (s : State) (k : Key) (i : Nat) (b : Bool) : (s.setBit k i b).clk = s.clk := (rfl)
@[simp] theorem State.setBit_sysTime (s : State) (k : Key) (i : Nat) (b : Bool) : (s.setBit k i b).sysTime = s.sysTime := (rfl)
@[simp] theorem State.setBit_dom (s : State) (k : Key) (i : Nat) (b : Bool) : (s.setBit k i b).dom = s.dom := (rfl)
@[simp] theorem State.setBit_mem (s : State) (k : Key) (i : Nat) (b : Bool) : (s.setBit k i b).mem = s.mem := (rfl)
@[simp] theorem State.setBit_held (s : State) (k : Key) (i : Nat) (b : Bool) : (s.setBit k i b).held = s.held := (rfl)
@[simp] theorem State.setBit_clocks (s : State) (k : Key) (i : Nat) (b : Bool) : (s.setBit k i b).clocks = s.clocks := (rfl)
@[simp] theorem State.setBit_vbat (s : State) (k : Key) (i : Nat) (b : Bool) : (s.setBit k i b).vbat = s.vbat := (rfl)
@[simp] theorem State.setBit_mram (s : State) (k : Key) (i : Nat) (b : Bool) : (s.setBit k i b).mram = s.mram := (rfl)
@[simp] theorem State.setBit_slave (s : State) (k : Key) (i : Nat) (b : Bool) : (s.setBit k i b).slave = s.slave := (rfl)
@[simp] theorem State.setBit_engine (s : State) (k : Key) (i : Nat) (b : Bool) : (s.setBit k i b).engine = s.engine := (rfl)
@[simp] theorem State.setBit_health (s : State) (k : Key) (i : Nat) (b : Bool) : (s.setBit k i b).health = s.health := (rfl)
@[simp] theorem State.setBit_position (s : State) (k : Key) (i : Nat) (b : Bool) : (s.setBit k i b).position = s.position := (rfl)
@[simp] theorem State.setBit_sched (s : State) (k : Key) (i : Nat) (b : Bool) : (s.setBit k i b).sched = s.sched := (rfl)
@[simp] theorem State.setBit_port (s : State) (k : Key) (i : Nat) (b : Bool) : (s.setBit k i b).port = s.port := (rfl)
@[simp] theorem State.setBit_heater (s : State) (k : Key) (i : Nat) (b : Bool) : (s.setBit k i b).heater = s.heater := (rfl)
@[simp] theorem State.setBit_render (s : State) (k : Key) (i : Nat) (b : Bool) : (s.setBit k i b).render = s.render := (rfl)
@[simp] theorem State.setBit_jigsaw (s : State) (k : Key) (i : Nat) (b : Bool) : (s.setBit k i b).jigsaw = s.jigsaw := (rfl)
@[simp] theorem State.setBit_ingest (s : State) (k : Key) (i : Nat) (b : Bool) : (s.setBit k i b).ingest = s.ingest := (rfl)
@[simp] theorem State.setBit_camera (s : State) (k : Key) (i : Nat) (b : Bool) : (s.setBit k i b).camera = s.camera := (rfl)
@[simp] theorem State.setBit_kaleido (s : State) (k : Key) (i : Nat) (b : Bool) : (s.setBit k i b).kaleido = s.kaleido := (rfl)
@[simp] theorem State.setBit_analyser (s : State) (k : Key) (i : Nat) (b : Bool) : (s.setBit k i b).analyser = s.analyser := (rfl)
@[simp] theorem State.setBit_axis (s : State) (k : Key) (i : Nat) (b : Bool) : (s.setBit k i b).axis = s.axis := (rfl)
@[simp] theorem State.setBit_stack (s : State) (k : Key) (i : Nat) (b : Bool) : (s.setBit k i b).stack = s.stack := (rfl)
@[simp] theorem State.setBit_sram (s : State) (k : Key) (i : Nat) (b : Bool) : (s.setBit k i b).sram = s.sram := (rfl)
@[simp] theorem State.setBit_dma (s : State) (k : Key) (i : Nat) (b : Bool) : (s.setBit k i b).dma = s.dma := (rfl)
@[simp] theorem State.setBit_pend (s : State) (k : Key) (i : Nat) (b : Bool) : (s.setBit k i b).pend = s.pend := (rfl)
@[simp] theorem State.setBit_pending (s : State) (k : Key) (i : Nat) (b : Bool) : (s.setBit k i b).pending = s.pending := (rfl)
@[simp] theorem State.setBit_draws (s : State) (k : Key) (i : Nat) (b : Bool) : (s.setBit k i b).draws = s.draws := (rfl)
@[simp] theorem State.setBit_domain (s : State) (k : Key) (i : Nat) (b : Bool) (j : Key) : (s.setBit k i b).domain j = s.domain j := (rfl)
@[simp] theorem State.setBit_byte (s : State) (k : Key) (i : Nat) (b : Bool) (x : Nat) : (s.setBit k i b).byte x = s.byte x := (rfl)

/-! What `setDomain` leaves alone. -/
@[simp] theorem State.setDomain_variant (s : State) (k : Key) (d : Bytes) : (s.setDomain k d).variant = s.variant := (rfl)
@[simp] theorem State.setDomain_clk (s : State) (k : Key) (d : Bytes) : (s.setDomain k d).clk = s.clk := (rfl)
@[simp] theorem State.setDomain_sysTime (s : State) (k : Key) (d : Bytes) : (s.setDomain k d).sysTime = s.sysTime := (rfl)
@[simp] theorem State.setDomain_od (s : State) (k : Key) (d : Bytes) : (s.setDomain k d).od = s.od := (rfl)
@[simp] theorem State.setDomain_mem (s : State) (k : Key) (d : Bytes) : (s.setDomain k d).mem = s.mem := (rfl)
@[simp] theorem State.setDomain_held (s : State) (k : Key) (d : Bytes) : (s.setDomain k d).held = s.held := (rfl)
@[simp] theorem State.setDomain_clocks (s : State) (k : Key) (d : Bytes) : (s.setDomain k d).clocks = s.clocks := (rfl)
@[simp] theorem State.setDomain_vbat (s : State) (k : Key) (d : Bytes) : (s.setDomain k d).vbat = s.vbat := (rfl)
@[simp] theorem State.setDomain_mram (s : State) (k : Key) (d : Bytes) : (s.setDomain k d).mram = s.mram := (rfl)
@[simp] theorem State.setDomain_slave (s : State) (k : Key) (d : Bytes) : (s.setDomain k d).slave = s.slave := (rfl)
@[simp] theorem State.setDomain_engine (s : State) (k : Key) (d : Bytes) : (s.setDomain k d).engine = s.engine := (rfl)
@[simp] theorem State.setDomain_health (s : State) (k : Key) (d : Bytes) : (s.setDomain k d).health = s.health := (rfl)
@[simp] theorem State.setDomain_position (s : State) (k : Key) (d : Bytes) : (s.setDomain k d).position = s.position := (rfl)
@[simp] theorem State.setDomain_sched (s : State) (k : Key) (d : Bytes) : (s.setDomain k d).sched = s.sched := (rfl)
@[simp] theorem State.setDomain_port (s : State) (k : Key) (d : Bytes) : (s.setDomain k d).port = s.port := (rfl)
@[simp] theorem State.setDomain_heater (s : State) (k : Key) (d : Bytes) : (s.setDomain k d).heater = s.heater := (rfl)
@[simp] theorem State.setDomain_render (s : State) (k : Key) (d : Bytes) : (s.setDomain k d).render = s.render := (rfl)
@[simp] theorem State.setDomain_jigsaw (s : State) (k : Key) (d : Bytes) : (s.setDomain k d).jigsaw = s.jigsaw := (rfl)
@[simp] theorem State.setDomain_ingest (s : State) (k : Key) (d : Bytes) : (s.setDomain k d).ingest = s.ingest := (rfl)
@[simp] theorem State.setDomain_camera (s : State) (k : Key) (d : Bytes) : (s.setDomain k d).camera = s.camera := (rfl)
@[simp] theorem State.setDomain_kaleido (s : State) (k : Key) (d : Bytes) : (s.setDomain k d).kaleido = s.kaleido := (rfl)
@[simp] theorem State.setDomain_analyser (s : State) (k : Key) (d : Bytes) : (s.setDomain k d).analyser = s.analyser := (rfl)
@[simp] theorem State.setDomain_axis (s : State) (k : Key) (d : Bytes) : (s.setDomain k d).axis = s.axis := (rfl)
@[simp] theorem State.setDomain_stack (s : State) (k : Key) (d : Bytes) : (s.setDomain k d).stack = s.stack := (rfl)
@[simp] theorem State.setDomain_sram (s : State) (k : Key) (d : Bytes) : (s.setDomain k d).sram = s.sram := (rfl)
@[simp] theorem State.setDomain_dma (s : State) (k : Key) (d : Bytes) : (s.setDomain k d).dma = s.dma := (rfl)
@[simp] theorem State.setDomain_pend (s : State) (k : Key) (d : Bytes) : (s.setDomain k d).pend = s.pend := (rfl)
@[simp] theorem State.setDomain_pending (s : State) (k : Key) (d : Bytes) : (s.setDomain k d).pending = s.pending := (rfl)
@[simp] theorem State.setDomain_draws (s : State) (k : Key) (d : Bytes) : (s.setDomain k d).draws = s.draws := (rfl)
@[simp] theorem State.setDomain_obj (s : State) (k : Key) (d : Bytes) (j : Key) : (s.setDomain k d).obj j = s.obj j := (rfl)
@[simp] theorem State.setDomain_bit (s : State) (k : Key) (d : Bytes) (j : Key) (m : Nat) : (s.setDomain k d).bit j m = s.bit j m := (rfl)
@[simp] theorem State.setDomain_byte (s : State) (k : Key) (d : Bytes) (x : Nat) : (s.setDomain k d).byte x = s.byte x := (rfl)

/-! What `setByte` leaves alone. -/
@[simp] theorem State.setByte_variant (s : State) (a : Nat) (b : Byte) : (s.setByte a b).variant = s.variant := (rfl)
@[simp] theorem State.setByte_clk (s : State) (a : Nat) (b : Byte) : (s.setByte a b).clk = s.clk := (rfl)
@[simp] theorem State.setByte_sysTime (s : State) (a : Nat) (b : Byte) : (s.setByte a b).sysTime = s.sysTime := (rfl)
@[simp] theorem State.setByte_od (s : State) (a : Nat) (b : Byte) : (s.setByte a b).od = s.od := (rfl)
@[simp] theorem State.setByte_dom (s : State) (a : Nat) (b : Byte) : (s.setByte a b).dom = s.dom := (rfl)
@[simp] theorem State.setByte_held (s : State) (a : Nat) (b : Byte) : (s.setByte a b).held = s.held := (rfl)
@[simp] theorem State.setByte_clocks (s : State) (a : Nat) (b : Byte) : (s.setByte a b).clocks = s.clocks := (rfl)
@[simp] theorem State.setByte_vbat (s : State) (a : Nat) (b : Byte) : (s.setByte a b).vbat = s.vbat := (rfl)
@[simp] theorem State.setByte_mram (s : State) (a : Nat) (b : Byte) : (s.setByte a b).mram = s.mram := (rfl)
@[simp] theorem State.setByte_slave (s : State) (a : Nat) (b : Byte) : (s.setByte a b).slave = s.slave := (rfl)
@[simp] theorem State.setByte_engine (s : State) (a : Nat) (b : Byte) : (s.setByte a b).engine = s.engine := (rfl)
@[simp] theorem State.setByte_health (s : State) (a : Nat) (b : Byte) : (s.setByte a b).health = s.health := (rfl)
@[simp] theorem State.setByte_position (s : State) (a : Nat) (b : Byte) : (s.setByte a b).position = s.position := (rfl)
@[simp] theorem State.setByte_sched (s : State) (a : Nat) (b : Byte) : (s.setByte a b).sched = s.sched := (rfl)
@[simp] theorem State.setByte_port (s : State) (a : Nat) (b : Byte) : (s.setByte a b).port = s.port := (rfl)
@[simp] theorem State.setByte_heater (s : State) (a : Nat) (b : Byte) : (s.setByte a b).heater = s.heater := (rfl)
@[simp] theorem State.setByte_render (s : State) (a : Nat) (b : Byte) : (s.setByte a b).render = s.render := (rfl)
@[simp] theorem State.setByte_jigsaw (s : State) (a : Nat) (b : Byte) : (s.setByte a b).jigsaw = s.jigsaw := (rfl)
@[simp] theorem State.setByte_ingest (s : State) (a : Nat) (b : Byte) : (s.setByte a b).ingest = s.ingest := (rfl)
@[simp] theorem State.setByte_camera (s : State) (a : Nat) (b : Byte) : (s.setByte a b).camera = s.camera := (rfl)
@[simp] theorem State.setByte_kaleido (s : State) (a : Nat) (b : Byte) : (s.setByte a b).kaleido = s.kaleido := (rfl)
@[simp] theorem State.setByte_analyser (s : State) (a : Nat) (b : Byte) : (s.setByte a b).analyser = s.analyser := (rfl)
@[simp] theorem State.setByte_axis (s : State) (a : Nat) (b : Byte) : (s.setByte a b).axis = s.axis := (rfl)
@[simp] theorem State.setByte_stack (s : State) (a : Nat) (b : Byte) : (s.setByte a b).stack = s.stack := (rfl)
@[simp] theorem State.setByte_sram (s : State) (a : Nat) (b : Byte) : (s.setByte a b).sram = s.sram := (rfl)
@[simp] theorem State.setByte_dma (s : State) (a : Nat) (b : Byte) : (s.setByte a b).dma = s.dma := (rfl)
@[simp] theorem State.setByte_pend (s : State) (a : Nat) (b : Byte) : (s.setByte a b).pend = s.pend := (rfl)
@[simp] theorem State.setByte_pending (s : State) (a : Nat) (b : Byte) : (s.setByte a b).pending = s.pending := (rfl)
@[simp] theorem State.setByte_draws (s : State) (a : Nat) (b : Byte) : (s.setByte a b).draws = s.draws := (rfl)
@[simp] theorem State.setByte_obj (s : State) (a : Nat) (b : Byte) (j : Key) : (s.setByte a b).obj j = s.obj j := (rfl)
@[simp] theorem State.setByte_bit (s : State) (a : Nat) (b : Byte) (j : Key) (m : Nat) : (s.setByte a b).bit j m = s.bit j m := (rfl)
@[simp] theorem State.setByte_domain (s : State) (a : Nat) (b : Byte) (j : Key) : (s.setByte a b).domain j = s.domain j := (rfl)

/-! What `hold` leaves alone. -/
@[simp] theorem State.hold_variant (s : State) (a v : Nat) : (s.hold a v).variant = s.variant := (rfl)
@[simp] theorem State.hold_clk (s : State) (a v : Nat) : (s.hold a v).clk = s.clk := (rfl)
@[simp] theorem State.hold_sysTime (s : State) (a v : Nat) : (s.hold a v).sysTime = s.sysTime := (rfl)
@[simp] theorem State.hold_od (s : State) (a v : Nat) : (s.hold a v).od = s.od := (rfl)
@[simp] theorem State.hold_dom (s : State) (a v : Nat) : (s.hold a v).dom = s.dom := (rfl)
@[simp] theorem State.hold_mem (s : State) (a v : Nat) : (s.hold a v).mem = s.mem := (rfl)
@[simp] theorem State.hold_clocks (s : State) (a v : Nat) : (s.hold a v).clocks = s.clocks := (rfl)
@[simp] theorem State.hold_vbat (s : State) (a v : Nat) : (s.hold a v).vbat = s.vbat := (rfl)
@[simp] theorem State.hold_mram (s : State) (a v : Nat) : (s.hold a v).mram = s.mram := (rfl)
@[simp] theorem State.hold_slave (s : State) (a v : Nat) : (s.hold a v).slave = s.slave := (rfl)
@[simp] theorem State.hold_engine (s : State) (a v : Nat) : (s.hold a v).engine = s.engine := (rfl)
@[simp] theorem State.hold_health (s : State) (a v : Nat) : (s.hold a v).health = s.health := (rfl)
@[simp] theorem State.hold_position (s : State) (a v : Nat) : (s.hold a v).position = s.position := (rfl)
@[simp] theorem State.hold_sched (s : State) (a v : Nat) : (s.hold a v).sched = s.sched := (rfl)
@[simp] theorem State.hold_port (s : State) (a v : Nat) : (s.hold a v).port = s.port := (rfl)
@[simp] theorem State.hold_heater (s : State) (a v : Nat) : (s.hold a v).heater = s.heater := (rfl)
@[simp] theorem State.hold_render (s : State) (a v : Nat) : (s.hold a v).render = s.render := (rfl)
@[simp] theorem State.hold_jigsaw (s : State) (a v : Nat) : (s.hold a v).jigsaw = s.jigsaw := (rfl)
@[simp] theorem State.hold_ingest (s : State) (a v : Nat) : (s.hold a v).ingest = s.ingest := (rfl)
@[simp] theorem State.hold_camera (s : State) (a v : Nat) : (s.hold a v).camera = s.camera := (rfl)
@[simp] theorem State.hold_kaleido (s : State) (a v : Nat) : (s.hold a v).kaleido = s.kaleido := (rfl)
@[simp] theorem State.hold_analyser (s : State) (a v : Nat) : (s.hold a v).analyser = s.analyser := (rfl)
@[simp] theorem State.hold_axis (s : State) (a v : Nat) : (s.hold a v).axis = s.axis := (rfl)
@[simp] theorem State.hold_stack (s : State) (a v : Nat) : (s.hold a v).stack = s.stack := (rfl)
@[simp] theorem State.hold_sram (s : State) (a v : Nat) : (s.hold a v).sram = s.sram := (rfl)
@[simp] theorem State.hold_dma (s : State) (a v : Nat) : (s.hold a v).dma = s.dma := (rfl)
@[simp] theorem State.hold_pend (s : State) (a v : Nat) : (s.hold a v).pend = s.pend := (rfl)
@[simp] theorem State.hold_pending (s : State) (a v : Nat) : (s.hold a v).pending = s.pending := (rfl)
@[simp] theorem State.hold_draws (s : State) (a v : Nat) : (s.hold a v).draws = s.draws := (rfl)
@[simp] theorem State.hold_obj (s : State) (a v : Nat) (j : Key) : (s.hold a v).obj j = s.obj j := (rfl)
@[simp] theorem State.hold_bit (s : State) (a v : Nat) (j : Key) (m : Nat) : (s.hold a v).bit j m = s.bit j m := (rfl)
@[simp] theorem State.hold_domain (s : State) (a v : Nat) (j : Key) : (s.hold a v).domain j = s.domain j := (rfl)
@[simp] theorem State.hold_byte (s : State) (a v : Nat) (x : Nat) : (s.hold a v).byte x = s.byte x := (rfl)

/-! What `answer` leaves alone. -/
@[simp] theorem State.answer_variant (s : State) (r : Resp) : (s.answer r).variant = s.variant := (rfl)
@[simp] theorem State.answer_clk (s : State) (r : Resp) : (s.answer r).clk = s.clk := (rfl)
@[simp] theorem State.answer_sysTime (s : State) (r : Resp) : (s.answer r).sysTime = s.sysTime := (rfl)
@[simp] theorem State.answer_od (s : State) (r : Resp) : (s.answer r).od = s.od := (rfl)
@[simp] theorem State.answer_dom (s : State) (r : Resp) : (s.answer r).dom = s.dom := (rfl)
@[simp] theorem State.answer_mem (s : State) (r : Resp) : (s.answer r).mem = s.mem := (rfl)
@[simp] theorem State.answer_held (s : State) (r : Resp) : (s.answer r).held = s.held := (rfl)
@[simp] theorem State.answer_clocks (s : State) (r : Resp) : (s.answer r).clocks = s.clocks := (rfl)
@[simp] theorem State.answer_vbat (s : State) (r : Resp) : (s.answer r).vbat = s.vbat := (rfl)
@[simp] theorem State.answer_mram (s : State) (r : Resp) : (s.answer r).mram = s.mram := (rfl)
@[simp] theorem State.answer_engine (s : State) (r : Resp) : (s.answer r).engine = s.engine := (rfl)
@[simp] theorem State.answer_health (s : State) (r : Resp) : (s.answer r).health = s.health := (rfl)
@[simp] theorem State.answer_position (s : State) (r : Resp) : (s.answer r).position = s.position := (rfl)
@[simp] theorem State.answer_sched (s : State) (r : Resp) : (s.answer r).sched = s.sched := (rfl)
@[simp] theorem State.answer_port (s : State) (r : Resp) : (s.answer r).port = s.port := (rfl)
@[simp] theorem State.answer_heater (s : State) (r : Resp) : (s.answer r).heater = s.heater := (rfl)
@[simp] theorem State.answer_render (s : State) (r : Resp) : (s.answer r).render = s.render := (rfl)
@[simp] theorem State.answer_jigsaw (s : State) (r : Resp) : (s.answer r).jigsaw = s.jigsaw := (rfl)
@[simp] theorem State.answer_ingest (s : State) (r : Resp) : (s.answer r).ingest = s.ingest := (rfl)
@[simp] theorem State.answer_camera (s : State) (r : Resp) : (s.answer r).camera = s.camera := (rfl)
@[simp] theorem State.answer_kaleido (s : State) (r : Resp) : (s.answer r).kaleido = s.kaleido := (rfl)
@[simp] theorem State.answer_analyser (s : State) (r : Resp) : (s.answer r).analyser = s.analyser := (rfl)
@[simp] theorem State.answer_axis (s : State) (r : Resp) : (s.answer r).axis = s.axis := (rfl)
@[simp] theorem State.answer_stack (s : State) (r : Resp) : (s.answer r).stack = s.stack := (rfl)
@[simp] theorem State.answer_sram (s : State) (r : Resp) : (s.answer r).sram = s.sram := (rfl)
@[simp] theorem State.answer_dma (s : State) (r : Resp) : (s.answer r).dma = s.dma := (rfl)
@[simp] theorem State.answer_pend (s : State) (r : Resp) : (s.answer r).pend = s.pend := (rfl)
@[simp] theorem State.answer_pending (s : State) (r : Resp) : (s.answer r).pending = s.pending := (rfl)
@[simp] theorem State.answer_draws (s : State) (r : Resp) : (s.answer r).draws = s.draws := (rfl)
@[simp] theorem State.answer_obj (s : State) (r : Resp) (j : Key) : (s.answer r).obj j = s.obj j := (rfl)
@[simp] theorem State.answer_bit (s : State) (r : Resp) (j : Key) (m : Nat) : (s.answer r).bit j m = s.bit j m := (rfl)
@[simp] theorem State.answer_domain (s : State) (r : Resp) (j : Key) : (s.answer r).domain j = s.domain j := (rfl)
@[simp] theorem State.answer_byte (s : State) (r : Resp) (x : Nat) : (s.answer r).byte x = s.byte x := (rfl)

/-! What `bumpN` leaves alone. -/
@[simp] theorem State.bumpN_variant (s : State) (k : Key) (n : Nat) : (s.bumpN k n).variant = s.variant := (rfl)
@[simp] theorem State.bumpN_clk (s : State) (k : Key) (n : Nat) : (s.bumpN k n).clk = s.clk := (rfl)
@[simp] theorem State.bumpN_sysTime (s : State) (k : Key) (n : Nat) : (s.bumpN k n).sysTime = s.sysTime := (rfl)
@[simp] theorem State.bumpN_dom (s : State) (k : Key) (n : Nat) : (s.bumpN k n).dom = s.dom := (rfl)
@[simp] theorem State.bumpN_mem (s : State) (k : Key) (n : Nat) : (s.bumpN k n).mem = s.mem := (rfl)
@[simp] theorem State.bumpN_held (s : State) (k : Key) (n : Nat) : (s.bumpN k n).held = s.held := (rfl)
@[simp] theorem State.bumpN_clocks (s : State) (k : Key) (n : Nat) : (s.bumpN k n).clocks = s.clocks := (rfl)
@[simp] theorem State.bumpN_vbat (s : State) (k : Key) (n : Nat) : (s.bumpN k n).vbat = s.vbat := (rfl)
@[simp] theorem State.bumpN_mram (s : State) (k : Key) (n : Nat) : (s.bumpN k n).mram = s.mram := (rfl)
@[simp] theorem State.bumpN_slave (s : State) (k : Key) (n : Nat) : (s.bumpN k n).slave = s.slave := (rfl)
@[simp] theorem State.bumpN_engine (s : State) (k : Key) (n : Nat) : (s.bumpN k n).engine = s.engine := (rfl)
@[simp] theorem State.bumpN_position (s : State) (k : Key) (n : Nat) : (s.bumpN k n).position = s.position := (rfl)
@[simp] theorem State.bumpN_sched (s : State) (k : Key) (n : Nat) : (s.bumpN k n).sched = s.sched := (rfl)
@[simp] theorem State.bumpN_port (s : State) (k : Key) (n : Nat) : (s.bumpN k n).port = s.port := (rfl)
@[simp] theorem State.bumpN_heater (s : State) (k : Key) (n : Nat) : (s.bumpN k n).heater = s.heater := (rfl)
@[simp] theorem State.bumpN_render (s : State) (k : Key) (n : Nat) : (s.bumpN k n).render = s.render := (rfl)
@[simp] theorem State.bumpN_jigsaw (s : State) (k : Key) (n : Nat) : (s.bumpN k n).jigsaw = s.jigsaw := (rfl)
@[simp] theorem State.bumpN_ingest (s : State) (k : Key) (n : Nat) : (s.bumpN k n).ingest = s.ingest := (rfl)
@[simp] theorem State.bumpN_camera (s : State) (k : Key) (n : Nat) : (s.bumpN k n).camera = s.camera := (rfl)
@[simp] theorem State.bumpN_kaleido (s : State) (k : Key) (n : Nat) : (s.bumpN k n).kaleido = s.kaleido := (rfl)
@[simp] theorem State.bumpN_analyser (s : State) (k : Key) (n : Nat) : (s.bumpN k n).analyser = s.analyser := (rfl)
@[simp] theorem State.bumpN_axis (s : State) (k : Key) (n : Nat) : (s.bumpN k n).axis = s.axis := (rfl)
@[simp] theorem State.bumpN_stack (s : State) (k : Key) (n : Nat) : (s.bumpN k n).stack = s.stack := (rfl)
@[simp] theorem State.bumpN_sram (s : State) (k : Key) (n : Nat) : (s.bumpN k n).sram = s.sram := (rfl)
@[simp] theorem State.bumpN_dma (s : State) (k : Key) (n : Nat) : (s.bumpN k n).dma = s.dma := (rfl)
@[simp] theorem State.bumpN_pend (s : State) (k : Key) (n : Nat) : (s.bumpN k n).pend = s.pend := (rfl)
@[simp] theorem State.bumpN_pending (s : State) (k : Key) (n : Nat) : (s.bumpN k n).pending = s.pending := (rfl)
@[simp] theorem State.bumpN_draws (s : State) (k : Key) (n : Nat) : (s.bumpN k n).draws = s.draws := (rfl)
@[simp] theorem State.bumpN_domain (s : State) (k : Key) (n : Nat) (j : Key) : (s.bumpN k n).domain j = s.domain j := (rfl)
@[simp] theorem State.bumpN_byte (s : State) (k : Key) (n : Nat) (x : Nat) : (s.bumpN k n).byte x = s.byte x := (rfl)

/-! What `bump` leaves alone. -/
@[simp] theorem State.bump_variant (s : State) (k : Key) : (s.bump k).variant = s.variant := (rfl)
@[simp] theorem State.bump_clk (s : State) (k : Key) : (s.bump k).clk = s.clk := (rfl)
@[simp] theorem State.bump_sysTime (s : State) (k : Key) : (s.bump k).sysTime = s.sysTime := (rfl)
@[simp] theorem State.bump_dom (s : State) (k : Key) : (s.bump k).dom = s.dom := (rfl)
@[simp] theorem State.bump_mem (s : State) (k : Key) : (s.bump k).mem = s.mem := (rfl)
@[simp] theorem State.bump_held (s : State) (k : Key) : (s.bump k).held = s.held := (rfl)
@[simp] theorem State.bump_clocks (s : State) (k : Key) : (s.bump k).clocks = s.clocks := (rfl)
@[simp] theorem State.bump_vbat (s : State) (k : Key) : (s.bump k).vbat = s.vbat := (rfl)
@[simp] theorem State.bump_mram (s : State) (k : Key) : (s.bump k).mram = s.mram := (rfl)
@[simp] theorem State.bump_slave (s : State) (k : Key) : (s.bump k).slave = s.slave := (rfl)
@[simp] theorem State.bump_engine (s : State) (k : Key) : (s.bump k).engine = s.engine := (rfl)
@[simp] theorem State.bump_position (s : State) (k : Key) : (s.bump k).position = s.position := (rfl)
@[simp] theorem State.bump_sched (s : State) (k : Key) : (s.bump k).sched = s.sched := (rfl)
@[simp] theorem State.bump_port (s : State) (k : Key) : (s.bump k).port = s.port := (rfl)
@[simp] theorem State.bump_heater (s : State) (k : Key) : (s.bump k).heater = s.heater := (rfl)
@[simp] theorem State.bump_render (s : State) (k : Key) : (s.bump k).render = s.render := (rfl)
@[simp] theorem State.bump_jigsaw (s : State) (k : Key) : (s.bump k).jigsaw = s.jigsaw := (rfl)
@[simp] theorem State.bump_ingest (s : State) (k : Key) : (s.bump k).ingest = s.ingest := (rfl)
@[simp] theorem State.bump_camera (s : State) (k : Key) : (s.bump k).camera = s.camera := (rfl)
@[simp] theorem State.bump_kaleido (s : State) (k : Key) : (s.bump k).kaleido = s.kaleido := (rfl)
@[simp] theorem State.bump_analyser (s : State) (k : Key) : (s.bump k).analyser = s.analyser := (rfl)
@[simp] theorem State.bump_axis (s : State) (k : Key) : (s.bump k).axis = s.axis := (rfl)
@[simp] theorem State.bump_stack (s : State) (k : Key) : (s.bump k).stack = s.stack := (rfl)
@[simp] theorem State.bump_sram (s : State) (k : Key) : (s.bump k).sram = s.sram := (rfl)
@[simp] theorem State.bump_dma (s : State) (k : Key) : (s.bump k).dma = s.dma := (rfl)
@[simp] theorem State.bump_pend (s : State) (k : Key) : (s.bump k).pend = s.pend := (rfl)
@[simp] theorem State.bump_pending (s : State) (k : Key) : (s.bump k).pending = s.pending := (rfl)
@[simp] theorem State.bump_draws (s : State) (k : Key) : (s.bump k).draws = s.draws := (rfl)
@[simp] theorem State.bump_domain (s : State) (k : Key) (j : Key) : (s.bump k).domain j = s.domain j := (rfl)
@[simp] theorem State.bump_byte (s : State) (k : Key) (x : Nat) : (s.bump k).byte x = s.byte x := (rfl)

/-! What `event` leaves alone. -/
@[simp] theorem State.event_variant (s : State) (k : Key) (i : Nat) : (s.event k i).variant = s.variant := (rfl)
@[simp] theorem State.event_clk (s : State) (k : Key) (i : Nat) : (s.event k i).clk = s.clk := (rfl)
@[simp] theorem State.event_sysTime (s : State) (k : Key) (i : Nat) : (s.event k i).sysTime = s.sysTime := (rfl)
@[simp] theorem State.event_dom (s : State) (k : Key) (i : Nat) : (s.event k i).dom = s.dom := (rfl)
@[simp] theorem State.event_mem (s : State) (k : Key) (i : Nat) : (s.event k i).mem = s.mem := (rfl)
@[simp] theorem State.event_held (s : State) (k : Key) (i : Nat) : (s.event k i).held = s.held := (rfl)
@[simp] theorem State.event_clocks (s : State) (k : Key) (i : Nat) : (s.event k i).clocks = s.clocks := (rfl)
@[simp] theorem State.event_vbat (s : State) (k : Key) (i : Nat) : (s.event k i).vbat = s.vbat := (rfl)
@[simp] theorem State.event_mram (s : State) (k : Key) (i : Nat) : (s.event k i).mram = s.mram := (rfl)
@[simp] theorem State.event_slave (s : State) (k : Key) (i : Nat) : (s.event k i).slave = s.slave := (rfl)
@[simp] theorem State.event_engine (s : State) (k : Key) (i : Nat) : (s.event k i).engine = s.engine := (rfl)
@[simp] theorem State.event_health (s : State) (k : Key) (i : Nat) : (s.event k i).health = s.health := (rfl)
@[simp] theorem State.event_position (s : State) (k : Key) (i : Nat) : (s.event k i).position = s.position := (rfl)
@[simp] theorem State.event_sched (s : State) (k : Key) (i : Nat) : (s.event k i).sched = s.sched := (rfl)
@[simp] theorem State.event_port (s : State) (k : Key) (i : Nat) : (s.event k i).port = s.port := (rfl)
@[simp] theorem State.event_heater (s : State) (k : Key) (i : Nat) : (s.event k i).heater = s.heater := (rfl)
@[simp] theorem State.event_render (s : State) (k : Key) (i : Nat) : (s.event k i).render = s.render := (rfl)
@[simp] theorem State.event_jigsaw (s : State) (k : Key) (i : Nat) : (s.event k i).jigsaw = s.jigsaw := (rfl)
@[simp] theorem State.event_ingest (s : State) (k : Key) (i : Nat) : (s.event k i).ingest = s.ingest := (rfl)
@[simp] theorem State.event_camera (s : State) (k : Key) (i : Nat) : (s.event k i).camera = s.camera := (rfl)
@[simp] theorem State.event_kaleido (s : State) (k : Key) (i : Nat) : (s.event k i).kaleido = s.kaleido := (rfl)
@[simp] theorem State.event_analyser (s : State) (k : Key) (i : Nat) : (s.event k i).analyser = s.analyser := (rfl)
@[simp] theorem State.event_axis (s : State) (k : Key) (i : Nat) : (s.event k i).axis = s.axis := (rfl)
@[simp] theorem State.event_stack (s : State) (k : Key) (i : Nat) : (s.event k i).stack = s.stack := (rfl)
@[simp] theorem State.event_sram (s : State) (k : Key) (i : Nat) : (s.event k i).sram = s.sram := (rfl)
@[simp] theorem State.event_dma (s : State) (k : Key) (i : Nat) : (s.event k i).dma = s.dma := (rfl)
@[simp] theorem State.event_pend (s : State) (k : Key) (i : Nat) : (s.event k i).pend = s.pend := (rfl)
@[simp] theorem State.event_pending (s : State) (k : Key) (i : Nat) : (s.event k i).pending = s.pending := (rfl)
@[simp] theorem State.event_draws (s : State) (k : Key) (i : Nat) : (s.event k i).draws = s.draws := (rfl)
@[simp] theorem State.event_domain (s : State) (k : Key) (i : Nat) (j : Key) : (s.event k i).domain j = s.domain j := (rfl)
@[simp] theorem State.event_byte (s : State) (k : Key) (i : Nat) (x : Nat) : (s.event k i).byte x = s.byte x := (rfl)

/-! What `at` leaves alone. -/
@[simp] theorem State.at_variant (s : State) (t : Nat) : (s.at t).variant = s.variant := by unfold State.at; split <;> rfl
@[simp] theorem State.at_od (s : State) (t : Nat) : (s.at t).od = s.od := by unfold State.at; split <;> rfl
@[simp] theorem State.at_dom (s : State) (t : Nat) : (s.at t).dom = s.dom := by unfold State.at; split <;> rfl
@[simp] theorem State.at_mem (s : State) (t : Nat) : (s.at t).mem = s.mem := by unfold State.at; split <;> rfl
@[simp] theorem State.at_held (s : State) (t : Nat) : (s.at t).held = s.held := by unfold State.at; split <;> rfl
@[simp] theorem State.at_clocks (s : State) (t : Nat) : (s.at t).clocks = s.clocks := by unfold State.at; split <;> rfl
@[simp] theorem State.at_vbat (s : State) (t : Nat) : (s.at t).vbat = s.vbat := by unfold State.at; split <;> rfl
@[simp] theorem State.at_mram (s : State) (t : Nat) : (s.at t).mram = s.mram := by unfold State.at; split <;> rfl
@[simp] theorem State.at_slave (s : State) (t : Nat) : (s.at t).slave = s.slave := by unfold State.at; split <;> rfl
@[simp] theorem State.at_engine (s : State) (t : Nat) : (s.at t).engine = s.engine := by unfold State.at; split <;> rfl
@[simp] theorem State.at_health (s : State) (t : Nat) : (s.at t).health = s.health := by unfold State.at; split <;> rfl
@[simp] theorem State.at_position (s : State) (t : Nat) : (s.at t).position = s.position := by unfold State.at; split <;> rfl
@[simp] theorem State.at_sched (s : State) (t : Nat) : (s.at t).sched = s.sched := by unfold State.at; split <;> rfl
@[simp] theorem State.at_port (s : State) (t : Nat) : (s.at t).port = s.port := by unfold State.at; split <;> rfl
@[simp] theorem State.at_heater (s : State) (t : Nat) : (s.at t).heater = s.heater := by unfold State.at; split <;> rfl
@[simp] theorem State.at_render (s : State) (t : Nat) : (s.at t).render = s.render := by unfold State.at; split <;> rfl
@[simp] theorem State.at_jigsaw (s : State) (t : Nat) : (s.at t).jigsaw = s.jigsaw := by unfold State.at; split <;> rfl
@[simp] theorem State.at_ingest (s : State) (t : Nat) : (s.at t).ingest = s.ingest := by unfold State.at; split <;> rfl
@[simp] theorem State.at_camera (s : State) (t : Nat) : (s.at t).camera = s.camera := by unfold State.at; split <;> rfl
@[simp] theorem State.at_kaleido (s : State) (t : Nat) : (s.at t).kaleido = s.kaleido := by unfold State.at; split <;> rfl
@[simp] theorem State.at_analyser (s : State) (t : Nat) : (s.at t).analyser = s.analyser := by unfold State.at; split <;> rfl
@[simp] theorem State.at_axis (s : State) (t : Nat) : (s.at t).axis = s.axis := by unfold State.at; split <;> rfl
@[simp] theorem State.at_stack (s : State) (t : Nat) : (s.at t).stack = s.stack := by unfold State.at; split <;> rfl
@[simp] theorem State.at_sram (s : State) (t : Nat) : (s.at t).sram = s.sram := by unfold State.at; split <;> rfl
@[simp] theorem State.at_dma (s : State) (t : Nat) : (s.at t).dma = s.dma := by unfold State.at; split <;> rfl
@[simp] theorem State.at_pend (s : State) (t : Nat) : (s.at t).pend = s.pend := by unfold State.at; split <;> rfl
@[simp] theorem State.at_pending (s : State) (t : Nat) : (s.at t).pending = s.pending := by unfold State.at; split <;> rfl
@[simp] theorem State.at_draws (s : State) (t : Nat) : (s.at t).draws = s.draws := by unfold State.at; split <;> rfl
@[simp] theorem State.at_obj (s : State) (t : Nat) (j : Key) : (s.at t).obj j = s.obj j := by unfold State.at; split <;> rfl
@[simp] theorem State.at_bit (s : State) (t : Nat) (j : Key) (m : Nat) : (s.at t).bit j m = s.bit j m := by unfold State.at; split <;> rfl
@[simp] theorem State.at_domain (s : State) (t : Nat) (j : Key) : (s.at t).domain j = s.domain j := by unfold State.at; split <;> rfl
@[simp] theorem State.at_byte (s : State) (t : Nat) (x : Nat) : (s.at t).byte x = s.byte x := by unfold State.at; split <;> rfl

/-! What `modPort` leaves alone. -/
@[simp] theorem State.modPort_variant (s : State) (n : Fin 16) (f : Port → Port) : (s.modPort n f).variant = s.variant := (rfl)
@[simp] theorem State.modPort_clk (s : State) (n : Fin 16) (f : Port → Port) : (s.modPort n f).clk = s.clk := (rfl)
@[simp] theorem State.modPort_sysTime (s : State) (n : Fin 16) (f : Port → Port) : (s.modPort n f).sysTime = s.sysTime := (rfl)
@[simp] theorem State.modPort_od (s : State) (n : Fin 16) (f : Port → Port) : (s.modPort n f).od = s.od := (rfl)
@[simp] theorem State.modPort_dom (s : State) (n : Fin 16) (f : Port → Port) : (s.modPort n f).dom = s.dom := (rfl)
@[simp] theorem State.modPort_mem (s : State) (n : Fin 16) (f : Port → Port) : (s.modPort n f).mem = s.mem := (rfl)
@[simp] theorem State.modPort_held (s : State) (n : Fin 16) (f : Port → Port) : (s.modPort n f).held = s.held := (rfl)
@[simp] theorem State.modPort_clocks (s : State) (n : Fin 16) (f : Port → Port) : (s.modPort n f).clocks = s.clocks := (rfl)
@[simp] theorem State.modPort_vbat (s : State) (n : Fin 16) (f : Port → Port) : (s.modPort n f).vbat = s.vbat := (rfl)
@[simp] theorem State.modPort_mram (s : State) (n : Fin 16) (f : Port → Port) : (s.modPort n f).mram = s.mram := (rfl)
@[simp] theorem State.modPort_slave (s : State) (n : Fin 16) (f : Port → Port) : (s.modPort n f).slave = s.slave := (rfl)
@[simp] theorem State.modPort_engine (s : State) (n : Fin 16) (f : Port → Port) : (s.modPort n f).engine = s.engine := (rfl)
@[simp] theorem State.modPort_health (s : State) (n : Fin 16) (f : Port → Port) : (s.modPort n f).health = s.health := (rfl)
@[simp] theorem State.modPort_position (s : State) (n : Fin 16) (f : Port → Port) : (s.modPort n f).position = s.position := (rfl)
@[simp] theorem State.modPort_sched (s : State) (n : Fin 16) (f : Port → Port) : (s.modPort n f).sched = s.sched := (rfl)
@[simp] theorem State.modPort_heater (s : State) (n : Fin 16) (f : Port → Port) : (s.modPort n f).heater = s.heater := (rfl)
@[simp] theorem State.modPort_render (s : State) (n : Fin 16) (f : Port → Port) : (s.modPort n f).render = s.render := (rfl)
@[simp] theorem State.modPort_jigsaw (s : State) (n : Fin 16) (f : Port → Port) : (s.modPort n f).jigsaw = s.jigsaw := (rfl)
@[simp] theorem State.modPort_ingest (s : State) (n : Fin 16) (f : Port → Port) : (s.modPort n f).ingest = s.ingest := (rfl)
@[simp] theorem State.modPort_camera (s : State) (n : Fin 16) (f : Port → Port) : (s.modPort n f).camera = s.camera := (rfl)
@[simp] theorem State.modPort_kaleido (s : State) (n : Fin 16) (f : Port → Port) : (s.modPort n f).kaleido = s.kaleido := (rfl)
@[simp] theorem State.modPort_analyser (s : State) (n : Fin 16) (f : Port → Port) : (s.modPort n f).analyser = s.analyser := (rfl)
@[simp] theorem State.modPort_axis (s : State) (n : Fin 16) (f : Port → Port) : (s.modPort n f).axis = s.axis := (rfl)
@[simp] theorem State.modPort_stack (s : State) (n : Fin 16) (f : Port → Port) : (s.modPort n f).stack = s.stack := (rfl)
@[simp] theorem State.modPort_sram (s : State) (n : Fin 16) (f : Port → Port) : (s.modPort n f).sram = s.sram := (rfl)
@[simp] theorem State.modPort_dma (s : State) (n : Fin 16) (f : Port → Port) : (s.modPort n f).dma = s.dma := (rfl)
@[simp] theorem State.modPort_pend (s : State) (n : Fin 16) (f : Port → Port) : (s.modPort n f).pend = s.pend := (rfl)
@[simp] theorem State.modPort_pending (s : State) (n : Fin 16) (f : Port → Port) : (s.modPort n f).pending = s.pending := (rfl)
@[simp] theorem State.modPort_draws (s : State) (n : Fin 16) (f : Port → Port) : (s.modPort n f).draws = s.draws := (rfl)
@[simp] theorem State.modPort_obj (s : State) (n : Fin 16) (f : Port → Port) (j : Key) : (s.modPort n f).obj j = s.obj j := (rfl)
@[simp] theorem State.modPort_bit (s : State) (n : Fin 16) (f : Port → Port) (j : Key) (m : Nat) : (s.modPort n f).bit j m = s.bit j m := (rfl)
@[simp] theorem State.modPort_domain (s : State) (n : Fin 16) (f : Port → Port) (j : Key) : (s.modPort n f).domain j = s.domain j := (rfl)
@[simp] theorem State.modPort_byte (s : State) (n : Fin 16) (f : Port → Port) (x : Nat) : (s.modPort n f).byte x = s.byte x := (rfl)

/-! What `modJigsaw` leaves alone. -/
@[simp] theorem State.modJigsaw_variant (s : State) (n : Fin 16) (f : JigsawPort → JigsawPort) : (s.modJigsaw n f).variant = s.variant := (rfl)
@[simp] theorem State.modJigsaw_clk (s : State) (n : Fin 16) (f : JigsawPort → JigsawPort) : (s.modJigsaw n f).clk = s.clk := (rfl)
@[simp] theorem State.modJigsaw_sysTime (s : State) (n : Fin 16) (f : JigsawPort → JigsawPort) : (s.modJigsaw n f).sysTime = s.sysTime := (rfl)
@[simp] theorem State.modJigsaw_od (s : State) (n : Fin 16) (f : JigsawPort → JigsawPort) : (s.modJigsaw n f).od = s.od := (rfl)
@[simp] theorem State.modJigsaw_dom (s : State) (n : Fin 16) (f : JigsawPort → JigsawPort) : (s.modJigsaw n f).dom = s.dom := (rfl)
@[simp] theorem State.modJigsaw_mem (s : State) (n : Fin 16) (f : JigsawPort → JigsawPort) : (s.modJigsaw n f).mem = s.mem := (rfl)
@[simp] theorem State.modJigsaw_held (s : State) (n : Fin 16) (f : JigsawPort → JigsawPort) : (s.modJigsaw n f).held = s.held := (rfl)
@[simp] theorem State.modJigsaw_clocks (s : State) (n : Fin 16) (f : JigsawPort → JigsawPort) : (s.modJigsaw n f).clocks = s.clocks := (rfl)
@[simp] theorem State.modJigsaw_vbat (s : State) (n : Fin 16) (f : JigsawPort → JigsawPort) : (s.modJigsaw n f).vbat = s.vbat := (rfl)
@[simp] theorem State.modJigsaw_mram (s : State) (n : Fin 16) (f : JigsawPort → JigsawPort) : (s.modJigsaw n f).mram = s.mram := (rfl)
@[simp] theorem State.modJigsaw_slave (s : State) (n : Fin 16) (f : JigsawPort → JigsawPort) : (s.modJigsaw n f).slave = s.slave := (rfl)
@[simp] theorem State.modJigsaw_engine (s : State) (n : Fin 16) (f : JigsawPort → JigsawPort) : (s.modJigsaw n f).engine = s.engine := (rfl)
@[simp] theorem State.modJigsaw_health (s : State) (n : Fin 16) (f : JigsawPort → JigsawPort) : (s.modJigsaw n f).health = s.health := (rfl)
@[simp] theorem State.modJigsaw_position (s : State) (n : Fin 16) (f : JigsawPort → JigsawPort) : (s.modJigsaw n f).position = s.position := (rfl)
@[simp] theorem State.modJigsaw_sched (s : State) (n : Fin 16) (f : JigsawPort → JigsawPort) : (s.modJigsaw n f).sched = s.sched := (rfl)
@[simp] theorem State.modJigsaw_port (s : State) (n : Fin 16) (f : JigsawPort → JigsawPort) : (s.modJigsaw n f).port = s.port := (rfl)
@[simp] theorem State.modJigsaw_heater (s : State) (n : Fin 16) (f : JigsawPort → JigsawPort) : (s.modJigsaw n f).heater = s.heater := (rfl)
@[simp] theorem State.modJigsaw_render (s : State) (n : Fin 16) (f : JigsawPort → JigsawPort) : (s.modJigsaw n f).render = s.render := (rfl)
@[simp] theorem State.modJigsaw_ingest (s : State) (n : Fin 16) (f : JigsawPort → JigsawPort) : (s.modJigsaw n f).ingest = s.ingest := (rfl)
@[simp] theorem State.modJigsaw_camera (s : State) (n : Fin 16) (f : JigsawPort → JigsawPort) : (s.modJigsaw n f).camera = s.camera := (rfl)
@[simp] theorem State.modJigsaw_kaleido (s : State) (n : Fin 16) (f : JigsawPort → JigsawPort) : (s.modJigsaw n f).kaleido = s.kaleido := (rfl)
@[simp] theorem State.modJigsaw_analyser (s : State) (n : Fin 16) (f : JigsawPort → JigsawPort) : (s.modJigsaw n f).analyser = s.analyser := (rfl)
@[simp] theorem State.modJigsaw_axis (s : State) (n : Fin 16) (f : JigsawPort → JigsawPort) : (s.modJigsaw n f).axis = s.axis := (rfl)
@[simp] theorem State.modJigsaw_stack (s : State) (n : Fin 16) (f : JigsawPort → JigsawPort) : (s.modJigsaw n f).stack = s.stack := (rfl)
@[simp] theorem State.modJigsaw_sram (s : State) (n : Fin 16) (f : JigsawPort → JigsawPort) : (s.modJigsaw n f).sram = s.sram := (rfl)
@[simp] theorem State.modJigsaw_dma (s : State) (n : Fin 16) (f : JigsawPort → JigsawPort) : (s.modJigsaw n f).dma = s.dma := (rfl)
@[simp] theorem State.modJigsaw_pend (s : State) (n : Fin 16) (f : JigsawPort → JigsawPort) : (s.modJigsaw n f).pend = s.pend := (rfl)
@[simp] theorem State.modJigsaw_pending (s : State) (n : Fin 16) (f : JigsawPort → JigsawPort) : (s.modJigsaw n f).pending = s.pending := (rfl)
@[simp] theorem State.modJigsaw_draws (s : State) (n : Fin 16) (f : JigsawPort → JigsawPort) : (s.modJigsaw n f).draws = s.draws := (rfl)
@[simp] theorem State.modJigsaw_obj (s : State) (n : Fin 16) (f : JigsawPort → JigsawPort) (j : Key) : (s.modJigsaw n f).obj j = s.obj j := (rfl)
@[simp] theorem State.modJigsaw_bit (s : State) (n : Fin 16) (f : JigsawPort → JigsawPort) (j : Key) (m : Nat) : (s.modJigsaw n f).bit j m = s.bit j m := (rfl)
@[simp] theorem State.modJigsaw_domain (s : State) (n : Fin 16) (f : JigsawPort → JigsawPort) (j : Key) : (s.modJigsaw n f).domain j = s.domain j := (rfl)
@[simp] theorem State.modJigsaw_byte (s : State) (n : Fin 16) (f : JigsawPort → JigsawPort) (x : Nat) : (s.modJigsaw n f).byte x = s.byte x := (rfl)

/-! What `modCamera` leaves alone. -/
@[simp] theorem State.modCamera_variant (s : State) (c : Fin 2) (f : Camera → Camera) : (s.modCamera c f).variant = s.variant := (rfl)
@[simp] theorem State.modCamera_clk (s : State) (c : Fin 2) (f : Camera → Camera) : (s.modCamera c f).clk = s.clk := (rfl)
@[simp] theorem State.modCamera_sysTime (s : State) (c : Fin 2) (f : Camera → Camera) : (s.modCamera c f).sysTime = s.sysTime := (rfl)
@[simp] theorem State.modCamera_od (s : State) (c : Fin 2) (f : Camera → Camera) : (s.modCamera c f).od = s.od := (rfl)
@[simp] theorem State.modCamera_dom (s : State) (c : Fin 2) (f : Camera → Camera) : (s.modCamera c f).dom = s.dom := (rfl)
@[simp] theorem State.modCamera_mem (s : State) (c : Fin 2) (f : Camera → Camera) : (s.modCamera c f).mem = s.mem := (rfl)
@[simp] theorem State.modCamera_held (s : State) (c : Fin 2) (f : Camera → Camera) : (s.modCamera c f).held = s.held := (rfl)
@[simp] theorem State.modCamera_clocks (s : State) (c : Fin 2) (f : Camera → Camera) : (s.modCamera c f).clocks = s.clocks := (rfl)
@[simp] theorem State.modCamera_vbat (s : State) (c : Fin 2) (f : Camera → Camera) : (s.modCamera c f).vbat = s.vbat := (rfl)
@[simp] theorem State.modCamera_mram (s : State) (c : Fin 2) (f : Camera → Camera) : (s.modCamera c f).mram = s.mram := (rfl)
@[simp] theorem State.modCamera_slave (s : State) (c : Fin 2) (f : Camera → Camera) : (s.modCamera c f).slave = s.slave := (rfl)
@[simp] theorem State.modCamera_engine (s : State) (c : Fin 2) (f : Camera → Camera) : (s.modCamera c f).engine = s.engine := (rfl)
@[simp] theorem State.modCamera_health (s : State) (c : Fin 2) (f : Camera → Camera) : (s.modCamera c f).health = s.health := (rfl)
@[simp] theorem State.modCamera_position (s : State) (c : Fin 2) (f : Camera → Camera) : (s.modCamera c f).position = s.position := (rfl)
@[simp] theorem State.modCamera_sched (s : State) (c : Fin 2) (f : Camera → Camera) : (s.modCamera c f).sched = s.sched := (rfl)
@[simp] theorem State.modCamera_port (s : State) (c : Fin 2) (f : Camera → Camera) : (s.modCamera c f).port = s.port := (rfl)
@[simp] theorem State.modCamera_heater (s : State) (c : Fin 2) (f : Camera → Camera) : (s.modCamera c f).heater = s.heater := (rfl)
@[simp] theorem State.modCamera_render (s : State) (c : Fin 2) (f : Camera → Camera) : (s.modCamera c f).render = s.render := (rfl)
@[simp] theorem State.modCamera_jigsaw (s : State) (c : Fin 2) (f : Camera → Camera) : (s.modCamera c f).jigsaw = s.jigsaw := (rfl)
@[simp] theorem State.modCamera_ingest (s : State) (c : Fin 2) (f : Camera → Camera) : (s.modCamera c f).ingest = s.ingest := (rfl)
@[simp] theorem State.modCamera_kaleido (s : State) (c : Fin 2) (f : Camera → Camera) : (s.modCamera c f).kaleido = s.kaleido := (rfl)
@[simp] theorem State.modCamera_analyser (s : State) (c : Fin 2) (f : Camera → Camera) : (s.modCamera c f).analyser = s.analyser := (rfl)
@[simp] theorem State.modCamera_axis (s : State) (c : Fin 2) (f : Camera → Camera) : (s.modCamera c f).axis = s.axis := (rfl)
@[simp] theorem State.modCamera_stack (s : State) (c : Fin 2) (f : Camera → Camera) : (s.modCamera c f).stack = s.stack := (rfl)
@[simp] theorem State.modCamera_sram (s : State) (c : Fin 2) (f : Camera → Camera) : (s.modCamera c f).sram = s.sram := (rfl)
@[simp] theorem State.modCamera_dma (s : State) (c : Fin 2) (f : Camera → Camera) : (s.modCamera c f).dma = s.dma := (rfl)
@[simp] theorem State.modCamera_pend (s : State) (c : Fin 2) (f : Camera → Camera) : (s.modCamera c f).pend = s.pend := (rfl)
@[simp] theorem State.modCamera_pending (s : State) (c : Fin 2) (f : Camera → Camera) : (s.modCamera c f).pending = s.pending := (rfl)
@[simp] theorem State.modCamera_draws (s : State) (c : Fin 2) (f : Camera → Camera) : (s.modCamera c f).draws = s.draws := (rfl)
@[simp] theorem State.modCamera_obj (s : State) (c : Fin 2) (f : Camera → Camera) (j : Key) : (s.modCamera c f).obj j = s.obj j := (rfl)
@[simp] theorem State.modCamera_bit (s : State) (c : Fin 2) (f : Camera → Camera) (j : Key) (m : Nat) : (s.modCamera c f).bit j m = s.bit j m := (rfl)
@[simp] theorem State.modCamera_domain (s : State) (c : Fin 2) (f : Camera → Camera) (j : Key) : (s.modCamera c f).domain j = s.domain j := (rfl)
@[simp] theorem State.modCamera_byte (s : State) (c : Fin 2) (f : Camera → Camera) (x : Nat) : (s.modCamera c f).byte x = s.byte x := (rfl)

/-! What `modRenderPort` leaves alone. -/
@[simp] theorem State.modRenderPort_variant (s : State) (n : Fin 16) (f : RenderPort → RenderPort) : (s.modRenderPort n f).variant = s.variant := (rfl)
@[simp] theorem State.modRenderPort_clk (s : State) (n : Fin 16) (f : RenderPort → RenderPort) : (s.modRenderPort n f).clk = s.clk := (rfl)
@[simp] theorem State.modRenderPort_sysTime (s : State) (n : Fin 16) (f : RenderPort → RenderPort) : (s.modRenderPort n f).sysTime = s.sysTime := (rfl)
@[simp] theorem State.modRenderPort_od (s : State) (n : Fin 16) (f : RenderPort → RenderPort) : (s.modRenderPort n f).od = s.od := (rfl)
@[simp] theorem State.modRenderPort_dom (s : State) (n : Fin 16) (f : RenderPort → RenderPort) : (s.modRenderPort n f).dom = s.dom := (rfl)
@[simp] theorem State.modRenderPort_mem (s : State) (n : Fin 16) (f : RenderPort → RenderPort) : (s.modRenderPort n f).mem = s.mem := (rfl)
@[simp] theorem State.modRenderPort_held (s : State) (n : Fin 16) (f : RenderPort → RenderPort) : (s.modRenderPort n f).held = s.held := (rfl)
@[simp] theorem State.modRenderPort_clocks (s : State) (n : Fin 16) (f : RenderPort → RenderPort) : (s.modRenderPort n f).clocks = s.clocks := (rfl)
@[simp] theorem State.modRenderPort_vbat (s : State) (n : Fin 16) (f : RenderPort → RenderPort) : (s.modRenderPort n f).vbat = s.vbat := (rfl)
@[simp] theorem State.modRenderPort_mram (s : State) (n : Fin 16) (f : RenderPort → RenderPort) : (s.modRenderPort n f).mram = s.mram := (rfl)
@[simp] theorem State.modRenderPort_slave (s : State) (n : Fin 16) (f : RenderPort → RenderPort) : (s.modRenderPort n f).slave = s.slave := (rfl)
@[simp] theorem State.modRenderPort_engine (s : State) (n : Fin 16) (f : RenderPort → RenderPort) : (s.modRenderPort n f).engine = s.engine := (rfl)
@[simp] theorem State.modRenderPort_health (s : State) (n : Fin 16) (f : RenderPort → RenderPort) : (s.modRenderPort n f).health = s.health := (rfl)
@[simp] theorem State.modRenderPort_position (s : State) (n : Fin 16) (f : RenderPort → RenderPort) : (s.modRenderPort n f).position = s.position := (rfl)
@[simp] theorem State.modRenderPort_sched (s : State) (n : Fin 16) (f : RenderPort → RenderPort) : (s.modRenderPort n f).sched = s.sched := (rfl)
@[simp] theorem State.modRenderPort_port (s : State) (n : Fin 16) (f : RenderPort → RenderPort) : (s.modRenderPort n f).port = s.port := (rfl)
@[simp] theorem State.modRenderPort_heater (s : State) (n : Fin 16) (f : RenderPort → RenderPort) : (s.modRenderPort n f).heater = s.heater := (rfl)
@[simp] theorem State.modRenderPort_jigsaw (s : State) (n : Fin 16) (f : RenderPort → RenderPort) : (s.modRenderPort n f).jigsaw = s.jigsaw := (rfl)
@[simp] theorem State.modRenderPort_ingest (s : State) (n : Fin 16) (f : RenderPort → RenderPort) : (s.modRenderPort n f).ingest = s.ingest := (rfl)
@[simp] theorem State.modRenderPort_camera (s : State) (n : Fin 16) (f : RenderPort → RenderPort) : (s.modRenderPort n f).camera = s.camera := (rfl)
@[simp] theorem State.modRenderPort_kaleido (s : State) (n : Fin 16) (f : RenderPort → RenderPort) : (s.modRenderPort n f).kaleido = s.kaleido := (rfl)
@[simp] theorem State.modRenderPort_analyser (s : State) (n : Fin 16) (f : RenderPort → RenderPort) : (s.modRenderPort n f).analyser = s.analyser := (rfl)
@[simp] theorem State.modRenderPort_axis (s : State) (n : Fin 16) (f : RenderPort → RenderPort) : (s.modRenderPort n f).axis = s.axis := (rfl)
@[simp] theorem State.modRenderPort_stack (s : State) (n : Fin 16) (f : RenderPort → RenderPort) : (s.modRenderPort n f).stack = s.stack := (rfl)
@[simp] theorem State.modRenderPort_sram (s : State) (n : Fin 16) (f : RenderPort → RenderPort) : (s.modRenderPort n f).sram = s.sram := (rfl)
@[simp] theorem State.modRenderPort_dma (s : State) (n : Fin 16) (f : RenderPort → RenderPort) : (s.modRenderPort n f).dma = s.dma := (rfl)
@[simp] theorem State.modRenderPort_pend (s : State) (n : Fin 16) (f : RenderPort → RenderPort) : (s.modRenderPort n f).pend = s.pend := (rfl)
@[simp] theorem State.modRenderPort_pending (s : State) (n : Fin 16) (f : RenderPort → RenderPort) : (s.modRenderPort n f).pending = s.pending := (rfl)
@[simp] theorem State.modRenderPort_draws (s : State) (n : Fin 16) (f : RenderPort → RenderPort) : (s.modRenderPort n f).draws = s.draws := (rfl)
@[simp] theorem State.modRenderPort_obj (s : State) (n : Fin 16) (f : RenderPort → RenderPort) (j : Key) : (s.modRenderPort n f).obj j = s.obj j := (rfl)
@[simp] theorem State.modRenderPort_bit (s : State) (n : Fin 16) (f : RenderPort → RenderPort) (j : Key) (m : Nat) : (s.modRenderPort n f).bit j m = s.bit j m := (rfl)
@[simp] theorem State.modRenderPort_domain (s : State) (n : Fin 16) (f : RenderPort → RenderPort) (j : Key) : (s.modRenderPort n f).domain j = s.domain j := (rfl)
@[simp] theorem State.modRenderPort_byte (s : State) (n : Fin 16) (f : RenderPort → RenderPort) (x : Nat) : (s.modRenderPort n f).byte x = s.byte x := (rfl)

/-! What `modDma` leaves alone. -/
@[simp] theorem State.modDma_variant (s : State) (ch : Fin 32) (f : DmaChan → DmaChan) : (s.modDma ch f).variant = s.variant := (rfl)
@[simp] theorem State.modDma_clk (s : State) (ch : Fin 32) (f : DmaChan → DmaChan) : (s.modDma ch f).clk = s.clk := (rfl)
@[simp] theorem State.modDma_sysTime (s : State) (ch : Fin 32) (f : DmaChan → DmaChan) : (s.modDma ch f).sysTime = s.sysTime := (rfl)
@[simp] theorem State.modDma_od (s : State) (ch : Fin 32) (f : DmaChan → DmaChan) : (s.modDma ch f).od = s.od := (rfl)
@[simp] theorem State.modDma_dom (s : State) (ch : Fin 32) (f : DmaChan → DmaChan) : (s.modDma ch f).dom = s.dom := (rfl)
@[simp] theorem State.modDma_mem (s : State) (ch : Fin 32) (f : DmaChan → DmaChan) : (s.modDma ch f).mem = s.mem := (rfl)
@[simp] theorem State.modDma_held (s : State) (ch : Fin 32) (f : DmaChan → DmaChan) : (s.modDma ch f).held = s.held := (rfl)
@[simp] theorem State.modDma_clocks (s : State) (ch : Fin 32) (f : DmaChan → DmaChan) : (s.modDma ch f).clocks = s.clocks := (rfl)
@[simp] theorem State.modDma_vbat (s : State) (ch : Fin 32) (f : DmaChan → DmaChan) : (s.modDma ch f).vbat = s.vbat := (rfl)
@[simp] theorem State.modDma_mram (s : State) (ch : Fin 32) (f : DmaChan → DmaChan) : (s.modDma ch f).mram = s.mram := (rfl)
@[simp] theorem State.modDma_slave (s : State) (ch : Fin 32) (f : DmaChan → DmaChan) : (s.modDma ch f).slave = s.slave := (rfl)
@[simp] theorem State.modDma_engine (s : State) (ch : Fin 32) (f : DmaChan → DmaChan) : (s.modDma ch f).engine = s.engine := (rfl)
@[simp] theorem State.modDma_health (s : State) (ch : Fin 32) (f : DmaChan → DmaChan) : (s.modDma ch f).health = s.health := (rfl)
@[simp] theorem State.modDma_position (s : State) (ch : Fin 32) (f : DmaChan → DmaChan) : (s.modDma ch f).position = s.position := (rfl)
@[simp] theorem State.modDma_sched (s : State) (ch : Fin 32) (f : DmaChan → DmaChan) : (s.modDma ch f).sched = s.sched := (rfl)
@[simp] theorem State.modDma_port (s : State) (ch : Fin 32) (f : DmaChan → DmaChan) : (s.modDma ch f).port = s.port := (rfl)
@[simp] theorem State.modDma_heater (s : State) (ch : Fin 32) (f : DmaChan → DmaChan) : (s.modDma ch f).heater = s.heater := (rfl)
@[simp] theorem State.modDma_render (s : State) (ch : Fin 32) (f : DmaChan → DmaChan) : (s.modDma ch f).render = s.render := (rfl)
@[simp] theorem State.modDma_jigsaw (s : State) (ch : Fin 32) (f : DmaChan → DmaChan) : (s.modDma ch f).jigsaw = s.jigsaw := (rfl)
@[simp] theorem State.modDma_ingest (s : State) (ch : Fin 32) (f : DmaChan → DmaChan) : (s.modDma ch f).ingest = s.ingest := (rfl)
@[simp] theorem State.modDma_camera (s : State) (ch : Fin 32) (f : DmaChan → DmaChan) : (s.modDma ch f).camera = s.camera := (rfl)
@[simp] theorem State.modDma_kaleido (s : State) (ch : Fin 32) (f : DmaChan → DmaChan) : (s.modDma ch f).kaleido = s.kaleido := (rfl)
@[simp] theorem State.modDma_analyser (s : State) (ch : Fin 32) (f : DmaChan → DmaChan) : (s.modDma ch f).analyser = s.analyser := (rfl)
@[simp] theorem State.modDma_axis (s : State) (ch : Fin 32) (f : DmaChan → DmaChan) : (s.modDma ch f).axis = s.axis := (rfl)
@[simp] theorem State.modDma_stack (s : State) (ch : Fin 32) (f : DmaChan → DmaChan) : (s.modDma ch f).stack = s.stack := (rfl)
@[simp] theorem State.modDma_sram (s : State) (ch : Fin 32) (f : DmaChan → DmaChan) : (s.modDma ch f).sram = s.sram := (rfl)
@[simp] theorem State.modDma_pend (s : State) (ch : Fin 32) (f : DmaChan → DmaChan) : (s.modDma ch f).pend = s.pend := (rfl)
@[simp] theorem State.modDma_pending (s : State) (ch : Fin 32) (f : DmaChan → DmaChan) : (s.modDma ch f).pending = s.pending := (rfl)
@[simp] theorem State.modDma_draws (s : State) (ch : Fin 32) (f : DmaChan → DmaChan) : (s.modDma ch f).draws = s.draws := (rfl)
@[simp] theorem State.modDma_obj (s : State) (ch : Fin 32) (f : DmaChan → DmaChan) (j : Key) : (s.modDma ch f).obj j = s.obj j := (rfl)
@[simp] theorem State.modDma_bit (s : State) (ch : Fin 32) (f : DmaChan → DmaChan) (j : Key) (m : Nat) : (s.modDma ch f).bit j m = s.bit j m := (rfl)
@[simp] theorem State.modDma_domain (s : State) (ch : Fin 32) (f : DmaChan → DmaChan) (j : Key) : (s.modDma ch f).domain j = s.domain j := (rfl)
@[simp] theorem State.modDma_byte (s : State) (ch : Fin 32) (f : DmaChan → DmaChan) (x : Nat) : (s.modDma ch f).byte x = s.byte x := (rfl)

/-! What `modAxis` leaves alone. -/
@[simp] theorem State.modAxis_variant (s : State) (a : Fin 4) (f : Axis → Axis) : (s.modAxis a f).variant = s.variant := (rfl)
@[simp] theorem State.modAxis_clk (s : State) (a : Fin 4) (f : Axis → Axis) : (s.modAxis a f).clk = s.clk := (rfl)
@[simp] theorem State.modAxis_sysTime (s : State) (a : Fin 4) (f : Axis → Axis) : (s.modAxis a f).sysTime = s.sysTime := (rfl)
@[simp] theorem State.modAxis_od (s : State) (a : Fin 4) (f : Axis → Axis) : (s.modAxis a f).od = s.od := (rfl)
@[simp] theorem State.modAxis_dom (s : State) (a : Fin 4) (f : Axis → Axis) : (s.modAxis a f).dom = s.dom := (rfl)
@[simp] theorem State.modAxis_mem (s : State) (a : Fin 4) (f : Axis → Axis) : (s.modAxis a f).mem = s.mem := (rfl)
@[simp] theorem State.modAxis_held (s : State) (a : Fin 4) (f : Axis → Axis) : (s.modAxis a f).held = s.held := (rfl)
@[simp] theorem State.modAxis_clocks (s : State) (a : Fin 4) (f : Axis → Axis) : (s.modAxis a f).clocks = s.clocks := (rfl)
@[simp] theorem State.modAxis_vbat (s : State) (a : Fin 4) (f : Axis → Axis) : (s.modAxis a f).vbat = s.vbat := (rfl)
@[simp] theorem State.modAxis_mram (s : State) (a : Fin 4) (f : Axis → Axis) : (s.modAxis a f).mram = s.mram := (rfl)
@[simp] theorem State.modAxis_slave (s : State) (a : Fin 4) (f : Axis → Axis) : (s.modAxis a f).slave = s.slave := (rfl)
@[simp] theorem State.modAxis_engine (s : State) (a : Fin 4) (f : Axis → Axis) : (s.modAxis a f).engine = s.engine := (rfl)
@[simp] theorem State.modAxis_health (s : State) (a : Fin 4) (f : Axis → Axis) : (s.modAxis a f).health = s.health := (rfl)
@[simp] theorem State.modAxis_position (s : State) (a : Fin 4) (f : Axis → Axis) : (s.modAxis a f).position = s.position := (rfl)
@[simp] theorem State.modAxis_sched (s : State) (a : Fin 4) (f : Axis → Axis) : (s.modAxis a f).sched = s.sched := (rfl)
@[simp] theorem State.modAxis_port (s : State) (a : Fin 4) (f : Axis → Axis) : (s.modAxis a f).port = s.port := (rfl)
@[simp] theorem State.modAxis_heater (s : State) (a : Fin 4) (f : Axis → Axis) : (s.modAxis a f).heater = s.heater := (rfl)
@[simp] theorem State.modAxis_render (s : State) (a : Fin 4) (f : Axis → Axis) : (s.modAxis a f).render = s.render := (rfl)
@[simp] theorem State.modAxis_jigsaw (s : State) (a : Fin 4) (f : Axis → Axis) : (s.modAxis a f).jigsaw = s.jigsaw := (rfl)
@[simp] theorem State.modAxis_ingest (s : State) (a : Fin 4) (f : Axis → Axis) : (s.modAxis a f).ingest = s.ingest := (rfl)
@[simp] theorem State.modAxis_camera (s : State) (a : Fin 4) (f : Axis → Axis) : (s.modAxis a f).camera = s.camera := (rfl)
@[simp] theorem State.modAxis_kaleido (s : State) (a : Fin 4) (f : Axis → Axis) : (s.modAxis a f).kaleido = s.kaleido := (rfl)
@[simp] theorem State.modAxis_analyser (s : State) (a : Fin 4) (f : Axis → Axis) : (s.modAxis a f).analyser = s.analyser := (rfl)
@[simp] theorem State.modAxis_stack (s : State) (a : Fin 4) (f : Axis → Axis) : (s.modAxis a f).stack = s.stack := (rfl)
@[simp] theorem State.modAxis_sram (s : State) (a : Fin 4) (f : Axis → Axis) : (s.modAxis a f).sram = s.sram := (rfl)
@[simp] theorem State.modAxis_dma (s : State) (a : Fin 4) (f : Axis → Axis) : (s.modAxis a f).dma = s.dma := (rfl)
@[simp] theorem State.modAxis_pend (s : State) (a : Fin 4) (f : Axis → Axis) : (s.modAxis a f).pend = s.pend := (rfl)
@[simp] theorem State.modAxis_pending (s : State) (a : Fin 4) (f : Axis → Axis) : (s.modAxis a f).pending = s.pending := (rfl)
@[simp] theorem State.modAxis_draws (s : State) (a : Fin 4) (f : Axis → Axis) : (s.modAxis a f).draws = s.draws := (rfl)
@[simp] theorem State.modAxis_obj (s : State) (a : Fin 4) (f : Axis → Axis) (j : Key) : (s.modAxis a f).obj j = s.obj j := (rfl)
@[simp] theorem State.modAxis_bit (s : State) (a : Fin 4) (f : Axis → Axis) (j : Key) (m : Nat) : (s.modAxis a f).bit j m = s.bit j m := (rfl)
@[simp] theorem State.modAxis_domain (s : State) (a : Fin 4) (f : Axis → Axis) (j : Key) : (s.modAxis a f).domain j = s.domain j := (rfl)
@[simp] theorem State.modAxis_byte (s : State) (a : Fin 4) (f : Axis → Axis) (x : Nat) : (s.modAxis a f).byte x = s.byte x := (rfl)

/-! What `modHeater` leaves alone. -/
@[simp] theorem State.modHeater_variant (s : State) (h : Fin 4) (f : Heater → Heater) : (s.modHeater h f).variant = s.variant := (rfl)
@[simp] theorem State.modHeater_clk (s : State) (h : Fin 4) (f : Heater → Heater) : (s.modHeater h f).clk = s.clk := (rfl)
@[simp] theorem State.modHeater_sysTime (s : State) (h : Fin 4) (f : Heater → Heater) : (s.modHeater h f).sysTime = s.sysTime := (rfl)
@[simp] theorem State.modHeater_od (s : State) (h : Fin 4) (f : Heater → Heater) : (s.modHeater h f).od = s.od := (rfl)
@[simp] theorem State.modHeater_dom (s : State) (h : Fin 4) (f : Heater → Heater) : (s.modHeater h f).dom = s.dom := (rfl)
@[simp] theorem State.modHeater_mem (s : State) (h : Fin 4) (f : Heater → Heater) : (s.modHeater h f).mem = s.mem := (rfl)
@[simp] theorem State.modHeater_held (s : State) (h : Fin 4) (f : Heater → Heater) : (s.modHeater h f).held = s.held := (rfl)
@[simp] theorem State.modHeater_clocks (s : State) (h : Fin 4) (f : Heater → Heater) : (s.modHeater h f).clocks = s.clocks := (rfl)
@[simp] theorem State.modHeater_vbat (s : State) (h : Fin 4) (f : Heater → Heater) : (s.modHeater h f).vbat = s.vbat := (rfl)
@[simp] theorem State.modHeater_mram (s : State) (h : Fin 4) (f : Heater → Heater) : (s.modHeater h f).mram = s.mram := (rfl)
@[simp] theorem State.modHeater_slave (s : State) (h : Fin 4) (f : Heater → Heater) : (s.modHeater h f).slave = s.slave := (rfl)
@[simp] theorem State.modHeater_engine (s : State) (h : Fin 4) (f : Heater → Heater) : (s.modHeater h f).engine = s.engine := (rfl)
@[simp] theorem State.modHeater_health (s : State) (h : Fin 4) (f : Heater → Heater) : (s.modHeater h f).health = s.health := (rfl)
@[simp] theorem State.modHeater_position (s : State) (h : Fin 4) (f : Heater → Heater) : (s.modHeater h f).position = s.position := (rfl)
@[simp] theorem State.modHeater_sched (s : State) (h : Fin 4) (f : Heater → Heater) : (s.modHeater h f).sched = s.sched := (rfl)
@[simp] theorem State.modHeater_port (s : State) (h : Fin 4) (f : Heater → Heater) : (s.modHeater h f).port = s.port := (rfl)
@[simp] theorem State.modHeater_render (s : State) (h : Fin 4) (f : Heater → Heater) : (s.modHeater h f).render = s.render := (rfl)
@[simp] theorem State.modHeater_jigsaw (s : State) (h : Fin 4) (f : Heater → Heater) : (s.modHeater h f).jigsaw = s.jigsaw := (rfl)
@[simp] theorem State.modHeater_ingest (s : State) (h : Fin 4) (f : Heater → Heater) : (s.modHeater h f).ingest = s.ingest := (rfl)
@[simp] theorem State.modHeater_camera (s : State) (h : Fin 4) (f : Heater → Heater) : (s.modHeater h f).camera = s.camera := (rfl)
@[simp] theorem State.modHeater_kaleido (s : State) (h : Fin 4) (f : Heater → Heater) : (s.modHeater h f).kaleido = s.kaleido := (rfl)
@[simp] theorem State.modHeater_analyser (s : State) (h : Fin 4) (f : Heater → Heater) : (s.modHeater h f).analyser = s.analyser := (rfl)
@[simp] theorem State.modHeater_axis (s : State) (h : Fin 4) (f : Heater → Heater) : (s.modHeater h f).axis = s.axis := (rfl)
@[simp] theorem State.modHeater_stack (s : State) (h : Fin 4) (f : Heater → Heater) : (s.modHeater h f).stack = s.stack := (rfl)
@[simp] theorem State.modHeater_sram (s : State) (h : Fin 4) (f : Heater → Heater) : (s.modHeater h f).sram = s.sram := (rfl)
@[simp] theorem State.modHeater_dma (s : State) (h : Fin 4) (f : Heater → Heater) : (s.modHeater h f).dma = s.dma := (rfl)
@[simp] theorem State.modHeater_pend (s : State) (h : Fin 4) (f : Heater → Heater) : (s.modHeater h f).pend = s.pend := (rfl)
@[simp] theorem State.modHeater_pending (s : State) (h : Fin 4) (f : Heater → Heater) : (s.modHeater h f).pending = s.pending := (rfl)
@[simp] theorem State.modHeater_draws (s : State) (h : Fin 4) (f : Heater → Heater) : (s.modHeater h f).draws = s.draws := (rfl)
@[simp] theorem State.modHeater_obj (s : State) (h : Fin 4) (f : Heater → Heater) (j : Key) : (s.modHeater h f).obj j = s.obj j := (rfl)
@[simp] theorem State.modHeater_bit (s : State) (h : Fin 4) (f : Heater → Heater) (j : Key) (m : Nat) : (s.modHeater h f).bit j m = s.bit j m := (rfl)
@[simp] theorem State.modHeater_domain (s : State) (h : Fin 4) (f : Heater → Heater) (j : Key) : (s.modHeater h f).domain j = s.domain j := (rfl)
@[simp] theorem State.modHeater_byte (s : State) (h : Fin 4) (f : Heater → Heater) (x : Nat) : (s.modHeater h f).byte x = s.byte x := (rfl)

/-! What `modPosition` leaves alone. -/
@[simp] theorem State.modPosition_variant (s : State) (f : Position → Position) : (s.modPosition f).variant = s.variant := (rfl)
@[simp] theorem State.modPosition_clk (s : State) (f : Position → Position) : (s.modPosition f).clk = s.clk := (rfl)
@[simp] theorem State.modPosition_sysTime (s : State) (f : Position → Position) : (s.modPosition f).sysTime = s.sysTime := (rfl)
@[simp] theorem State.modPosition_od (s : State) (f : Position → Position) : (s.modPosition f).od = s.od := (rfl)
@[simp] theorem State.modPosition_dom (s : State) (f : Position → Position) : (s.modPosition f).dom = s.dom := (rfl)
@[simp] theorem State.modPosition_mem (s : State) (f : Position → Position) : (s.modPosition f).mem = s.mem := (rfl)
@[simp] theorem State.modPosition_held (s : State) (f : Position → Position) : (s.modPosition f).held = s.held := (rfl)
@[simp] theorem State.modPosition_clocks (s : State) (f : Position → Position) : (s.modPosition f).clocks = s.clocks := (rfl)
@[simp] theorem State.modPosition_vbat (s : State) (f : Position → Position) : (s.modPosition f).vbat = s.vbat := (rfl)
@[simp] theorem State.modPosition_mram (s : State) (f : Position → Position) : (s.modPosition f).mram = s.mram := (rfl)
@[simp] theorem State.modPosition_slave (s : State) (f : Position → Position) : (s.modPosition f).slave = s.slave := (rfl)
@[simp] theorem State.modPosition_engine (s : State) (f : Position → Position) : (s.modPosition f).engine = s.engine := (rfl)
@[simp] theorem State.modPosition_health (s : State) (f : Position → Position) : (s.modPosition f).health = s.health := (rfl)
@[simp] theorem State.modPosition_sched (s : State) (f : Position → Position) : (s.modPosition f).sched = s.sched := (rfl)
@[simp] theorem State.modPosition_port (s : State) (f : Position → Position) : (s.modPosition f).port = s.port := (rfl)
@[simp] theorem State.modPosition_heater (s : State) (f : Position → Position) : (s.modPosition f).heater = s.heater := (rfl)
@[simp] theorem State.modPosition_render (s : State) (f : Position → Position) : (s.modPosition f).render = s.render := (rfl)
@[simp] theorem State.modPosition_jigsaw (s : State) (f : Position → Position) : (s.modPosition f).jigsaw = s.jigsaw := (rfl)
@[simp] theorem State.modPosition_ingest (s : State) (f : Position → Position) : (s.modPosition f).ingest = s.ingest := (rfl)
@[simp] theorem State.modPosition_camera (s : State) (f : Position → Position) : (s.modPosition f).camera = s.camera := (rfl)
@[simp] theorem State.modPosition_kaleido (s : State) (f : Position → Position) : (s.modPosition f).kaleido = s.kaleido := (rfl)
@[simp] theorem State.modPosition_analyser (s : State) (f : Position → Position) : (s.modPosition f).analyser = s.analyser := (rfl)
@[simp] theorem State.modPosition_axis (s : State) (f : Position → Position) : (s.modPosition f).axis = s.axis := (rfl)
@[simp] theorem State.modPosition_stack (s : State) (f : Position → Position) : (s.modPosition f).stack = s.stack := (rfl)
@[simp] theorem State.modPosition_sram (s : State) (f : Position → Position) : (s.modPosition f).sram = s.sram := (rfl)
@[simp] theorem State.modPosition_dma (s : State) (f : Position → Position) : (s.modPosition f).dma = s.dma := (rfl)
@[simp] theorem State.modPosition_pend (s : State) (f : Position → Position) : (s.modPosition f).pend = s.pend := (rfl)
@[simp] theorem State.modPosition_pending (s : State) (f : Position → Position) : (s.modPosition f).pending = s.pending := (rfl)
@[simp] theorem State.modPosition_draws (s : State) (f : Position → Position) : (s.modPosition f).draws = s.draws := (rfl)
@[simp] theorem State.modPosition_obj (s : State) (f : Position → Position) (j : Key) : (s.modPosition f).obj j = s.obj j := (rfl)
@[simp] theorem State.modPosition_bit (s : State) (f : Position → Position) (j : Key) (m : Nat) : (s.modPosition f).bit j m = s.bit j m := (rfl)
@[simp] theorem State.modPosition_domain (s : State) (f : Position → Position) (j : Key) : (s.modPosition f).domain j = s.domain j := (rfl)
@[simp] theorem State.modPosition_byte (s : State) (f : Position → Position) (x : Nat) : (s.modPosition f).byte x = s.byte x := (rfl)
@[simp] theorem State.modPosition_position (s : State) (f : Position → Position) : (s.modPosition f).position = f s.position := (rfl)

/-! What `modSched` leaves alone. -/
@[simp] theorem State.modSched_variant (s : State) (f : Sched → Sched) : (s.modSched f).variant = s.variant := (rfl)
@[simp] theorem State.modSched_clk (s : State) (f : Sched → Sched) : (s.modSched f).clk = s.clk := (rfl)
@[simp] theorem State.modSched_sysTime (s : State) (f : Sched → Sched) : (s.modSched f).sysTime = s.sysTime := (rfl)
@[simp] theorem State.modSched_od (s : State) (f : Sched → Sched) : (s.modSched f).od = s.od := (rfl)
@[simp] theorem State.modSched_dom (s : State) (f : Sched → Sched) : (s.modSched f).dom = s.dom := (rfl)
@[simp] theorem State.modSched_mem (s : State) (f : Sched → Sched) : (s.modSched f).mem = s.mem := (rfl)
@[simp] theorem State.modSched_held (s : State) (f : Sched → Sched) : (s.modSched f).held = s.held := (rfl)
@[simp] theorem State.modSched_clocks (s : State) (f : Sched → Sched) : (s.modSched f).clocks = s.clocks := (rfl)
@[simp] theorem State.modSched_vbat (s : State) (f : Sched → Sched) : (s.modSched f).vbat = s.vbat := (rfl)
@[simp] theorem State.modSched_mram (s : State) (f : Sched → Sched) : (s.modSched f).mram = s.mram := (rfl)
@[simp] theorem State.modSched_slave (s : State) (f : Sched → Sched) : (s.modSched f).slave = s.slave := (rfl)
@[simp] theorem State.modSched_engine (s : State) (f : Sched → Sched) : (s.modSched f).engine = s.engine := (rfl)
@[simp] theorem State.modSched_health (s : State) (f : Sched → Sched) : (s.modSched f).health = s.health := (rfl)
@[simp] theorem State.modSched_position (s : State) (f : Sched → Sched) : (s.modSched f).position = s.position := (rfl)
@[simp] theorem State.modSched_port (s : State) (f : Sched → Sched) : (s.modSched f).port = s.port := (rfl)
@[simp] theorem State.modSched_heater (s : State) (f : Sched → Sched) : (s.modSched f).heater = s.heater := (rfl)
@[simp] theorem State.modSched_render (s : State) (f : Sched → Sched) : (s.modSched f).render = s.render := (rfl)
@[simp] theorem State.modSched_jigsaw (s : State) (f : Sched → Sched) : (s.modSched f).jigsaw = s.jigsaw := (rfl)
@[simp] theorem State.modSched_ingest (s : State) (f : Sched → Sched) : (s.modSched f).ingest = s.ingest := (rfl)
@[simp] theorem State.modSched_camera (s : State) (f : Sched → Sched) : (s.modSched f).camera = s.camera := (rfl)
@[simp] theorem State.modSched_kaleido (s : State) (f : Sched → Sched) : (s.modSched f).kaleido = s.kaleido := (rfl)
@[simp] theorem State.modSched_analyser (s : State) (f : Sched → Sched) : (s.modSched f).analyser = s.analyser := (rfl)
@[simp] theorem State.modSched_axis (s : State) (f : Sched → Sched) : (s.modSched f).axis = s.axis := (rfl)
@[simp] theorem State.modSched_stack (s : State) (f : Sched → Sched) : (s.modSched f).stack = s.stack := (rfl)
@[simp] theorem State.modSched_sram (s : State) (f : Sched → Sched) : (s.modSched f).sram = s.sram := (rfl)
@[simp] theorem State.modSched_dma (s : State) (f : Sched → Sched) : (s.modSched f).dma = s.dma := (rfl)
@[simp] theorem State.modSched_pend (s : State) (f : Sched → Sched) : (s.modSched f).pend = s.pend := (rfl)
@[simp] theorem State.modSched_pending (s : State) (f : Sched → Sched) : (s.modSched f).pending = s.pending := (rfl)
@[simp] theorem State.modSched_draws (s : State) (f : Sched → Sched) : (s.modSched f).draws = s.draws := (rfl)
@[simp] theorem State.modSched_obj (s : State) (f : Sched → Sched) (j : Key) : (s.modSched f).obj j = s.obj j := (rfl)
@[simp] theorem State.modSched_bit (s : State) (f : Sched → Sched) (j : Key) (m : Nat) : (s.modSched f).bit j m = s.bit j m := (rfl)
@[simp] theorem State.modSched_domain (s : State) (f : Sched → Sched) (j : Key) : (s.modSched f).domain j = s.domain j := (rfl)
@[simp] theorem State.modSched_byte (s : State) (f : Sched → Sched) (x : Nat) : (s.modSched f).byte x = s.byte x := (rfl)
@[simp] theorem State.modSched_sched (s : State) (f : Sched → Sched) : (s.modSched f).sched = f s.sched := (rfl)

/-! What `modEngine` leaves alone. -/
@[simp] theorem State.modEngine_variant (s : State) (f : Engine → Engine) : (s.modEngine f).variant = s.variant := (rfl)
@[simp] theorem State.modEngine_clk (s : State) (f : Engine → Engine) : (s.modEngine f).clk = s.clk := (rfl)
@[simp] theorem State.modEngine_sysTime (s : State) (f : Engine → Engine) : (s.modEngine f).sysTime = s.sysTime := (rfl)
@[simp] theorem State.modEngine_od (s : State) (f : Engine → Engine) : (s.modEngine f).od = s.od := (rfl)
@[simp] theorem State.modEngine_dom (s : State) (f : Engine → Engine) : (s.modEngine f).dom = s.dom := (rfl)
@[simp] theorem State.modEngine_mem (s : State) (f : Engine → Engine) : (s.modEngine f).mem = s.mem := (rfl)
@[simp] theorem State.modEngine_held (s : State) (f : Engine → Engine) : (s.modEngine f).held = s.held := (rfl)
@[simp] theorem State.modEngine_clocks (s : State) (f : Engine → Engine) : (s.modEngine f).clocks = s.clocks := (rfl)
@[simp] theorem State.modEngine_vbat (s : State) (f : Engine → Engine) : (s.modEngine f).vbat = s.vbat := (rfl)
@[simp] theorem State.modEngine_mram (s : State) (f : Engine → Engine) : (s.modEngine f).mram = s.mram := (rfl)
@[simp] theorem State.modEngine_slave (s : State) (f : Engine → Engine) : (s.modEngine f).slave = s.slave := (rfl)
@[simp] theorem State.modEngine_health (s : State) (f : Engine → Engine) : (s.modEngine f).health = s.health := (rfl)
@[simp] theorem State.modEngine_position (s : State) (f : Engine → Engine) : (s.modEngine f).position = s.position := (rfl)
@[simp] theorem State.modEngine_sched (s : State) (f : Engine → Engine) : (s.modEngine f).sched = s.sched := (rfl)
@[simp] theorem State.modEngine_port (s : State) (f : Engine → Engine) : (s.modEngine f).port = s.port := (rfl)
@[simp] theorem State.modEngine_heater (s : State) (f : Engine → Engine) : (s.modEngine f).heater = s.heater := (rfl)
@[simp] theorem State.modEngine_render (s : State) (f : Engine → Engine) : (s.modEngine f).render = s.render := (rfl)
@[simp] theorem State.modEngine_jigsaw (s : State) (f : Engine → Engine) : (s.modEngine f).jigsaw = s.jigsaw := (rfl)
@[simp] theorem State.modEngine_ingest (s : State) (f : Engine → Engine) : (s.modEngine f).ingest = s.ingest := (rfl)
@[simp] theorem State.modEngine_camera (s : State) (f : Engine → Engine) : (s.modEngine f).camera = s.camera := (rfl)
@[simp] theorem State.modEngine_kaleido (s : State) (f : Engine → Engine) : (s.modEngine f).kaleido = s.kaleido := (rfl)
@[simp] theorem State.modEngine_analyser (s : State) (f : Engine → Engine) : (s.modEngine f).analyser = s.analyser := (rfl)
@[simp] theorem State.modEngine_axis (s : State) (f : Engine → Engine) : (s.modEngine f).axis = s.axis := (rfl)
@[simp] theorem State.modEngine_stack (s : State) (f : Engine → Engine) : (s.modEngine f).stack = s.stack := (rfl)
@[simp] theorem State.modEngine_sram (s : State) (f : Engine → Engine) : (s.modEngine f).sram = s.sram := (rfl)
@[simp] theorem State.modEngine_dma (s : State) (f : Engine → Engine) : (s.modEngine f).dma = s.dma := (rfl)
@[simp] theorem State.modEngine_pend (s : State) (f : Engine → Engine) : (s.modEngine f).pend = s.pend := (rfl)
@[simp] theorem State.modEngine_pending (s : State) (f : Engine → Engine) : (s.modEngine f).pending = s.pending := (rfl)
@[simp] theorem State.modEngine_draws (s : State) (f : Engine → Engine) : (s.modEngine f).draws = s.draws := (rfl)
@[simp] theorem State.modEngine_obj (s : State) (f : Engine → Engine) (j : Key) : (s.modEngine f).obj j = s.obj j := (rfl)
@[simp] theorem State.modEngine_bit (s : State) (f : Engine → Engine) (j : Key) (m : Nat) : (s.modEngine f).bit j m = s.bit j m := (rfl)
@[simp] theorem State.modEngine_domain (s : State) (f : Engine → Engine) (j : Key) : (s.modEngine f).domain j = s.domain j := (rfl)
@[simp] theorem State.modEngine_byte (s : State) (f : Engine → Engine) (x : Nat) : (s.modEngine f).byte x = s.byte x := (rfl)
@[simp] theorem State.modEngine_engine (s : State) (f : Engine → Engine) : (s.modEngine f).engine = f s.engine := (rfl)

/-! What `modSlave` leaves alone. -/
@[simp] theorem State.modSlave_variant (s : State) (f : Slave → Slave) : (s.modSlave f).variant = s.variant := (rfl)
@[simp] theorem State.modSlave_clk (s : State) (f : Slave → Slave) : (s.modSlave f).clk = s.clk := (rfl)
@[simp] theorem State.modSlave_sysTime (s : State) (f : Slave → Slave) : (s.modSlave f).sysTime = s.sysTime := (rfl)
@[simp] theorem State.modSlave_od (s : State) (f : Slave → Slave) : (s.modSlave f).od = s.od := (rfl)
@[simp] theorem State.modSlave_dom (s : State) (f : Slave → Slave) : (s.modSlave f).dom = s.dom := (rfl)
@[simp] theorem State.modSlave_mem (s : State) (f : Slave → Slave) : (s.modSlave f).mem = s.mem := (rfl)
@[simp] theorem State.modSlave_held (s : State) (f : Slave → Slave) : (s.modSlave f).held = s.held := (rfl)
@[simp] theorem State.modSlave_clocks (s : State) (f : Slave → Slave) : (s.modSlave f).clocks = s.clocks := (rfl)
@[simp] theorem State.modSlave_vbat (s : State) (f : Slave → Slave) : (s.modSlave f).vbat = s.vbat := (rfl)
@[simp] theorem State.modSlave_mram (s : State) (f : Slave → Slave) : (s.modSlave f).mram = s.mram := (rfl)
@[simp] theorem State.modSlave_engine (s : State) (f : Slave → Slave) : (s.modSlave f).engine = s.engine := (rfl)
@[simp] theorem State.modSlave_health (s : State) (f : Slave → Slave) : (s.modSlave f).health = s.health := (rfl)
@[simp] theorem State.modSlave_position (s : State) (f : Slave → Slave) : (s.modSlave f).position = s.position := (rfl)
@[simp] theorem State.modSlave_sched (s : State) (f : Slave → Slave) : (s.modSlave f).sched = s.sched := (rfl)
@[simp] theorem State.modSlave_port (s : State) (f : Slave → Slave) : (s.modSlave f).port = s.port := (rfl)
@[simp] theorem State.modSlave_heater (s : State) (f : Slave → Slave) : (s.modSlave f).heater = s.heater := (rfl)
@[simp] theorem State.modSlave_render (s : State) (f : Slave → Slave) : (s.modSlave f).render = s.render := (rfl)
@[simp] theorem State.modSlave_jigsaw (s : State) (f : Slave → Slave) : (s.modSlave f).jigsaw = s.jigsaw := (rfl)
@[simp] theorem State.modSlave_ingest (s : State) (f : Slave → Slave) : (s.modSlave f).ingest = s.ingest := (rfl)
@[simp] theorem State.modSlave_camera (s : State) (f : Slave → Slave) : (s.modSlave f).camera = s.camera := (rfl)
@[simp] theorem State.modSlave_kaleido (s : State) (f : Slave → Slave) : (s.modSlave f).kaleido = s.kaleido := (rfl)
@[simp] theorem State.modSlave_analyser (s : State) (f : Slave → Slave) : (s.modSlave f).analyser = s.analyser := (rfl)
@[simp] theorem State.modSlave_axis (s : State) (f : Slave → Slave) : (s.modSlave f).axis = s.axis := (rfl)
@[simp] theorem State.modSlave_stack (s : State) (f : Slave → Slave) : (s.modSlave f).stack = s.stack := (rfl)
@[simp] theorem State.modSlave_sram (s : State) (f : Slave → Slave) : (s.modSlave f).sram = s.sram := (rfl)
@[simp] theorem State.modSlave_dma (s : State) (f : Slave → Slave) : (s.modSlave f).dma = s.dma := (rfl)
@[simp] theorem State.modSlave_pend (s : State) (f : Slave → Slave) : (s.modSlave f).pend = s.pend := (rfl)
@[simp] theorem State.modSlave_pending (s : State) (f : Slave → Slave) : (s.modSlave f).pending = s.pending := (rfl)
@[simp] theorem State.modSlave_draws (s : State) (f : Slave → Slave) : (s.modSlave f).draws = s.draws := (rfl)
@[simp] theorem State.modSlave_obj (s : State) (f : Slave → Slave) (j : Key) : (s.modSlave f).obj j = s.obj j := (rfl)
@[simp] theorem State.modSlave_bit (s : State) (f : Slave → Slave) (j : Key) (m : Nat) : (s.modSlave f).bit j m = s.bit j m := (rfl)
@[simp] theorem State.modSlave_domain (s : State) (f : Slave → Slave) (j : Key) : (s.modSlave f).domain j = s.domain j := (rfl)
@[simp] theorem State.modSlave_byte (s : State) (f : Slave → Slave) (x : Nat) : (s.modSlave f).byte x = s.byte x := (rfl)
@[simp] theorem State.modSlave_slave (s : State) (f : Slave → Slave) : (s.modSlave f).slave = f s.slave := (rfl)

/-! What `modHealth` leaves alone. -/
@[simp] theorem State.modHealth_variant (s : State) (f : Health → Health) : (s.modHealth f).variant = s.variant := (rfl)
@[simp] theorem State.modHealth_clk (s : State) (f : Health → Health) : (s.modHealth f).clk = s.clk := (rfl)
@[simp] theorem State.modHealth_sysTime (s : State) (f : Health → Health) : (s.modHealth f).sysTime = s.sysTime := (rfl)
@[simp] theorem State.modHealth_od (s : State) (f : Health → Health) : (s.modHealth f).od = s.od := (rfl)
@[simp] theorem State.modHealth_dom (s : State) (f : Health → Health) : (s.modHealth f).dom = s.dom := (rfl)
@[simp] theorem State.modHealth_mem (s : State) (f : Health → Health) : (s.modHealth f).mem = s.mem := (rfl)
@[simp] theorem State.modHealth_held (s : State) (f : Health → Health) : (s.modHealth f).held = s.held := (rfl)
@[simp] theorem State.modHealth_clocks (s : State) (f : Health → Health) : (s.modHealth f).clocks = s.clocks := (rfl)
@[simp] theorem State.modHealth_vbat (s : State) (f : Health → Health) : (s.modHealth f).vbat = s.vbat := (rfl)
@[simp] theorem State.modHealth_mram (s : State) (f : Health → Health) : (s.modHealth f).mram = s.mram := (rfl)
@[simp] theorem State.modHealth_slave (s : State) (f : Health → Health) : (s.modHealth f).slave = s.slave := (rfl)
@[simp] theorem State.modHealth_engine (s : State) (f : Health → Health) : (s.modHealth f).engine = s.engine := (rfl)
@[simp] theorem State.modHealth_position (s : State) (f : Health → Health) : (s.modHealth f).position = s.position := (rfl)
@[simp] theorem State.modHealth_sched (s : State) (f : Health → Health) : (s.modHealth f).sched = s.sched := (rfl)
@[simp] theorem State.modHealth_port (s : State) (f : Health → Health) : (s.modHealth f).port = s.port := (rfl)
@[simp] theorem State.modHealth_heater (s : State) (f : Health → Health) : (s.modHealth f).heater = s.heater := (rfl)
@[simp] theorem State.modHealth_render (s : State) (f : Health → Health) : (s.modHealth f).render = s.render := (rfl)
@[simp] theorem State.modHealth_jigsaw (s : State) (f : Health → Health) : (s.modHealth f).jigsaw = s.jigsaw := (rfl)
@[simp] theorem State.modHealth_ingest (s : State) (f : Health → Health) : (s.modHealth f).ingest = s.ingest := (rfl)
@[simp] theorem State.modHealth_camera (s : State) (f : Health → Health) : (s.modHealth f).camera = s.camera := (rfl)
@[simp] theorem State.modHealth_kaleido (s : State) (f : Health → Health) : (s.modHealth f).kaleido = s.kaleido := (rfl)
@[simp] theorem State.modHealth_analyser (s : State) (f : Health → Health) : (s.modHealth f).analyser = s.analyser := (rfl)
@[simp] theorem State.modHealth_axis (s : State) (f : Health → Health) : (s.modHealth f).axis = s.axis := (rfl)
@[simp] theorem State.modHealth_stack (s : State) (f : Health → Health) : (s.modHealth f).stack = s.stack := (rfl)
@[simp] theorem State.modHealth_sram (s : State) (f : Health → Health) : (s.modHealth f).sram = s.sram := (rfl)
@[simp] theorem State.modHealth_dma (s : State) (f : Health → Health) : (s.modHealth f).dma = s.dma := (rfl)
@[simp] theorem State.modHealth_pend (s : State) (f : Health → Health) : (s.modHealth f).pend = s.pend := (rfl)
@[simp] theorem State.modHealth_pending (s : State) (f : Health → Health) : (s.modHealth f).pending = s.pending := (rfl)
@[simp] theorem State.modHealth_draws (s : State) (f : Health → Health) : (s.modHealth f).draws = s.draws := (rfl)
@[simp] theorem State.modHealth_obj (s : State) (f : Health → Health) (j : Key) : (s.modHealth f).obj j = s.obj j := (rfl)
@[simp] theorem State.modHealth_bit (s : State) (f : Health → Health) (j : Key) (m : Nat) : (s.modHealth f).bit j m = s.bit j m := (rfl)
@[simp] theorem State.modHealth_domain (s : State) (f : Health → Health) (j : Key) : (s.modHealth f).domain j = s.domain j := (rfl)
@[simp] theorem State.modHealth_byte (s : State) (f : Health → Health) (x : Nat) : (s.modHealth f).byte x = s.byte x := (rfl)
@[simp] theorem State.modHealth_health (s : State) (f : Health → Health) : (s.modHealth f).health = f s.health := (rfl)

/-! What `modIngest` leaves alone. -/
@[simp] theorem State.modIngest_variant (s : State) (f : Ingest → Ingest) : (s.modIngest f).variant = s.variant := (rfl)
@[simp] theorem State.modIngest_clk (s : State) (f : Ingest → Ingest) : (s.modIngest f).clk = s.clk := (rfl)
@[simp] theorem State.modIngest_sysTime (s : State) (f : Ingest → Ingest) : (s.modIngest f).sysTime = s.sysTime := (rfl)
@[simp] theorem State.modIngest_od (s : State) (f : Ingest → Ingest) : (s.modIngest f).od = s.od := (rfl)
@[simp] theorem State.modIngest_dom (s : State) (f : Ingest → Ingest) : (s.modIngest f).dom = s.dom := (rfl)
@[simp] theorem State.modIngest_mem (s : State) (f : Ingest → Ingest) : (s.modIngest f).mem = s.mem := (rfl)
@[simp] theorem State.modIngest_held (s : State) (f : Ingest → Ingest) : (s.modIngest f).held = s.held := (rfl)
@[simp] theorem State.modIngest_clocks (s : State) (f : Ingest → Ingest) : (s.modIngest f).clocks = s.clocks := (rfl)
@[simp] theorem State.modIngest_vbat (s : State) (f : Ingest → Ingest) : (s.modIngest f).vbat = s.vbat := (rfl)
@[simp] theorem State.modIngest_mram (s : State) (f : Ingest → Ingest) : (s.modIngest f).mram = s.mram := (rfl)
@[simp] theorem State.modIngest_slave (s : State) (f : Ingest → Ingest) : (s.modIngest f).slave = s.slave := (rfl)
@[simp] theorem State.modIngest_engine (s : State) (f : Ingest → Ingest) : (s.modIngest f).engine = s.engine := (rfl)
@[simp] theorem State.modIngest_health (s : State) (f : Ingest → Ingest) : (s.modIngest f).health = s.health := (rfl)
@[simp] theorem State.modIngest_position (s : State) (f : Ingest → Ingest) : (s.modIngest f).position = s.position := (rfl)
@[simp] theorem State.modIngest_sched (s : State) (f : Ingest → Ingest) : (s.modIngest f).sched = s.sched := (rfl)
@[simp] theorem State.modIngest_port (s : State) (f : Ingest → Ingest) : (s.modIngest f).port = s.port := (rfl)
@[simp] theorem State.modIngest_heater (s : State) (f : Ingest → Ingest) : (s.modIngest f).heater = s.heater := (rfl)
@[simp] theorem State.modIngest_render (s : State) (f : Ingest → Ingest) : (s.modIngest f).render = s.render := (rfl)
@[simp] theorem State.modIngest_jigsaw (s : State) (f : Ingest → Ingest) : (s.modIngest f).jigsaw = s.jigsaw := (rfl)
@[simp] theorem State.modIngest_camera (s : State) (f : Ingest → Ingest) : (s.modIngest f).camera = s.camera := (rfl)
@[simp] theorem State.modIngest_kaleido (s : State) (f : Ingest → Ingest) : (s.modIngest f).kaleido = s.kaleido := (rfl)
@[simp] theorem State.modIngest_analyser (s : State) (f : Ingest → Ingest) : (s.modIngest f).analyser = s.analyser := (rfl)
@[simp] theorem State.modIngest_axis (s : State) (f : Ingest → Ingest) : (s.modIngest f).axis = s.axis := (rfl)
@[simp] theorem State.modIngest_stack (s : State) (f : Ingest → Ingest) : (s.modIngest f).stack = s.stack := (rfl)
@[simp] theorem State.modIngest_sram (s : State) (f : Ingest → Ingest) : (s.modIngest f).sram = s.sram := (rfl)
@[simp] theorem State.modIngest_dma (s : State) (f : Ingest → Ingest) : (s.modIngest f).dma = s.dma := (rfl)
@[simp] theorem State.modIngest_pend (s : State) (f : Ingest → Ingest) : (s.modIngest f).pend = s.pend := (rfl)
@[simp] theorem State.modIngest_pending (s : State) (f : Ingest → Ingest) : (s.modIngest f).pending = s.pending := (rfl)
@[simp] theorem State.modIngest_draws (s : State) (f : Ingest → Ingest) : (s.modIngest f).draws = s.draws := (rfl)
@[simp] theorem State.modIngest_obj (s : State) (f : Ingest → Ingest) (j : Key) : (s.modIngest f).obj j = s.obj j := (rfl)
@[simp] theorem State.modIngest_bit (s : State) (f : Ingest → Ingest) (j : Key) (m : Nat) : (s.modIngest f).bit j m = s.bit j m := (rfl)
@[simp] theorem State.modIngest_domain (s : State) (f : Ingest → Ingest) (j : Key) : (s.modIngest f).domain j = s.domain j := (rfl)
@[simp] theorem State.modIngest_byte (s : State) (f : Ingest → Ingest) (x : Nat) : (s.modIngest f).byte x = s.byte x := (rfl)
@[simp] theorem State.modIngest_ingest (s : State) (f : Ingest → Ingest) : (s.modIngest f).ingest = f s.ingest := (rfl)

/-! What `modRender` leaves alone. -/
@[simp] theorem State.modRender_variant (s : State) (f : Render → Render) : (s.modRender f).variant = s.variant := (rfl)
@[simp] theorem State.modRender_clk (s : State) (f : Render → Render) : (s.modRender f).clk = s.clk := (rfl)
@[simp] theorem State.modRender_sysTime (s : State) (f : Render → Render) : (s.modRender f).sysTime = s.sysTime := (rfl)
@[simp] theorem State.modRender_od (s : State) (f : Render → Render) : (s.modRender f).od = s.od := (rfl)
@[simp] theorem State.modRender_dom (s : State) (f : Render → Render) : (s.modRender f).dom = s.dom := (rfl)
@[simp] theorem State.modRender_mem (s : State) (f : Render → Render) : (s.modRender f).mem = s.mem := (rfl)
@[simp] theorem State.modRender_held (s : State) (f : Render → Render) : (s.modRender f).held = s.held := (rfl)
@[simp] theorem State.modRender_clocks (s : State) (f : Render → Render) : (s.modRender f).clocks = s.clocks := (rfl)
@[simp] theorem State.modRender_vbat (s : State) (f : Render → Render) : (s.modRender f).vbat = s.vbat := (rfl)
@[simp] theorem State.modRender_mram (s : State) (f : Render → Render) : (s.modRender f).mram = s.mram := (rfl)
@[simp] theorem State.modRender_slave (s : State) (f : Render → Render) : (s.modRender f).slave = s.slave := (rfl)
@[simp] theorem State.modRender_engine (s : State) (f : Render → Render) : (s.modRender f).engine = s.engine := (rfl)
@[simp] theorem State.modRender_health (s : State) (f : Render → Render) : (s.modRender f).health = s.health := (rfl)
@[simp] theorem State.modRender_position (s : State) (f : Render → Render) : (s.modRender f).position = s.position := (rfl)
@[simp] theorem State.modRender_sched (s : State) (f : Render → Render) : (s.modRender f).sched = s.sched := (rfl)
@[simp] theorem State.modRender_port (s : State) (f : Render → Render) : (s.modRender f).port = s.port := (rfl)
@[simp] theorem State.modRender_heater (s : State) (f : Render → Render) : (s.modRender f).heater = s.heater := (rfl)
@[simp] theorem State.modRender_jigsaw (s : State) (f : Render → Render) : (s.modRender f).jigsaw = s.jigsaw := (rfl)
@[simp] theorem State.modRender_ingest (s : State) (f : Render → Render) : (s.modRender f).ingest = s.ingest := (rfl)
@[simp] theorem State.modRender_camera (s : State) (f : Render → Render) : (s.modRender f).camera = s.camera := (rfl)
@[simp] theorem State.modRender_kaleido (s : State) (f : Render → Render) : (s.modRender f).kaleido = s.kaleido := (rfl)
@[simp] theorem State.modRender_analyser (s : State) (f : Render → Render) : (s.modRender f).analyser = s.analyser := (rfl)
@[simp] theorem State.modRender_axis (s : State) (f : Render → Render) : (s.modRender f).axis = s.axis := (rfl)
@[simp] theorem State.modRender_stack (s : State) (f : Render → Render) : (s.modRender f).stack = s.stack := (rfl)
@[simp] theorem State.modRender_sram (s : State) (f : Render → Render) : (s.modRender f).sram = s.sram := (rfl)
@[simp] theorem State.modRender_dma (s : State) (f : Render → Render) : (s.modRender f).dma = s.dma := (rfl)
@[simp] theorem State.modRender_pend (s : State) (f : Render → Render) : (s.modRender f).pend = s.pend := (rfl)
@[simp] theorem State.modRender_pending (s : State) (f : Render → Render) : (s.modRender f).pending = s.pending := (rfl)
@[simp] theorem State.modRender_draws (s : State) (f : Render → Render) : (s.modRender f).draws = s.draws := (rfl)
@[simp] theorem State.modRender_obj (s : State) (f : Render → Render) (j : Key) : (s.modRender f).obj j = s.obj j := (rfl)
@[simp] theorem State.modRender_bit (s : State) (f : Render → Render) (j : Key) (m : Nat) : (s.modRender f).bit j m = s.bit j m := (rfl)
@[simp] theorem State.modRender_domain (s : State) (f : Render → Render) (j : Key) : (s.modRender f).domain j = s.domain j := (rfl)
@[simp] theorem State.modRender_byte (s : State) (f : Render → Render) (x : Nat) : (s.modRender f).byte x = s.byte x := (rfl)
@[simp] theorem State.modRender_render (s : State) (f : Render → Render) : (s.modRender f).render = f s.render := (rfl)

/-! What `modKaleido` leaves alone. -/
@[simp] theorem State.modKaleido_variant (s : State) (f : Kaleido → Kaleido) : (s.modKaleido f).variant = s.variant := (rfl)
@[simp] theorem State.modKaleido_clk (s : State) (f : Kaleido → Kaleido) : (s.modKaleido f).clk = s.clk := (rfl)
@[simp] theorem State.modKaleido_sysTime (s : State) (f : Kaleido → Kaleido) : (s.modKaleido f).sysTime = s.sysTime := (rfl)
@[simp] theorem State.modKaleido_od (s : State) (f : Kaleido → Kaleido) : (s.modKaleido f).od = s.od := (rfl)
@[simp] theorem State.modKaleido_dom (s : State) (f : Kaleido → Kaleido) : (s.modKaleido f).dom = s.dom := (rfl)
@[simp] theorem State.modKaleido_mem (s : State) (f : Kaleido → Kaleido) : (s.modKaleido f).mem = s.mem := (rfl)
@[simp] theorem State.modKaleido_held (s : State) (f : Kaleido → Kaleido) : (s.modKaleido f).held = s.held := (rfl)
@[simp] theorem State.modKaleido_clocks (s : State) (f : Kaleido → Kaleido) : (s.modKaleido f).clocks = s.clocks := (rfl)
@[simp] theorem State.modKaleido_vbat (s : State) (f : Kaleido → Kaleido) : (s.modKaleido f).vbat = s.vbat := (rfl)
@[simp] theorem State.modKaleido_mram (s : State) (f : Kaleido → Kaleido) : (s.modKaleido f).mram = s.mram := (rfl)
@[simp] theorem State.modKaleido_slave (s : State) (f : Kaleido → Kaleido) : (s.modKaleido f).slave = s.slave := (rfl)
@[simp] theorem State.modKaleido_engine (s : State) (f : Kaleido → Kaleido) : (s.modKaleido f).engine = s.engine := (rfl)
@[simp] theorem State.modKaleido_health (s : State) (f : Kaleido → Kaleido) : (s.modKaleido f).health = s.health := (rfl)
@[simp] theorem State.modKaleido_position (s : State) (f : Kaleido → Kaleido) : (s.modKaleido f).position = s.position := (rfl)
@[simp] theorem State.modKaleido_sched (s : State) (f : Kaleido → Kaleido) : (s.modKaleido f).sched = s.sched := (rfl)
@[simp] theorem State.modKaleido_port (s : State) (f : Kaleido → Kaleido) : (s.modKaleido f).port = s.port := (rfl)
@[simp] theorem State.modKaleido_heater (s : State) (f : Kaleido → Kaleido) : (s.modKaleido f).heater = s.heater := (rfl)
@[simp] theorem State.modKaleido_render (s : State) (f : Kaleido → Kaleido) : (s.modKaleido f).render = s.render := (rfl)
@[simp] theorem State.modKaleido_jigsaw (s : State) (f : Kaleido → Kaleido) : (s.modKaleido f).jigsaw = s.jigsaw := (rfl)
@[simp] theorem State.modKaleido_ingest (s : State) (f : Kaleido → Kaleido) : (s.modKaleido f).ingest = s.ingest := (rfl)
@[simp] theorem State.modKaleido_camera (s : State) (f : Kaleido → Kaleido) : (s.modKaleido f).camera = s.camera := (rfl)
@[simp] theorem State.modKaleido_analyser (s : State) (f : Kaleido → Kaleido) : (s.modKaleido f).analyser = s.analyser := (rfl)
@[simp] theorem State.modKaleido_axis (s : State) (f : Kaleido → Kaleido) : (s.modKaleido f).axis = s.axis := (rfl)
@[simp] theorem State.modKaleido_stack (s : State) (f : Kaleido → Kaleido) : (s.modKaleido f).stack = s.stack := (rfl)
@[simp] theorem State.modKaleido_sram (s : State) (f : Kaleido → Kaleido) : (s.modKaleido f).sram = s.sram := (rfl)
@[simp] theorem State.modKaleido_dma (s : State) (f : Kaleido → Kaleido) : (s.modKaleido f).dma = s.dma := (rfl)
@[simp] theorem State.modKaleido_pend (s : State) (f : Kaleido → Kaleido) : (s.modKaleido f).pend = s.pend := (rfl)
@[simp] theorem State.modKaleido_pending (s : State) (f : Kaleido → Kaleido) : (s.modKaleido f).pending = s.pending := (rfl)
@[simp] theorem State.modKaleido_draws (s : State) (f : Kaleido → Kaleido) : (s.modKaleido f).draws = s.draws := (rfl)
@[simp] theorem State.modKaleido_obj (s : State) (f : Kaleido → Kaleido) (j : Key) : (s.modKaleido f).obj j = s.obj j := (rfl)
@[simp] theorem State.modKaleido_bit (s : State) (f : Kaleido → Kaleido) (j : Key) (m : Nat) : (s.modKaleido f).bit j m = s.bit j m := (rfl)
@[simp] theorem State.modKaleido_domain (s : State) (f : Kaleido → Kaleido) (j : Key) : (s.modKaleido f).domain j = s.domain j := (rfl)
@[simp] theorem State.modKaleido_byte (s : State) (f : Kaleido → Kaleido) (x : Nat) : (s.modKaleido f).byte x = s.byte x := (rfl)
@[simp] theorem State.modKaleido_kaleido (s : State) (f : Kaleido → Kaleido) : (s.modKaleido f).kaleido = f s.kaleido := (rfl)

/-! What `modAnalyser` leaves alone. -/
@[simp] theorem State.modAnalyser_variant (s : State) (f : Analyser → Analyser) : (s.modAnalyser f).variant = s.variant := (rfl)
@[simp] theorem State.modAnalyser_clk (s : State) (f : Analyser → Analyser) : (s.modAnalyser f).clk = s.clk := (rfl)
@[simp] theorem State.modAnalyser_sysTime (s : State) (f : Analyser → Analyser) : (s.modAnalyser f).sysTime = s.sysTime := (rfl)
@[simp] theorem State.modAnalyser_od (s : State) (f : Analyser → Analyser) : (s.modAnalyser f).od = s.od := (rfl)
@[simp] theorem State.modAnalyser_dom (s : State) (f : Analyser → Analyser) : (s.modAnalyser f).dom = s.dom := (rfl)
@[simp] theorem State.modAnalyser_mem (s : State) (f : Analyser → Analyser) : (s.modAnalyser f).mem = s.mem := (rfl)
@[simp] theorem State.modAnalyser_held (s : State) (f : Analyser → Analyser) : (s.modAnalyser f).held = s.held := (rfl)
@[simp] theorem State.modAnalyser_clocks (s : State) (f : Analyser → Analyser) : (s.modAnalyser f).clocks = s.clocks := (rfl)
@[simp] theorem State.modAnalyser_vbat (s : State) (f : Analyser → Analyser) : (s.modAnalyser f).vbat = s.vbat := (rfl)
@[simp] theorem State.modAnalyser_mram (s : State) (f : Analyser → Analyser) : (s.modAnalyser f).mram = s.mram := (rfl)
@[simp] theorem State.modAnalyser_slave (s : State) (f : Analyser → Analyser) : (s.modAnalyser f).slave = s.slave := (rfl)
@[simp] theorem State.modAnalyser_engine (s : State) (f : Analyser → Analyser) : (s.modAnalyser f).engine = s.engine := (rfl)
@[simp] theorem State.modAnalyser_health (s : State) (f : Analyser → Analyser) : (s.modAnalyser f).health = s.health := (rfl)
@[simp] theorem State.modAnalyser_position (s : State) (f : Analyser → Analyser) : (s.modAnalyser f).position = s.position := (rfl)
@[simp] theorem State.modAnalyser_sched (s : State) (f : Analyser → Analyser) : (s.modAnalyser f).sched = s.sched := (rfl)
@[simp] theorem State.modAnalyser_port (s : State) (f : Analyser → Analyser) : (s.modAnalyser f).port = s.port := (rfl)
@[simp] theorem State.modAnalyser_heater (s : State) (f : Analyser → Analyser) : (s.modAnalyser f).heater = s.heater := (rfl)
@[simp] theorem State.modAnalyser_render (s : State) (f : Analyser → Analyser) : (s.modAnalyser f).render = s.render := (rfl)
@[simp] theorem State.modAnalyser_jigsaw (s : State) (f : Analyser → Analyser) : (s.modAnalyser f).jigsaw = s.jigsaw := (rfl)
@[simp] theorem State.modAnalyser_ingest (s : State) (f : Analyser → Analyser) : (s.modAnalyser f).ingest = s.ingest := (rfl)
@[simp] theorem State.modAnalyser_camera (s : State) (f : Analyser → Analyser) : (s.modAnalyser f).camera = s.camera := (rfl)
@[simp] theorem State.modAnalyser_kaleido (s : State) (f : Analyser → Analyser) : (s.modAnalyser f).kaleido = s.kaleido := (rfl)
@[simp] theorem State.modAnalyser_axis (s : State) (f : Analyser → Analyser) : (s.modAnalyser f).axis = s.axis := (rfl)
@[simp] theorem State.modAnalyser_stack (s : State) (f : Analyser → Analyser) : (s.modAnalyser f).stack = s.stack := (rfl)
@[simp] theorem State.modAnalyser_sram (s : State) (f : Analyser → Analyser) : (s.modAnalyser f).sram = s.sram := (rfl)
@[simp] theorem State.modAnalyser_dma (s : State) (f : Analyser → Analyser) : (s.modAnalyser f).dma = s.dma := (rfl)
@[simp] theorem State.modAnalyser_pend (s : State) (f : Analyser → Analyser) : (s.modAnalyser f).pend = s.pend := (rfl)
@[simp] theorem State.modAnalyser_pending (s : State) (f : Analyser → Analyser) : (s.modAnalyser f).pending = s.pending := (rfl)
@[simp] theorem State.modAnalyser_draws (s : State) (f : Analyser → Analyser) : (s.modAnalyser f).draws = s.draws := (rfl)
@[simp] theorem State.modAnalyser_obj (s : State) (f : Analyser → Analyser) (j : Key) : (s.modAnalyser f).obj j = s.obj j := (rfl)
@[simp] theorem State.modAnalyser_bit (s : State) (f : Analyser → Analyser) (j : Key) (m : Nat) : (s.modAnalyser f).bit j m = s.bit j m := (rfl)
@[simp] theorem State.modAnalyser_domain (s : State) (f : Analyser → Analyser) (j : Key) : (s.modAnalyser f).domain j = s.domain j := (rfl)
@[simp] theorem State.modAnalyser_byte (s : State) (f : Analyser → Analyser) (x : Nat) : (s.modAnalyser f).byte x = s.byte x := (rfl)
@[simp] theorem State.modAnalyser_analyser (s : State) (f : Analyser → Analyser) : (s.modAnalyser f).analyser = f s.analyser := (rfl)

/-! What `modStack` leaves alone. -/
@[simp] theorem State.modStack_variant (s : State) (f : Stack → Stack) : (s.modStack f).variant = s.variant := (rfl)
@[simp] theorem State.modStack_clk (s : State) (f : Stack → Stack) : (s.modStack f).clk = s.clk := (rfl)
@[simp] theorem State.modStack_sysTime (s : State) (f : Stack → Stack) : (s.modStack f).sysTime = s.sysTime := (rfl)
@[simp] theorem State.modStack_od (s : State) (f : Stack → Stack) : (s.modStack f).od = s.od := (rfl)
@[simp] theorem State.modStack_dom (s : State) (f : Stack → Stack) : (s.modStack f).dom = s.dom := (rfl)
@[simp] theorem State.modStack_mem (s : State) (f : Stack → Stack) : (s.modStack f).mem = s.mem := (rfl)
@[simp] theorem State.modStack_held (s : State) (f : Stack → Stack) : (s.modStack f).held = s.held := (rfl)
@[simp] theorem State.modStack_clocks (s : State) (f : Stack → Stack) : (s.modStack f).clocks = s.clocks := (rfl)
@[simp] theorem State.modStack_vbat (s : State) (f : Stack → Stack) : (s.modStack f).vbat = s.vbat := (rfl)
@[simp] theorem State.modStack_mram (s : State) (f : Stack → Stack) : (s.modStack f).mram = s.mram := (rfl)
@[simp] theorem State.modStack_slave (s : State) (f : Stack → Stack) : (s.modStack f).slave = s.slave := (rfl)
@[simp] theorem State.modStack_engine (s : State) (f : Stack → Stack) : (s.modStack f).engine = s.engine := (rfl)
@[simp] theorem State.modStack_health (s : State) (f : Stack → Stack) : (s.modStack f).health = s.health := (rfl)
@[simp] theorem State.modStack_position (s : State) (f : Stack → Stack) : (s.modStack f).position = s.position := (rfl)
@[simp] theorem State.modStack_sched (s : State) (f : Stack → Stack) : (s.modStack f).sched = s.sched := (rfl)
@[simp] theorem State.modStack_port (s : State) (f : Stack → Stack) : (s.modStack f).port = s.port := (rfl)
@[simp] theorem State.modStack_heater (s : State) (f : Stack → Stack) : (s.modStack f).heater = s.heater := (rfl)
@[simp] theorem State.modStack_render (s : State) (f : Stack → Stack) : (s.modStack f).render = s.render := (rfl)
@[simp] theorem State.modStack_jigsaw (s : State) (f : Stack → Stack) : (s.modStack f).jigsaw = s.jigsaw := (rfl)
@[simp] theorem State.modStack_ingest (s : State) (f : Stack → Stack) : (s.modStack f).ingest = s.ingest := (rfl)
@[simp] theorem State.modStack_camera (s : State) (f : Stack → Stack) : (s.modStack f).camera = s.camera := (rfl)
@[simp] theorem State.modStack_kaleido (s : State) (f : Stack → Stack) : (s.modStack f).kaleido = s.kaleido := (rfl)
@[simp] theorem State.modStack_analyser (s : State) (f : Stack → Stack) : (s.modStack f).analyser = s.analyser := (rfl)
@[simp] theorem State.modStack_axis (s : State) (f : Stack → Stack) : (s.modStack f).axis = s.axis := (rfl)
@[simp] theorem State.modStack_sram (s : State) (f : Stack → Stack) : (s.modStack f).sram = s.sram := (rfl)
@[simp] theorem State.modStack_dma (s : State) (f : Stack → Stack) : (s.modStack f).dma = s.dma := (rfl)
@[simp] theorem State.modStack_pend (s : State) (f : Stack → Stack) : (s.modStack f).pend = s.pend := (rfl)
@[simp] theorem State.modStack_pending (s : State) (f : Stack → Stack) : (s.modStack f).pending = s.pending := (rfl)
@[simp] theorem State.modStack_draws (s : State) (f : Stack → Stack) : (s.modStack f).draws = s.draws := (rfl)
@[simp] theorem State.modStack_obj (s : State) (f : Stack → Stack) (j : Key) : (s.modStack f).obj j = s.obj j := (rfl)
@[simp] theorem State.modStack_bit (s : State) (f : Stack → Stack) (j : Key) (m : Nat) : (s.modStack f).bit j m = s.bit j m := (rfl)
@[simp] theorem State.modStack_domain (s : State) (f : Stack → Stack) (j : Key) : (s.modStack f).domain j = s.domain j := (rfl)
@[simp] theorem State.modStack_byte (s : State) (f : Stack → Stack) (x : Nat) : (s.modStack f).byte x = s.byte x := (rfl)
@[simp] theorem State.modStack_stack (s : State) (f : Stack → Stack) : (s.modStack f).stack = f s.stack := (rfl)

/-! What `modSram` leaves alone. -/
@[simp] theorem State.modSram_variant (s : State) (f : Sram → Sram) : (s.modSram f).variant = s.variant := (rfl)
@[simp] theorem State.modSram_clk (s : State) (f : Sram → Sram) : (s.modSram f).clk = s.clk := (rfl)
@[simp] theorem State.modSram_sysTime (s : State) (f : Sram → Sram) : (s.modSram f).sysTime = s.sysTime := (rfl)
@[simp] theorem State.modSram_od (s : State) (f : Sram → Sram) : (s.modSram f).od = s.od := (rfl)
@[simp] theorem State.modSram_dom (s : State) (f : Sram → Sram) : (s.modSram f).dom = s.dom := (rfl)
@[simp] theorem State.modSram_mem (s : State) (f : Sram → Sram) : (s.modSram f).mem = s.mem := (rfl)
@[simp] theorem State.modSram_held (s : State) (f : Sram → Sram) : (s.modSram f).held = s.held := (rfl)
@[simp] theorem State.modSram_clocks (s : State) (f : Sram → Sram) : (s.modSram f).clocks = s.clocks := (rfl)
@[simp] theorem State.modSram_vbat (s : State) (f : Sram → Sram) : (s.modSram f).vbat = s.vbat := (rfl)
@[simp] theorem State.modSram_mram (s : State) (f : Sram → Sram) : (s.modSram f).mram = s.mram := (rfl)
@[simp] theorem State.modSram_slave (s : State) (f : Sram → Sram) : (s.modSram f).slave = s.slave := (rfl)
@[simp] theorem State.modSram_engine (s : State) (f : Sram → Sram) : (s.modSram f).engine = s.engine := (rfl)
@[simp] theorem State.modSram_health (s : State) (f : Sram → Sram) : (s.modSram f).health = s.health := (rfl)
@[simp] theorem State.modSram_position (s : State) (f : Sram → Sram) : (s.modSram f).position = s.position := (rfl)
@[simp] theorem State.modSram_sched (s : State) (f : Sram → Sram) : (s.modSram f).sched = s.sched := (rfl)
@[simp] theorem State.modSram_port (s : State) (f : Sram → Sram) : (s.modSram f).port = s.port := (rfl)
@[simp] theorem State.modSram_heater (s : State) (f : Sram → Sram) : (s.modSram f).heater = s.heater := (rfl)
@[simp] theorem State.modSram_render (s : State) (f : Sram → Sram) : (s.modSram f).render = s.render := (rfl)
@[simp] theorem State.modSram_jigsaw (s : State) (f : Sram → Sram) : (s.modSram f).jigsaw = s.jigsaw := (rfl)
@[simp] theorem State.modSram_ingest (s : State) (f : Sram → Sram) : (s.modSram f).ingest = s.ingest := (rfl)
@[simp] theorem State.modSram_camera (s : State) (f : Sram → Sram) : (s.modSram f).camera = s.camera := (rfl)
@[simp] theorem State.modSram_kaleido (s : State) (f : Sram → Sram) : (s.modSram f).kaleido = s.kaleido := (rfl)
@[simp] theorem State.modSram_analyser (s : State) (f : Sram → Sram) : (s.modSram f).analyser = s.analyser := (rfl)
@[simp] theorem State.modSram_axis (s : State) (f : Sram → Sram) : (s.modSram f).axis = s.axis := (rfl)
@[simp] theorem State.modSram_stack (s : State) (f : Sram → Sram) : (s.modSram f).stack = s.stack := (rfl)
@[simp] theorem State.modSram_dma (s : State) (f : Sram → Sram) : (s.modSram f).dma = s.dma := (rfl)
@[simp] theorem State.modSram_pend (s : State) (f : Sram → Sram) : (s.modSram f).pend = s.pend := (rfl)
@[simp] theorem State.modSram_pending (s : State) (f : Sram → Sram) : (s.modSram f).pending = s.pending := (rfl)
@[simp] theorem State.modSram_draws (s : State) (f : Sram → Sram) : (s.modSram f).draws = s.draws := (rfl)
@[simp] theorem State.modSram_obj (s : State) (f : Sram → Sram) (j : Key) : (s.modSram f).obj j = s.obj j := (rfl)
@[simp] theorem State.modSram_bit (s : State) (f : Sram → Sram) (j : Key) (m : Nat) : (s.modSram f).bit j m = s.bit j m := (rfl)
@[simp] theorem State.modSram_domain (s : State) (f : Sram → Sram) (j : Key) : (s.modSram f).domain j = s.domain j := (rfl)
@[simp] theorem State.modSram_byte (s : State) (f : Sram → Sram) (x : Nat) : (s.modSram f).byte x = s.byte x := (rfl)
@[simp] theorem State.modSram_sram (s : State) (f : Sram → Sram) : (s.modSram f).sram = f s.sram := (rfl)

/-! What `modClocks` leaves alone. -/
@[simp] theorem State.modClocks_variant (s : State) (f : Clocks → Clocks) : (s.modClocks f).variant = s.variant := (rfl)
@[simp] theorem State.modClocks_clk (s : State) (f : Clocks → Clocks) : (s.modClocks f).clk = s.clk := (rfl)
@[simp] theorem State.modClocks_sysTime (s : State) (f : Clocks → Clocks) : (s.modClocks f).sysTime = s.sysTime := (rfl)
@[simp] theorem State.modClocks_od (s : State) (f : Clocks → Clocks) : (s.modClocks f).od = s.od := (rfl)
@[simp] theorem State.modClocks_dom (s : State) (f : Clocks → Clocks) : (s.modClocks f).dom = s.dom := (rfl)
@[simp] theorem State.modClocks_mem (s : State) (f : Clocks → Clocks) : (s.modClocks f).mem = s.mem := (rfl)
@[simp] theorem State.modClocks_held (s : State) (f : Clocks → Clocks) : (s.modClocks f).held = s.held := (rfl)
@[simp] theorem State.modClocks_vbat (s : State) (f : Clocks → Clocks) : (s.modClocks f).vbat = s.vbat := (rfl)
@[simp] theorem State.modClocks_mram (s : State) (f : Clocks → Clocks) : (s.modClocks f).mram = s.mram := (rfl)
@[simp] theorem State.modClocks_slave (s : State) (f : Clocks → Clocks) : (s.modClocks f).slave = s.slave := (rfl)
@[simp] theorem State.modClocks_engine (s : State) (f : Clocks → Clocks) : (s.modClocks f).engine = s.engine := (rfl)
@[simp] theorem State.modClocks_health (s : State) (f : Clocks → Clocks) : (s.modClocks f).health = s.health := (rfl)
@[simp] theorem State.modClocks_position (s : State) (f : Clocks → Clocks) : (s.modClocks f).position = s.position := (rfl)
@[simp] theorem State.modClocks_sched (s : State) (f : Clocks → Clocks) : (s.modClocks f).sched = s.sched := (rfl)
@[simp] theorem State.modClocks_port (s : State) (f : Clocks → Clocks) : (s.modClocks f).port = s.port := (rfl)
@[simp] theorem State.modClocks_heater (s : State) (f : Clocks → Clocks) : (s.modClocks f).heater = s.heater := (rfl)
@[simp] theorem State.modClocks_render (s : State) (f : Clocks → Clocks) : (s.modClocks f).render = s.render := (rfl)
@[simp] theorem State.modClocks_jigsaw (s : State) (f : Clocks → Clocks) : (s.modClocks f).jigsaw = s.jigsaw := (rfl)
@[simp] theorem State.modClocks_ingest (s : State) (f : Clocks → Clocks) : (s.modClocks f).ingest = s.ingest := (rfl)
@[simp] theorem State.modClocks_camera (s : State) (f : Clocks → Clocks) : (s.modClocks f).camera = s.camera := (rfl)
@[simp] theorem State.modClocks_kaleido (s : State) (f : Clocks → Clocks) : (s.modClocks f).kaleido = s.kaleido := (rfl)
@[simp] theorem State.modClocks_analyser (s : State) (f : Clocks → Clocks) : (s.modClocks f).analyser = s.analyser := (rfl)
@[simp] theorem State.modClocks_axis (s : State) (f : Clocks → Clocks) : (s.modClocks f).axis = s.axis := (rfl)
@[simp] theorem State.modClocks_stack (s : State) (f : Clocks → Clocks) : (s.modClocks f).stack = s.stack := (rfl)
@[simp] theorem State.modClocks_sram (s : State) (f : Clocks → Clocks) : (s.modClocks f).sram = s.sram := (rfl)
@[simp] theorem State.modClocks_dma (s : State) (f : Clocks → Clocks) : (s.modClocks f).dma = s.dma := (rfl)
@[simp] theorem State.modClocks_pend (s : State) (f : Clocks → Clocks) : (s.modClocks f).pend = s.pend := (rfl)
@[simp] theorem State.modClocks_pending (s : State) (f : Clocks → Clocks) : (s.modClocks f).pending = s.pending := (rfl)
@[simp] theorem State.modClocks_draws (s : State) (f : Clocks → Clocks) : (s.modClocks f).draws = s.draws := (rfl)
@[simp] theorem State.modClocks_obj (s : State) (f : Clocks → Clocks) (j : Key) : (s.modClocks f).obj j = s.obj j := (rfl)
@[simp] theorem State.modClocks_bit (s : State) (f : Clocks → Clocks) (j : Key) (m : Nat) : (s.modClocks f).bit j m = s.bit j m := (rfl)
@[simp] theorem State.modClocks_domain (s : State) (f : Clocks → Clocks) (j : Key) : (s.modClocks f).domain j = s.domain j := (rfl)
@[simp] theorem State.modClocks_byte (s : State) (f : Clocks → Clocks) (x : Nat) : (s.modClocks f).byte x = s.byte x := (rfl)
@[simp] theorem State.modClocks_clocks (s : State) (f : Clocks → Clocks) : (s.modClocks f).clocks = f s.clocks := (rfl)

/-! What `modVbat` leaves alone. -/
@[simp] theorem State.modVbat_variant (s : State) (f : Vbat → Vbat) : (s.modVbat f).variant = s.variant := (rfl)
@[simp] theorem State.modVbat_clk (s : State) (f : Vbat → Vbat) : (s.modVbat f).clk = s.clk := (rfl)
@[simp] theorem State.modVbat_sysTime (s : State) (f : Vbat → Vbat) : (s.modVbat f).sysTime = s.sysTime := (rfl)
@[simp] theorem State.modVbat_od (s : State) (f : Vbat → Vbat) : (s.modVbat f).od = s.od := (rfl)
@[simp] theorem State.modVbat_dom (s : State) (f : Vbat → Vbat) : (s.modVbat f).dom = s.dom := (rfl)
@[simp] theorem State.modVbat_mem (s : State) (f : Vbat → Vbat) : (s.modVbat f).mem = s.mem := (rfl)
@[simp] theorem State.modVbat_held (s : State) (f : Vbat → Vbat) : (s.modVbat f).held = s.held := (rfl)
@[simp] theorem State.modVbat_clocks (s : State) (f : Vbat → Vbat) : (s.modVbat f).clocks = s.clocks := (rfl)
@[simp] theorem State.modVbat_mram (s : State) (f : Vbat → Vbat) : (s.modVbat f).mram = s.mram := (rfl)
@[simp] theorem State.modVbat_slave (s : State) (f : Vbat → Vbat) : (s.modVbat f).slave = s.slave := (rfl)
@[simp] theorem State.modVbat_engine (s : State) (f : Vbat → Vbat) : (s.modVbat f).engine = s.engine := (rfl)
@[simp] theorem State.modVbat_health (s : State) (f : Vbat → Vbat) : (s.modVbat f).health = s.health := (rfl)
@[simp] theorem State.modVbat_position (s : State) (f : Vbat → Vbat) : (s.modVbat f).position = s.position := (rfl)
@[simp] theorem State.modVbat_sched (s : State) (f : Vbat → Vbat) : (s.modVbat f).sched = s.sched := (rfl)
@[simp] theorem State.modVbat_port (s : State) (f : Vbat → Vbat) : (s.modVbat f).port = s.port := (rfl)
@[simp] theorem State.modVbat_heater (s : State) (f : Vbat → Vbat) : (s.modVbat f).heater = s.heater := (rfl)
@[simp] theorem State.modVbat_render (s : State) (f : Vbat → Vbat) : (s.modVbat f).render = s.render := (rfl)
@[simp] theorem State.modVbat_jigsaw (s : State) (f : Vbat → Vbat) : (s.modVbat f).jigsaw = s.jigsaw := (rfl)
@[simp] theorem State.modVbat_ingest (s : State) (f : Vbat → Vbat) : (s.modVbat f).ingest = s.ingest := (rfl)
@[simp] theorem State.modVbat_camera (s : State) (f : Vbat → Vbat) : (s.modVbat f).camera = s.camera := (rfl)
@[simp] theorem State.modVbat_kaleido (s : State) (f : Vbat → Vbat) : (s.modVbat f).kaleido = s.kaleido := (rfl)
@[simp] theorem State.modVbat_analyser (s : State) (f : Vbat → Vbat) : (s.modVbat f).analyser = s.analyser := (rfl)
@[simp] theorem State.modVbat_axis (s : State) (f : Vbat → Vbat) : (s.modVbat f).axis = s.axis := (rfl)
@[simp] theorem State.modVbat_stack (s : State) (f : Vbat → Vbat) : (s.modVbat f).stack = s.stack := (rfl)
@[simp] theorem State.modVbat_sram (s : State) (f : Vbat → Vbat) : (s.modVbat f).sram = s.sram := (rfl)
@[simp] theorem State.modVbat_dma (s : State) (f : Vbat → Vbat) : (s.modVbat f).dma = s.dma := (rfl)
@[simp] theorem State.modVbat_pend (s : State) (f : Vbat → Vbat) : (s.modVbat f).pend = s.pend := (rfl)
@[simp] theorem State.modVbat_pending (s : State) (f : Vbat → Vbat) : (s.modVbat f).pending = s.pending := (rfl)
@[simp] theorem State.modVbat_draws (s : State) (f : Vbat → Vbat) : (s.modVbat f).draws = s.draws := (rfl)
@[simp] theorem State.modVbat_obj (s : State) (f : Vbat → Vbat) (j : Key) : (s.modVbat f).obj j = s.obj j := (rfl)
@[simp] theorem State.modVbat_bit (s : State) (f : Vbat → Vbat) (j : Key) (m : Nat) : (s.modVbat f).bit j m = s.bit j m := (rfl)
@[simp] theorem State.modVbat_domain (s : State) (f : Vbat → Vbat) (j : Key) : (s.modVbat f).domain j = s.domain j := (rfl)
@[simp] theorem State.modVbat_byte (s : State) (f : Vbat → Vbat) (x : Nat) : (s.modVbat f).byte x = s.byte x := (rfl)
@[simp] theorem State.modVbat_vbat (s : State) (f : Vbat → Vbat) : (s.modVbat f).vbat = f s.vbat := (rfl)

/-! What `modMram` leaves alone. -/
@[simp] theorem State.modMram_variant (s : State) (f : Mram → Mram) : (s.modMram f).variant = s.variant := (rfl)
@[simp] theorem State.modMram_clk (s : State) (f : Mram → Mram) : (s.modMram f).clk = s.clk := (rfl)
@[simp] theorem State.modMram_sysTime (s : State) (f : Mram → Mram) : (s.modMram f).sysTime = s.sysTime := (rfl)
@[simp] theorem State.modMram_od (s : State) (f : Mram → Mram) : (s.modMram f).od = s.od := (rfl)
@[simp] theorem State.modMram_dom (s : State) (f : Mram → Mram) : (s.modMram f).dom = s.dom := (rfl)
@[simp] theorem State.modMram_mem (s : State) (f : Mram → Mram) : (s.modMram f).mem = s.mem := (rfl)
@[simp] theorem State.modMram_held (s : State) (f : Mram → Mram) : (s.modMram f).held = s.held := (rfl)
@[simp] theorem State.modMram_clocks (s : State) (f : Mram → Mram) : (s.modMram f).clocks = s.clocks := (rfl)
@[simp] theorem State.modMram_vbat (s : State) (f : Mram → Mram) : (s.modMram f).vbat = s.vbat := (rfl)
@[simp] theorem State.modMram_slave (s : State) (f : Mram → Mram) : (s.modMram f).slave = s.slave := (rfl)
@[simp] theorem State.modMram_engine (s : State) (f : Mram → Mram) : (s.modMram f).engine = s.engine := (rfl)
@[simp] theorem State.modMram_health (s : State) (f : Mram → Mram) : (s.modMram f).health = s.health := (rfl)
@[simp] theorem State.modMram_position (s : State) (f : Mram → Mram) : (s.modMram f).position = s.position := (rfl)
@[simp] theorem State.modMram_sched (s : State) (f : Mram → Mram) : (s.modMram f).sched = s.sched := (rfl)
@[simp] theorem State.modMram_port (s : State) (f : Mram → Mram) : (s.modMram f).port = s.port := (rfl)
@[simp] theorem State.modMram_heater (s : State) (f : Mram → Mram) : (s.modMram f).heater = s.heater := (rfl)
@[simp] theorem State.modMram_render (s : State) (f : Mram → Mram) : (s.modMram f).render = s.render := (rfl)
@[simp] theorem State.modMram_jigsaw (s : State) (f : Mram → Mram) : (s.modMram f).jigsaw = s.jigsaw := (rfl)
@[simp] theorem State.modMram_ingest (s : State) (f : Mram → Mram) : (s.modMram f).ingest = s.ingest := (rfl)
@[simp] theorem State.modMram_camera (s : State) (f : Mram → Mram) : (s.modMram f).camera = s.camera := (rfl)
@[simp] theorem State.modMram_kaleido (s : State) (f : Mram → Mram) : (s.modMram f).kaleido = s.kaleido := (rfl)
@[simp] theorem State.modMram_analyser (s : State) (f : Mram → Mram) : (s.modMram f).analyser = s.analyser := (rfl)
@[simp] theorem State.modMram_axis (s : State) (f : Mram → Mram) : (s.modMram f).axis = s.axis := (rfl)
@[simp] theorem State.modMram_stack (s : State) (f : Mram → Mram) : (s.modMram f).stack = s.stack := (rfl)
@[simp] theorem State.modMram_sram (s : State) (f : Mram → Mram) : (s.modMram f).sram = s.sram := (rfl)
@[simp] theorem State.modMram_dma (s : State) (f : Mram → Mram) : (s.modMram f).dma = s.dma := (rfl)
@[simp] theorem State.modMram_pend (s : State) (f : Mram → Mram) : (s.modMram f).pend = s.pend := (rfl)
@[simp] theorem State.modMram_pending (s : State) (f : Mram → Mram) : (s.modMram f).pending = s.pending := (rfl)
@[simp] theorem State.modMram_draws (s : State) (f : Mram → Mram) : (s.modMram f).draws = s.draws := (rfl)
@[simp] theorem State.modMram_obj (s : State) (f : Mram → Mram) (j : Key) : (s.modMram f).obj j = s.obj j := (rfl)
@[simp] theorem State.modMram_bit (s : State) (f : Mram → Mram) (j : Key) (m : Nat) : (s.modMram f).bit j m = s.bit j m := (rfl)
@[simp] theorem State.modMram_domain (s : State) (f : Mram → Mram) (j : Key) : (s.modMram f).domain j = s.domain j := (rfl)
@[simp] theorem State.modMram_byte (s : State) (f : Mram → Mram) (x : Nat) : (s.modMram f).byte x = s.byte x := (rfl)
@[simp] theorem State.modMram_mram (s : State) (f : Mram → Mram) : (s.modMram f).mram = f s.mram := (rfl)

/-! The parts of a state that come in instances. -/
@[simp] theorem State.modPort_get_same (s : State) (n : Fin 16) (f : Port → Port) :
    (s.modPort n f).port.get n = f (s.port.get n) := by
  show (s.port.set n (f (s.port.get n)))[n.val] = _
  simp
theorem State.modPort_get_other (s : State) {n m : Fin 16} (f : Port → Port) (h : m ≠ n) :
    (s.modPort n f).port.get m = s.port.get m := by
  show (s.port.set n (f (s.port.get n)))[m.val] = s.port[m.val]
  exact Vector.getElem_set_ne _ _ (fun e => h (Fin.ext e.symm))
@[simp] theorem State.modJigsaw_get_same (s : State) (n : Fin 16) (f : JigsawPort → JigsawPort) :
    (s.modJigsaw n f).jigsaw.get n = f (s.jigsaw.get n) := by
  show (s.jigsaw.set n (f (s.jigsaw.get n)))[n.val] = _
  simp
theorem State.modJigsaw_get_other (s : State) {n m : Fin 16} (f : JigsawPort → JigsawPort) (h : m ≠ n) :
    (s.modJigsaw n f).jigsaw.get m = s.jigsaw.get m := by
  show (s.jigsaw.set n (f (s.jigsaw.get n)))[m.val] = s.jigsaw[m.val]
  exact Vector.getElem_set_ne _ _ (fun e => h (Fin.ext e.symm))
@[simp] theorem State.modCamera_get_same (s : State) (n : Fin 2) (f : Camera → Camera) :
    (s.modCamera n f).camera.get n = f (s.camera.get n) := by
  show (s.camera.set n (f (s.camera.get n)))[n.val] = _
  simp
theorem State.modCamera_get_other (s : State) {n m : Fin 2} (f : Camera → Camera) (h : m ≠ n) :
    (s.modCamera n f).camera.get m = s.camera.get m := by
  show (s.camera.set n (f (s.camera.get n)))[m.val] = s.camera[m.val]
  exact Vector.getElem_set_ne _ _ (fun e => h (Fin.ext e.symm))
@[simp] theorem State.modDma_get_same (s : State) (n : Fin 32) (f : DmaChan → DmaChan) :
    (s.modDma n f).dma.get n = f (s.dma.get n) := by
  show (s.dma.set n (f (s.dma.get n)))[n.val] = _
  simp
theorem State.modDma_get_other (s : State) {n m : Fin 32} (f : DmaChan → DmaChan) (h : m ≠ n) :
    (s.modDma n f).dma.get m = s.dma.get m := by
  show (s.dma.set n (f (s.dma.get n)))[m.val] = s.dma[m.val]
  exact Vector.getElem_set_ne _ _ (fun e => h (Fin.ext e.symm))
@[simp] theorem State.modAxis_get_same (s : State) (n : Fin 4) (f : Axis → Axis) :
    (s.modAxis n f).axis.get n = f (s.axis.get n) := by
  show (s.axis.set n (f (s.axis.get n)))[n.val] = _
  simp
theorem State.modAxis_get_other (s : State) {n m : Fin 4} (f : Axis → Axis) (h : m ≠ n) :
    (s.modAxis n f).axis.get m = s.axis.get m := by
  show (s.axis.set n (f (s.axis.get n)))[m.val] = s.axis[m.val]
  exact Vector.getElem_set_ne _ _ (fun e => h (Fin.ext e.symm))
@[simp] theorem State.modHeater_get_same (s : State) (n : Fin 4) (f : Heater → Heater) :
    (s.modHeater n f).heater.get n = f (s.heater.get n) := by
  show (s.heater.set n (f (s.heater.get n)))[n.val] = _
  simp
theorem State.modHeater_get_other (s : State) {n m : Fin 4} (f : Heater → Heater) (h : m ≠ n) :
    (s.modHeater n f).heater.get m = s.heater.get m := by
  show (s.heater.set n (f (s.heater.get n)))[m.val] = s.heater[m.val]
  exact Vector.getElem_set_ne _ _ (fun e => h (Fin.ext e.symm))

@[simp] theorem State.answer_al (s : State) (r : Resp) : (s.answer r).slave.al = s.slave.al := (rfl)
@[simp] theorem State.answer_resp (s : State) (r : Resp) : (s.answer r).slave.resp = r := (rfl)

end Sys2Proof.Machine
end

