-- ==== Sys2Proof/Laws/Settle.lean ====
section
/-! SUPPORT. What the end of every command can change: the objects in `settleKeys`, the causes of SLOW_REQ_L, the log, the emergencies and the event vector, and nothing else. -/

namespace Sys2Proof.Machine

/-- The objects that the end of a command may write. -/
def settleKeys : List Key :=
  [0x230019, 0x230025, 0x240012, 0x240013, 0x5E0001, 0x5E0004, 0x5E0011, 0x5E0050, 0x5E0051, 0x5E0052, 0x5E0058,
    0x5F2030, 0x5F2032, 0x200023]

/-- A state without what the end of a command may change. -/
def State.rest (s : State) : State :=
  { s with
    od := []
    pend := 0
    mram := { s.mram with log := [], logSeq := 0 }
    slave := { s.slave with emcy := [] }
    health := { s.health with logLast := [], merged := [], lifetime := [] }
    sched := { s.sched with drive := false, holdForce := none, holdOther := none, wasForce := false, wasOther := false } }

/-- Two states agree outside what the end of a command may change. -/
structure Settled (s t : State) : Prop where
  rest : t.rest = s.rest
  obj : ∀ k, k ∉ settleKeys → t.obj k = s.obj k

/-- A field that the end of a command does not touch. -/
theorem Settled.field {β : Type} {s t : State} (h : Settled s t) (f : State → β) : f t.rest = f s.rest := congrArg f h.rest

theorem Settled.refl (s : State) : Settled s s := ⟨rfl, fun _ _ => rfl⟩

theorem Settled.trans {s t u : State} (h : Settled s t) (g : Settled t u) : Settled s u :=
  ⟨g.rest.trans h.rest, fun k hk => (g.obj k hk).trans (h.obj k hk)⟩

theorem Settled.ite {s t u : State} (c : Prop) [Decidable c] (h : Settled s t) (g : Settled s u) :
    Settled s (if c then t else u) := by split <;> assumption

theorem Settled.foldl {β : Type} (f : State → β → State) (h : ∀ s b, Settled s (f s b)) (l : List β) (s : State) :
    Settled s (l.foldl f s) := by
  induction l generalizing s with
  | nil => exact .refl s
  | cons b t ih => exact (h s b).trans (ih _)

theorem Settled.setObj (s : State) {k : Key} (v : Nat) (h : k ∈ settleKeys) : Settled s (s.setObj k v) :=
  ⟨rfl, fun _ hj => State.setObj_obj_other s v fun e => hj (e ▸ h)⟩

theorem Settled.setBit (s : State) {k : Key} (i : Nat) (b : Bool) (h : k ∈ settleKeys) : Settled s (s.setBit k i b) :=
  .setObj s _ h

theorem Settled.event (s : State) {k : Key} (i : Nat) (h : k ∈ settleKeys) : Settled s (s.event k i) := .setObj s _ h

theorem Settled.bump (s : State) {k : Key} (h : k ∈ settleKeys) : Settled s (s.bump k) :=
  ⟨rfl, fun _ hj => State.bump_obj_other s fun e => hj (e ▸ h)⟩

/-- A change outside the objects that leaves `rest` as it is. -/
theorem Settled.fields {s t : State} (h : t.rest = s.rest) (ho : t.od = s.od) : Settled s t :=
  ⟨h, fun k _ => by simp only [State.obj, ho]⟩

theorem settled_setDrive (s : State) (b : Bool) : Settled s (s.setDrive b) := by
  unfold State.setDrive
  refine .ite _ (Settled.trans ?_ (.event _ _ (by decide))) (.fields rfl rfl)
  exact Settled.trans (.fields (t := { s with sched := { s.sched with drive := b } }) rfl rfl) (.bump _ (by decide))

theorem settled_slowSync (s : State) : Settled s s.slowSync := by
  refine Settled.trans (.fields (t := s.slowNote) rfl rfl) ?_
  show Settled _ (if _ then _ else if _ then _ else _)
  exact .ite _ (settled_setDrive _ _) (.ite _ (settled_setDrive _ _) (.refl _))

theorem settled_walkSync (s : State) : Settled s s.walkSync := by
  unfold State.walkSync
  refine .ite _ (.ite _ (.setBit _ _ _ (by decide)) (.refl s)) (.ite _ ?_ (.refl s))
  exact (Settled.setBit _ _ _ (by decide)).trans (.event _ _ (by decide))

theorem settled_logEntry (s : State) (a b c d : Nat) : Settled s (s.logEntry a b c d) := by
  exact Settled.trans (t := s.putEntry a b c d) (.fields rfl rfl) (.bump _ (by decide))

theorem settled_logMerge (s : State) (a : Nat) : Settled s (s.logMerge a) := by
  have h : Settled s ((s.countMerge a).bump 0x5E0052) :=
    Settled.trans (t := s.countMerge a) (.fields rfl rfl) (.bump _ (by decide))
  exact h.trans (.event _ _ (by decide))

theorem settled_logRaise (s : State) (a b c : Nat) : Settled s (s.logRaise a b c) := by
  unfold State.logRaise
  exact .ite _ (settled_logMerge ..) (settled_logEntry ..)

theorem settled_setFault174 (s : State) : Settled s (s.setFault 174) :=
  (Settled.setBit s _ _ (by decide)).trans (.bump _ (by decide))

theorem settled_raise174 (s : State) (i : Nat) : Settled s (s.raise 174 i 0) := by
  unfold State.raise
  exact .ite _ ((settled_setFault174 s).trans (settled_logRaise ..)) (settled_setFault174 s)

theorem settled_degraded (s : State) (i : Nat) : Settled s (s.degraded i) :=
  ((settled_raise174 s i).trans (.bump _ (by decide))).trans (.event _ _ (by decide))

theorem settled_coverageRound (s : State) : Settled s s.coverageRound :=
  (Settled.setObj s _ (by decide)).trans (.foldl _ settled_degraded _ _)

theorem settled_queueEmcy (s : State) (c : Nat) : Settled s (s.queueEmcy c) := by
  unfold State.queueEmcy
  split
  · exact .refl s
  · exact .refl s
  · split
    · exact (Settled.bump s (by decide)).trans (.event _ _ (by decide))
    · exact .fields rfl rfl

theorem settled_announce (s : State) (src : Nat) : Settled s (s.announce src) := by
  unfold State.announce
  have h : Settled s s.nextSequence := .setObj s _ (by decide)
  exact .ite _ (h.trans (settled_queueEmcy ..)) h

theorem settled_eventRound (s : State) : Settled s s.eventRound := by
  have h : Settled s (s.announceNew (pendingVector s.od)) :=
    Settled.trans (t := { s with pend := pendingVector s.od }) (.fields rfl rfl) (.foldl _ settled_announce _ _)
  refine h.trans ?_
  show Settled _ (if _ then _ else _)
  exact .ite _ (settled_queueEmcy ..) (.refl _)

/-- The end of a command changes nothing outside what it may change. -/
theorem settled_settle (s : State) : Settled s s.settle :=
  (((((settled_slowSync s).trans (settled_walkSync _)).trans (settled_coverageRound _)).trans
    (settled_eventRound _)).trans (settled_eventRound _)).trans (.fields rfl rfl)

/-- The event vector agrees with the event registers at the end of every command (R588). -/
theorem settle_pend (s : State) : s.settle.pend = pendingVector s.settle.od := rfl

theorem settle_obj (s : State) {k : Key} (h : k ∉ settleKeys) : s.settle.obj k = s.obj k := (settled_settle s).obj k h

theorem settle_bit (s : State) {k : Key} (i : Nat) (h : k ∉ settleKeys) : s.settle.bit k i = s.bit k i := by
  simp only [State.bit, settle_obj s h]

@[simp] theorem settle_variant (s : State) : s.settle.variant = s.variant := (settled_settle s).field State.variant
@[simp] theorem settle_clk (s : State) : s.settle.clk = s.clk := (settled_settle s).field State.clk
@[simp] theorem settle_sysTime (s : State) : s.settle.sysTime = s.sysTime := (settled_settle s).field State.sysTime
@[simp] theorem settle_dom (s : State) : s.settle.dom = s.dom := (settled_settle s).field State.dom
@[simp] theorem settle_mem (s : State) : s.settle.mem = s.mem := (settled_settle s).field State.mem
@[simp] theorem settle_held (s : State) : s.settle.held = s.held := (settled_settle s).field State.held
@[simp] theorem settle_clocks (s : State) : s.settle.clocks = s.clocks := (settled_settle s).field State.clocks
@[simp] theorem settle_vbat (s : State) : s.settle.vbat = s.vbat := (settled_settle s).field State.vbat
@[simp] theorem settle_engine (s : State) : s.settle.engine = s.engine := (settled_settle s).field State.engine
@[simp] theorem settle_position (s : State) : s.settle.position = s.position := (settled_settle s).field State.position
@[simp] theorem settle_port (s : State) : s.settle.port = s.port := (settled_settle s).field State.port
@[simp] theorem settle_heater (s : State) : s.settle.heater = s.heater := (settled_settle s).field State.heater
@[simp] theorem settle_render (s : State) : s.settle.render = s.render := (settled_settle s).field State.render
@[simp] theorem settle_jigsaw (s : State) : s.settle.jigsaw = s.jigsaw := (settled_settle s).field State.jigsaw
@[simp] theorem settle_ingest (s : State) : s.settle.ingest = s.ingest := (settled_settle s).field State.ingest
@[simp] theorem settle_camera (s : State) : s.settle.camera = s.camera := (settled_settle s).field State.camera
@[simp] theorem settle_kaleido (s : State) : s.settle.kaleido = s.kaleido := (settled_settle s).field State.kaleido
@[simp] theorem settle_analyser (s : State) : s.settle.analyser = s.analyser := (settled_settle s).field State.analyser
@[simp] theorem settle_axis (s : State) : s.settle.axis = s.axis := (settled_settle s).field State.axis
@[simp] theorem settle_stack (s : State) : s.settle.stack = s.stack := (settled_settle s).field State.stack
@[simp] theorem settle_sram (s : State) : s.settle.sram = s.sram := (settled_settle s).field State.sram
@[simp] theorem settle_dma (s : State) : s.settle.dma = s.dma := (settled_settle s).field State.dma
@[simp] theorem settle_pending (s : State) : s.settle.pending = s.pending := (settled_settle s).field State.pending
@[simp] theorem settle_draws (s : State) : s.settle.draws = s.draws := (settled_settle s).field State.draws

/-- The slave keeps everything but its emergencies. -/
theorem settle_slave (s : State) : { s.settle.slave with emcy := [] } = { s.slave with emcy := [] } :=
  (settled_settle s).field State.slave

@[simp] theorem settle_al (s : State) : s.settle.slave.al = s.slave.al := (settled_settle s).field fun u => Slave.al u.slave
@[simp] theorem settle_alStatus (s : State) : s.settle.slave.alStatus = s.slave.alStatus := (settled_settle s).field fun u => Slave.alStatus u.slave
@[simp] theorem settle_resp (s : State) : s.settle.slave.resp = s.slave.resp := (settled_settle s).field fun u => Slave.resp u.slave
@[simp] theorem settle_emcyOut (s : State) : s.settle.slave.emcyOut = s.slave.emcyOut := (settled_settle s).field fun u => Slave.emcyOut u.slave
@[simp] theorem settle_txSample (s : State) : s.settle.slave.txSample = s.slave.txSample := (settled_settle s).field fun u => Slave.txSample u.slave
@[simp] theorem settle_rxWait (s : State) : s.settle.slave.rxWait = s.slave.rxWait := (settled_settle s).field fun u => Slave.rxWait u.slave
@[simp] theorem settle_seg (s : State) : s.settle.slave.seg = s.slave.seg := (settled_settle s).field fun u => Slave.seg u.slave
@[simp] theorem settle_ready (s : State) : s.settle.slave.ready = s.slave.ready := (settled_settle s).field fun u => Slave.ready u.slave

/-- The MRAM keeps everything but the event log. -/
theorem settle_mram (s : State) : { s.settle.mram with log := [], logSeq := 0 } = { s.mram with log := [], logSeq := 0 } :=
  (settled_settle s).field State.mram

theorem settle_byte (s : State) (a : Nat) : s.settle.byte a = s.byte a := by simp only [State.byte, settle_mem]

theorem settle_domain (s : State) (k : Key) : s.settle.domain k = s.domain k := by simp only [State.domain, settle_dom]

end Sys2Proof.Machine
end

