-- ==== Sys2Proof/Laws/Read.lean ====
section
/-! SUPPORT. What one object reads as after a write of any object, in the form that `simp` decides on numerals, and the same for the guard of the position unit and for the answer of an access. -/

namespace Sys2Proof.Machine

theorem testBit_putBit (v i j : Nat) (b : Bool) : (putBit v i b).testBit j = if j = i then b else v.testBit j := by
  have h1 : (putBit v i b) = 2 ^ i * ((v >>> (i + 1)) * 2 + b.toNat) + v % 2 ^ i := by
    unfold putBit putField
    cases b <;> simp only [Nat.shiftLeft_eq, Nat.pow_succ, Nat.mul_add, Bool.toNat] <;>
      simp [Nat.mul_comm] <;> rw [Nat.mul_assoc]
  rw [h1, Nat.testBit_two_pow_mul_add _ (Nat.mod_lt _ (Nat.two_pow_pos i))]
  by_cases hj : j < i
  · simp [hj, Nat.ne_of_lt hj]
  · by_cases he : j = i
    · subst he; cases b <;> simp [Nat.testBit_zero, Nat.add_mod]
    · obtain ⟨d, rfl⟩ : ∃ d, j = i + 1 + d := ⟨j - (i + 1), by omega⟩
      have : i + 1 + d - i = d + 1 := by omega
      rw [if_neg (by omega), if_neg (by omega), this, Nat.testBit_succ]
      have h2 : ((v >>> (i + 1)) * 2 + b.toNat) / 2 = v >>> (i + 1) := by cases b <;> simp <;> omega
      rw [h2, Nat.testBit_shiftRight]

theorem State.obj_setObj (s : State) (j k : Key) (v : Nat) : (s.setObj j v).obj k = if k = j then v else s.obj k := by
  split
  · subst_vars; exact State.setObj_obj_same ..
  · exact State.setObj_obj_other _ _ ‹_›

theorem State.obj_setBit (s : State) (j k : Key) (i : Nat) (b : Bool) :
    (s.setBit j i b).obj k = if k = j then putBit (s.obj j) i b else s.obj k := State.obj_setObj ..

theorem State.obj_event (s : State) (j k : Key) (i : Nat) :
    (s.event j i).obj k = if k = j then putBit (s.obj j) i true else s.obj k := State.obj_setObj ..

theorem State.obj_bump (s : State) (j k : Key) :
    (s.bump j).obj k = if k = j then min (2 ^ 32 - 1) (s.obj j + 1) else s.obj k := State.obj_setObj ..

/-- A change of any field but the objects leaves every object. -/
theorem State.obj_mk (s : State) (k : Key) (v c t d m h a1 a2 a3 a4 a5 a6 a7 a8 a9 b1 b2 b3 b4 b5 b6 b7 b8 b9 c1 c2 c3 c4 c5) :
    State.obj (State.mk v c t s.od d m h a1 a2 a3 a4 a5 a6 a7 a8 a9 b1 b2 b3 b4 b5 b6 b7 b8 b9 c1 c2 c3 c4 c5) k = s.obj k := (rfl)

theorem State.bit_setBit (s : State) (j k : Key) (i n : Nat) (b : Bool) :
    (s.setBit j i b).bit k n = if k = j then (if n = i then b else s.bit j n) else s.bit k n := by
  simp only [State.bit, State.obj_setBit]
  split
  · exact testBit_putBit ..
  · rfl

theorem State.bit_event (s : State) (j k : Key) (i n : Nat) :
    (s.event j i).bit k n = if k = j then (if n = i then true else s.bit j n) else s.bit k n := State.bit_setBit ..

theorem State.bit_setObj (s : State) (j k : Key) (n v : Nat) :
    (s.setObj j v).bit k n = if k = j then v.testBit n else s.bit k n := by
  simp only [State.bit, State.obj_setObj]; split <;> rfl

theorem State.bit_bump (s : State) (j k : Key) (n : Nat) (h : k ≠ j) : (s.bump j).bit k n = s.bit k n := by
  simp only [State.bit, State.bump_obj_other _ h]

theorem State.bit_mk (s : State) (k : Key) (n : Nat) (v c t d m h a1 a2 a3 a4 a5 a6 a7 a8 a9 b1 b2 b3 b4 b5 b6 b7 b8 b9 c1 c2 c3 c4 c5) :
    State.bit (State.mk v c t s.od d m h a1 a2 a3 a4 a5 a6 a7 a8 a9 b1 b2 b3 b4 b5 b6 b7 b8 b9 c1 c2 c3 c4 c5) k n = s.bit k n := (rfl)

end Sys2Proof.Machine
end

