-- ==== Sys2Proof/Laws/Position.lean ====
section
/-! SUPPORT. What the passing of time (`guardSync`, the step generators, `tick`) changes: the high-water mark, GUARD_ACTIVE, the count of guard episodes, the axes' step generators with their delays, and nothing else (R68, R69, R434). -/

namespace Sys2Proof.Machine

theorem State.guardSync_obj (s : State) {k : Key} (h : k ∉ [0x220013, 0x220015, 0x220052]) : s.guardSync.obj k = s.obj k := by
  simp at h
  unfold State.guardSync
  simp only
  split
  · simp [State.obj_setObj, State.obj_setBit, h]
  · split
    · rfl
    · simp [State.obj_bump, State.obj_setBit, h]

/-- Every bit of the position status but GUARD_ACTIVE stays. -/
theorem State.guardSync_bit (s : State) {i : Nat} (h : i ≠ 4) : s.guardSync.bit 0x220015 i = s.bit 0x220015 i := by
  unfold State.guardSync
  simp only
  split
  · simp [State.bit_setObj, State.bit_setBit, h]
  · split
    · rfl
    · rw [State.bit_bump _ _ _ _ (by decide)]
      simp [State.bit_setBit, h]

/-- The position unit's hidden state but the mark of a reversal. -/
def Position.part (p : Position) : Position := { p with reversed := false }

theorem State.guardSync_part (s : State) : s.guardSync.position.part = s.position.part := by
  unfold State.guardSync
  simp only
  split
  · simp [Position.part]
  · split <;> simp

@[simp] theorem State.guardSync_variant (s : State) : s.guardSync.variant = s.variant := by
  unfold State.guardSync
  simp only
  split
  · simp
  · split <;> simp

@[simp] theorem State.guardSync_clk (s : State) : s.guardSync.clk = s.clk := by
  unfold State.guardSync
  simp only
  split
  · simp
  · split <;> simp

@[simp] theorem State.guardSync_sysTime (s : State) : s.guardSync.sysTime = s.sysTime := by
  unfold State.guardSync
  simp only
  split
  · simp
  · split <;> simp

@[simp] theorem State.guardSync_dom (s : State) : s.guardSync.dom = s.dom := by
  unfold State.guardSync
  simp only
  split
  · simp
  · split <;> simp

@[simp] theorem State.guardSync_mem (s : State) : s.guardSync.mem = s.mem := by
  unfold State.guardSync
  simp only
  split
  · simp
  · split <;> simp

@[simp] theorem State.guardSync_held (s : State) : s.guardSync.held = s.held := by
  unfold State.guardSync
  simp only
  split
  · simp
  · split <;> simp

@[simp] theorem State.guardSync_clocks (s : State) : s.guardSync.clocks = s.clocks := by
  unfold State.guardSync
  simp only
  split
  · simp
  · split <;> simp

@[simp] theorem State.guardSync_vbat (s : State) : s.guardSync.vbat = s.vbat := by
  unfold State.guardSync
  simp only
  split
  · simp
  · split <;> simp

@[simp] theorem State.guardSync_mram (s : State) : s.guardSync.mram = s.mram := by
  unfold State.guardSync
  simp only
  split
  · simp
  · split <;> simp

@[simp] theorem State.guardSync_slave (s : State) : s.guardSync.slave = s.slave := by
  unfold State.guardSync
  simp only
  split
  · simp
  · split <;> simp

@[simp] theorem State.guardSync_engine (s : State) : s.guardSync.engine = s.engine := by
  unfold State.guardSync
  simp only
  split
  · simp
  · split <;> simp

@[simp] theorem State.guardSync_sched (s : State) : s.guardSync.sched = s.sched := by
  unfold State.guardSync
  simp only
  split
  · simp
  · split <;> simp

@[simp] theorem State.guardSync_port (s : State) : s.guardSync.port = s.port := by
  unfold State.guardSync
  simp only
  split
  · simp
  · split <;> simp

@[simp] theorem State.guardSync_heater (s : State) : s.guardSync.heater = s.heater := by
  unfold State.guardSync
  simp only
  split
  · simp
  · split <;> simp

@[simp] theorem State.guardSync_render (s : State) : s.guardSync.render = s.render := by
  unfold State.guardSync
  simp only
  split
  · simp
  · split <;> simp

@[simp] theorem State.guardSync_jigsaw (s : State) : s.guardSync.jigsaw = s.jigsaw := by
  unfold State.guardSync
  simp only
  split
  · simp
  · split <;> simp

@[simp] theorem State.guardSync_ingest (s : State) : s.guardSync.ingest = s.ingest := by
  unfold State.guardSync
  simp only
  split
  · simp
  · split <;> simp

@[simp] theorem State.guardSync_camera (s : State) : s.guardSync.camera = s.camera := by
  unfold State.guardSync
  simp only
  split
  · simp
  · split <;> simp

@[simp] theorem State.guardSync_kaleido (s : State) : s.guardSync.kaleido = s.kaleido := by
  unfold State.guardSync
  simp only
  split
  · simp
  · split <;> simp

@[simp] theorem State.guardSync_analyser (s : State) : s.guardSync.analyser = s.analyser := by
  unfold State.guardSync
  simp only
  split
  · simp
  · split <;> simp

@[simp] theorem State.guardSync_axis (s : State) : s.guardSync.axis = s.axis := by
  unfold State.guardSync
  simp only
  split
  · simp
  · split <;> simp

@[simp] theorem State.guardSync_stack (s : State) : s.guardSync.stack = s.stack := by
  unfold State.guardSync
  simp only
  split
  · simp
  · split <;> simp

@[simp] theorem State.guardSync_sram (s : State) : s.guardSync.sram = s.sram := by
  unfold State.guardSync
  simp only
  split
  · simp
  · split <;> simp

@[simp] theorem State.guardSync_dma (s : State) : s.guardSync.dma = s.dma := by
  unfold State.guardSync
  simp only
  split
  · simp
  · split <;> simp

@[simp] theorem State.guardSync_pend (s : State) : s.guardSync.pend = s.pend := by
  unfold State.guardSync
  simp only
  split
  · simp
  · split <;> simp

@[simp] theorem State.guardSync_pending (s : State) : s.guardSync.pending = s.pending := by
  unfold State.guardSync
  simp only
  split
  · simp
  · split <;> simp

@[simp] theorem State.guardSync_draws (s : State) : s.guardSync.draws = s.draws := by
  unfold State.guardSync
  simp only
  split
  · simp
  · split <;> simp

/-- What the step generators leave alone (R434): everything but the clock and system time, the step-delay counters, the axis events, and the generators. -/
structure StepFrame (s u : State) : Prop where
  variant : u.variant = s.variant
  dom : u.dom = s.dom
  mem : u.mem = s.mem
  held : u.held = s.held
  clocks : u.clocks = s.clocks
  vbat : u.vbat = s.vbat
  mram : u.mram = s.mram
  slave : u.slave = s.slave
  engine : u.engine = s.engine
  position : u.position = s.position
  sched : u.sched = s.sched
  port : u.port = s.port
  heater : u.heater = s.heater
  render : u.render = s.render
  jigsaw : u.jigsaw = s.jigsaw
  ingest : u.ingest = s.ingest
  camera : u.camera = s.camera
  kaleido : u.kaleido = s.kaleido
  analyser : u.analyser = s.analyser
  stack : u.stack = s.stack
  sram : u.sram = s.sram
  dma : u.dma = s.dma
  pend : u.pend = s.pend
  pending : u.pending = s.pending
  draws : u.draws = s.draws
  obj : ∀ k, k ∉ timeKeys → u.obj k = s.obj k
  status : u.obj 0x220015 = s.obj 0x220015
  axis : ∀ a : Fin 4, (u.axis.get a).still = (s.axis.get a).still

theorem StepFrame.refl (s : State) : StepFrame s s := by constructor <;> intros <;> rfl

theorem StepFrame.trans {s u v : State} (h : StepFrame s u) (g : StepFrame u v) : StepFrame s v where
  variant := g.variant.trans h.variant
  dom := g.dom.trans h.dom
  mem := g.mem.trans h.mem
  held := g.held.trans h.held
  clocks := g.clocks.trans h.clocks
  vbat := g.vbat.trans h.vbat
  mram := g.mram.trans h.mram
  slave := g.slave.trans h.slave
  engine := g.engine.trans h.engine
  position := g.position.trans h.position
  sched := g.sched.trans h.sched
  port := g.port.trans h.port
  heater := g.heater.trans h.heater
  render := g.render.trans h.render
  jigsaw := g.jigsaw.trans h.jigsaw
  ingest := g.ingest.trans h.ingest
  camera := g.camera.trans h.camera
  kaleido := g.kaleido.trans h.kaleido
  analyser := g.analyser.trans h.analyser
  stack := g.stack.trans h.stack
  sram := g.sram.trans h.sram
  dma := g.dma.trans h.dma
  pend := g.pend.trans h.pend
  pending := g.pending.trans h.pending
  draws := g.draws.trans h.draws
  obj k hk := (g.obj k hk).trans (h.obj k hk)
  status := g.status.trans h.status
  axis a := (g.axis a).trans (h.axis a)

theorem StepFrame.at (s : State) (t : Nat) : StepFrame s (s.at t) := by constructor <;> intros <;> simp

/-- A change of an axis's generator alone. -/
theorem StepFrame.gen (s : State) (a : Fin 4) (f : StepGen → StepGen) :
    StepFrame s (s.modGen a f) := by
  constructor
  case axis =>
    intro b
    by_cases h : b = a
    · subst h
      show ((s.modAxis b _).axis.get b).still = _
      rw [State.modAxis_get_same]
      rfl
    · show ((s.modAxis a _).axis.get b).still = _
      rw [State.modAxis_get_other _ _ h]
  all_goals intros; rfl

theorem ak_mem_timeKeys (a : Fin 4) : ak 0x480045 a ∈ timeKeys ∧ ak 0x480035 a ∈ timeKeys := by revert a; decide

theorem ak_ne_status (a : Fin 4) : (0x220015 : Key) ≠ ak 0x480045 a ∧ (0x220015 : Key) ≠ ak 0x480035 a := by revert a; decide

/-- A step delay counted and reported. -/
theorem StepFrame.count (s : State) (a : Fin 4) : StepFrame s ((s.bump (ak 0x480045 a)).event (ak 0x480035 a) 8) := by
  constructor
  case obj =>
    intro k hk
    have h1 : k ≠ ak 0x480035 a := fun h => hk (h ▸ (ak_mem_timeKeys a).2)
    have h2 : k ≠ ak 0x480045 a := fun h => hk (h ▸ (ak_mem_timeKeys a).1)
    rw [State.event_obj_other _ _ h1, State.bump_obj_other _ h2]
  case status => rw [State.event_obj_other _ _ (ak_ne_status a).2, State.bump_obj_other _ (ak_ne_status a).1]
  all_goals intros; rfl

theorem State.turnDir_frame (s : State) (a : Fin 4) (neg : Bool) : StepFrame s (s.turnDir a neg) := by
  unfold State.turnDir
  simp only
  split
  · exact StepFrame.gen ..
  · exact StepFrame.refl s

theorem State.holdStep_frame (s : State) (a : Fin 4) : StepFrame s (s.holdStep a) := by
  unfold State.holdStep
  split
  · exact StepFrame.refl s
  · exact (StepFrame.gen s a _).trans (StepFrame.count _ a)

/-- One clock of a step generator keeps to its frame (R434). -/
theorem State.stepClock_frame (s : State) (a : Fin 4) : StepFrame s (s.stepClock a) := by
  unfold State.stepClock
  simp only
  split
  · split
    · exact StepFrame.gen ..
    · exact StepFrame.refl s
  · split
    · exact (s.turnDir_frame a _).trans (StepFrame.gen ..)
    · exact (s.turnDir_frame a _).trans (State.holdStep_frame ..)

theorem StepFrame.foldl (l : List (Fin 4)) (s : State) : StepFrame s (l.foldl State.stepClock s) := by
  induction l generalizing s with
  | nil => exact StepFrame.refl s
  | cons a t ih => exact (s.stepClock_frame a).trans (ih _)

theorem State.runSteps_frame (n : Nat) (s : State) : StepFrame s (State.runSteps n s) := by
  induction n generalizing s with
  | zero => exact StepFrame.refl s
  | succ n ih => exact (StepFrame.at s (s.clk + 1)).trans ((StepFrame.foldl _ _).trans (ih _))

theorem State.passSteps_frame (s : State) (t : Nat) : StepFrame s (s.passSteps t) := by
  unfold State.passSteps
  split
  · exact StepFrame.refl s
  · exact State.runSteps_frame ..

theorem State.tick_obj (s : State) (t : Nat) {k : Key} (h : k ∉ timeKeys) : (s.tick t).obj k = s.obj k := by
  have h0 : k ∉ [0x220013, 0x220015, 0x220052] := fun hk => h (List.mem_append_left _ hk)
  unfold State.tick
  split
  · rw [State.guardSync_obj _ h0, State.at_obj, (s.passSteps_frame t).obj k h]
  · rw [State.at_obj]

theorem State.tick_bit (s : State) (t : Nat) {i : Nat} (h : i ≠ 4) : (s.tick t).bit 0x220015 i = s.bit 0x220015 i := by
  unfold State.tick
  split
  · rw [State.guardSync_bit _ h, State.at_bit]
    exact congrArg (Nat.testBit · i) ((s.passSteps_frame t).status)
  · rw [State.at_bit]

theorem State.tick_part (s : State) (t : Nat) : (s.tick t).position.part = s.position.part := by
  unfold State.tick
  split
  · rw [State.guardSync_part, State.at_position, (s.passSteps_frame t).position]
  · rw [State.at_position]

/-- Time moves nothing of an axis but its step generator. -/
theorem State.tick_axis (s : State) (t : Nat) (a : Fin 4) : ((s.tick t).axis.get a).still = (s.axis.get a).still := by
  unfold State.tick
  split
  · rw [State.guardSync_axis, State.at_axis, (s.passSteps_frame t).axis]
  · rw [State.at_axis]

@[simp] theorem State.tick_variant (s : State) (t : Nat) : (s.tick t).variant = s.variant := by
  unfold State.tick
  split
  · rw [State.guardSync_variant, State.at_variant, (s.passSteps_frame t).variant]
  · rw [State.at_variant]

@[simp] theorem State.tick_dom (s : State) (t : Nat) : (s.tick t).dom = s.dom := by
  unfold State.tick
  split
  · rw [State.guardSync_dom, State.at_dom, (s.passSteps_frame t).dom]
  · rw [State.at_dom]

@[simp] theorem State.tick_mem (s : State) (t : Nat) : (s.tick t).mem = s.mem := by
  unfold State.tick
  split
  · rw [State.guardSync_mem, State.at_mem, (s.passSteps_frame t).mem]
  · rw [State.at_mem]

@[simp] theorem State.tick_held (s : State) (t : Nat) : (s.tick t).held = s.held := by
  unfold State.tick
  split
  · rw [State.guardSync_held, State.at_held, (s.passSteps_frame t).held]
  · rw [State.at_held]

@[simp] theorem State.tick_clocks (s : State) (t : Nat) : (s.tick t).clocks = s.clocks := by
  unfold State.tick
  split
  · rw [State.guardSync_clocks, State.at_clocks, (s.passSteps_frame t).clocks]
  · rw [State.at_clocks]

@[simp] theorem State.tick_vbat (s : State) (t : Nat) : (s.tick t).vbat = s.vbat := by
  unfold State.tick
  split
  · rw [State.guardSync_vbat, State.at_vbat, (s.passSteps_frame t).vbat]
  · rw [State.at_vbat]

@[simp] theorem State.tick_mram (s : State) (t : Nat) : (s.tick t).mram = s.mram := by
  unfold State.tick
  split
  · rw [State.guardSync_mram, State.at_mram, (s.passSteps_frame t).mram]
  · rw [State.at_mram]

@[simp] theorem State.tick_slave (s : State) (t : Nat) : (s.tick t).slave = s.slave := by
  unfold State.tick
  split
  · rw [State.guardSync_slave, State.at_slave, (s.passSteps_frame t).slave]
  · rw [State.at_slave]

@[simp] theorem State.tick_engine (s : State) (t : Nat) : (s.tick t).engine = s.engine := by
  unfold State.tick
  split
  · rw [State.guardSync_engine, State.at_engine, (s.passSteps_frame t).engine]
  · rw [State.at_engine]

@[simp] theorem State.tick_sched (s : State) (t : Nat) : (s.tick t).sched = s.sched := by
  unfold State.tick
  split
  · rw [State.guardSync_sched, State.at_sched, (s.passSteps_frame t).sched]
  · rw [State.at_sched]

@[simp] theorem State.tick_port (s : State) (t : Nat) : (s.tick t).port = s.port := by
  unfold State.tick
  split
  · rw [State.guardSync_port, State.at_port, (s.passSteps_frame t).port]
  · rw [State.at_port]

@[simp] theorem State.tick_heater (s : State) (t : Nat) : (s.tick t).heater = s.heater := by
  unfold State.tick
  split
  · rw [State.guardSync_heater, State.at_heater, (s.passSteps_frame t).heater]
  · rw [State.at_heater]

@[simp] theorem State.tick_render (s : State) (t : Nat) : (s.tick t).render = s.render := by
  unfold State.tick
  split
  · rw [State.guardSync_render, State.at_render, (s.passSteps_frame t).render]
  · rw [State.at_render]

@[simp] theorem State.tick_jigsaw (s : State) (t : Nat) : (s.tick t).jigsaw = s.jigsaw := by
  unfold State.tick
  split
  · rw [State.guardSync_jigsaw, State.at_jigsaw, (s.passSteps_frame t).jigsaw]
  · rw [State.at_jigsaw]

@[simp] theorem State.tick_ingest (s : State) (t : Nat) : (s.tick t).ingest = s.ingest := by
  unfold State.tick
  split
  · rw [State.guardSync_ingest, State.at_ingest, (s.passSteps_frame t).ingest]
  · rw [State.at_ingest]

@[simp] theorem State.tick_camera (s : State) (t : Nat) : (s.tick t).camera = s.camera := by
  unfold State.tick
  split
  · rw [State.guardSync_camera, State.at_camera, (s.passSteps_frame t).camera]
  · rw [State.at_camera]

@[simp] theorem State.tick_kaleido (s : State) (t : Nat) : (s.tick t).kaleido = s.kaleido := by
  unfold State.tick
  split
  · rw [State.guardSync_kaleido, State.at_kaleido, (s.passSteps_frame t).kaleido]
  · rw [State.at_kaleido]

@[simp] theorem State.tick_analyser (s : State) (t : Nat) : (s.tick t).analyser = s.analyser := by
  unfold State.tick
  split
  · rw [State.guardSync_analyser, State.at_analyser, (s.passSteps_frame t).analyser]
  · rw [State.at_analyser]

@[simp] theorem State.tick_stack (s : State) (t : Nat) : (s.tick t).stack = s.stack := by
  unfold State.tick
  split
  · rw [State.guardSync_stack, State.at_stack, (s.passSteps_frame t).stack]
  · rw [State.at_stack]

@[simp] theorem State.tick_sram (s : State) (t : Nat) : (s.tick t).sram = s.sram := by
  unfold State.tick
  split
  · rw [State.guardSync_sram, State.at_sram, (s.passSteps_frame t).sram]
  · rw [State.at_sram]

@[simp] theorem State.tick_dma (s : State) (t : Nat) : (s.tick t).dma = s.dma := by
  unfold State.tick
  split
  · rw [State.guardSync_dma, State.at_dma, (s.passSteps_frame t).dma]
  · rw [State.at_dma]

@[simp] theorem State.tick_pend (s : State) (t : Nat) : (s.tick t).pend = s.pend := by
  unfold State.tick
  split
  · rw [State.guardSync_pend, State.at_pend, (s.passSteps_frame t).pend]
  · rw [State.at_pend]

@[simp] theorem State.tick_pending (s : State) (t : Nat) : (s.tick t).pending = s.pending := by
  unfold State.tick
  split
  · rw [State.guardSync_pending, State.at_pending, (s.passSteps_frame t).pending]
  · rw [State.at_pending]

@[simp] theorem State.tick_draws (s : State) (t : Nat) : (s.tick t).draws = s.draws := by
  unfold State.tick
  split
  · rw [State.guardSync_draws, State.at_draws, (s.passSteps_frame t).draws]
  · rw [State.at_draws]

/-- A part of the position unit's hidden state that the mark of a reversal does not touch. -/
theorem State.tick_position {β : Type} (f : Position → β) (hf : ∀ p, f (p.part) = f p) (s : State) (t : Nat) :
    f (s.tick t).position = f s.position := by
  rw [← hf, State.tick_part, hf]

theorem State.tick_gated (s : State) (t : Nat) (k : Key) : (s.tick t).gated k = s.gated k := by
  simp only [State.gated, State.tick_clocks]

theorem State.tick_byte (s : State) (t : Nat) (a : Nat) : (s.tick t).byte a = s.byte a := by
  simp only [State.byte, State.tick_mem]

theorem State.tick_domain (s : State) (t : Nat) (k : Key) : (s.tick t).domain k = s.domain k := by
  simp only [State.domain, State.tick_dom]

end Sys2Proof.Machine
end

