-- ==== Sys2Proof/Tests/Slice0.lean ====
section
/-! SUPPORT. Tests: commands that well-formedness refuses, and for every statement a state and operands that meet its conditions, with what the spec says of the outcome. -/

namespace Sys2Proof.Tests
open Sys2Proof Sys2Proof.Machine Sys2Proof.Claims
set_option Elab.async false

/-- The state after reset with some objects changed. -/
def put (l : List (Key × Nat)) : State := l.foldl (fun s kv => s.setObj kv.1 kv.2) State.reset

/-- The same in AL state OP. -/
def op (l : List (Key × Nat)) : State := (put l).modSlave fun sl => { sl with al := .op }

/-- A read of an MRAM record that meets no error. -/
def cleanRead : MramRead := { finds := [], crcBad := false }

/-- The end of an ID read at clock 9, with a clean health map entry. -/
def idEnd : IdEnd := { health := cleanRead, t := 9 }

/-- A state with timing clocks running. -/
def running (s : State) : State := s.modClocks fun c => { c with ctl := .run }

/-- The command answers a next state in which `p` holds. -/
def gives (i : Instr) (s : State) (p : State → Bool) : Bool :=
  match exec i s with
  | .next u => p u
  | _ => false

/-- A cycle whose events are given, with nothing loaded. -/
def cycle (m : Nat) (events : List (Nat × Option Nat)) : Cycle :=
  { m := m, part := events.foldl (fun a kt => a ||| 1 <<< kt.1) 0, events := events, data := [], caps := [],
    late := 0, loadAt := none, loaded := false, released := false, blank := 0, fast := false, slip := false,
    delayed := none, shift := 0, ripe := [], latchAt := none, warm := false, warmWidth := 0, width := 300, gap := 40,
    firstAt := none, fired := [], pulses := [], withdrawn := 0 }

/-- A small head record: `c` columns of `g` groups and `nz` nozzles, one die. -/
def head (c g nz : Nat) : Bytes :=
  patch (patch (List.replicate 128 0#8) 0x0C [BitVec.ofNat 8 c, BitVec.ofNat 8 g]) 0x0E (leBytes 2 nz)

/-- A valid record of 2 columns of 2 groups and 8 nozzles, one die, with its CRC-32C 0xF1DCEB1B computed apart from the model. -/
def validHead : Bytes :=
  [(0x0, 66), (0x1, 72), (0x2, 68), (0x3, 82), (0x5, 1), (0x7, 1), (0x8, 119), (0xc, 2), (0xd, 2), (0xe, 8), (0x12, 1), (0x13, 2),
    (0x14, 1), (0x15, 5), (0x16, 40), (0x18, 250), (0x1a, 232), (0x1b, 3), (0x1c, 44), (0x1d, 1), (0x1e, 40), (0x20, 4), (0x22, 100),
    (0x40, 100), (0x44, 10), (0x45, 10), (0x48, 100), (0x4a, 44), (0x4b, 1), (0x4d, 1), (0x4e, 10), (0x51, 40), (0x53, 45), (0x55, 55),
    (0x57, 60), (0x59, 1), (0xfc, 27), (0xfd, 235), (0xfe, 220), (0xff, 241)].foldl
    (fun r p => patch r p.1 [BitVec.ofNat 8 p.2]) (List.replicate 256 0#8)

/-- Port 1 with the valid record and its limits in force. -/
def withHead (l : List (Key × Nat)) : State :=
  (put ([(0x300103, 300), (0x300105, 4), (0x310106, 300), (0x310108, 4)] ++ l)).setDomain 0x300120 validHead

theorem test_register_access_codes :
    (gives (.registerWrite 0x10900020 0x12345678 0) State.reset (fun u => u.obj 0x5E0018 = 0x12345678 && u.slave.resp = .busDone) &&
    gives (.registerWrite 0x10900030 0xFFFFFFFF 0) State.reset (fun u => u.obj 0x5E0020 = 0) &&
    gives (.registerWrite 0x10900010 3 1) (put [(0x5E0010, 7)]) (fun u => u.obj 0x5E0010 = 5) &&
    gives (.rcRegisterRead 0x10800100 true) (put [(0x210020, 9)]) (fun u => u.slave.resp = .busData 9 && u.obj 0x210020 = 1) &&
    gives (.rcRegisterRead 0x10800100 false) (put [(0x210020, 9)]) (fun u => u.obj 0x210020 = 0) &&
    gives (.rcRegisterRead 0x10900050 false) State.reset (fun u => u.slave.resp = .busData 0) &&
    gives (.registerWrite 0x02800000 1 0) State.reset (fun u => u.slave.resp = .decodeError) &&
    gives (.rcRegisterRead 0x10900002 false) State.reset (fun u => u.slave.resp = .decodeError)) = true := by decide +kernel

theorem test_register_pairs :
    (gives (.pairLoRead 0x10A00114) (put [(0x5F100A, 0x1122334455667788)]) (fun u => u.slave.resp = .busData 0x55667788 &&
      gives (.rcRegisterRead 0x10A00118 false) (u.setObj 0x5F100A 5) (fun w => w.slave.resp = .busData 0x11223344)) &&
    gives (.registerWrite 0x10800024 7 0) State.reset (fun u => !u.vbat.rtcValid &&
      gives (.pairHiWrite 0x10800028 2) u (fun w => w.rtc = 0x200000007 && w.vbat.rtcValid))) = true := by decide +kernel

/-- The gate of head port 3 is closed. -/
theorem test_gated_registers :
    (let s := (put [(0x300302, 77)]).modClocks fun k => { k with closed := 8 }
     gives (.registerWrite 0x10103008 0xFFFFFFFF 0) s (fun u => u.obj 0x300302 = 77 && u.slave.resp = .busDone) &&
     gives (.rcRegisterRead 0x10103008 false) s (fun u => u.slave.resp = .busData 0)) = true := by decide +kernel

/-- RATIO takes its halves together, and a value beyond 2^40 not at all (R61, R92, R93). -/
theorem test_ratio_pair :
    (gives (.registerWrite 0x10600010 5 0) (put [(0x220004, 9)]) (fun u => u.obj 0x220004 = 9 &&
      gives (.pairHiWrite 0x10600014 0x100) u (fun w => w.obj 0x220004 = 9) &&
      gives (.pairHiWrite 0x10600014 0xFF) u (fun w => w.obj 0x220004 = 0xFF00000005))) = true := by decide +kernel

/-- In ARMED a write of the lower half sets CONFIG_ERR (R61). -/
theorem test_ratio_lo_locked :
    gives (.registerWrite 0x10600010 5 0) (put [(0x220004, 9), (0x5F1006, 2)]) (fun u => u.obj 0x220004 = 9 && u.bit 0x220015 10) = true := by
  decide +kernel

/-! Position. -/

/-- Samples of a pair that agree and that disagree (R43). -/
def sound : PairSample := { p := true, n := false, d := true }
def broken : PairSample := { p := true, n := true, d := true }

/-- 200 clocks in disagreement, with a sound one before them. -/
def brokenLine : List PairSample := sound :: List.replicate 200 broken

/-- ENC_EN takes 1 with a ratio; a wire fault declared before the write of 0 is cleared (R47, R62, R64). -/
theorem test_encoder_enable :
    gives (.encoderEnable .reg true false sound sound broken 5)
      ((put [(0x220004, 0x3C78F1E4), (0x220015, 0x40), (0x220017, 9)]).modPosition fun p => { p with clearArmed := true, faultZ := true })
      (fun u => u.obj 0x220001 = 1 && u.obj 0x220015 = 1 && u.obj 0x220017 = 9 && !u.position.faultZ && u.position.a) = true := by
  decide +kernel

/-- R62: with a ratio of 0 the enable is refused with CONFIG_ERR. -/
theorem test_encoder_enable_without_ratio :
    gives (.encoderEnable .sdo true false sound sound sound 5) (op []) (fun u => u.obj 0x220001 = 0 && u.obj 0x220015 = 0x400 &&
      u.slave.resp = .abort 0x06090030) = true := by decide +kernel

/-- R60: in ARMED an SDO enable is refused and nothing changes, and a register write sets CONFIG_ERR (R61). -/
theorem test_encoder_enable_locked :
    (gives (.encoderEnable .sdo true false sound sound sound 5) (op [(0x5F1006, 2), (0x220004, 1)]) (fun u => u.obj 0x220015 = 0 &&
      u.slave.resp = .abort 0x08000022) &&
    gives (.encoderEnable .reg true false sound sound sound 5) (op [(0x5F1006, 2), (0x220004, 1)]) (fun u => u.obj 0x220015 = 0x400)) = true := by
  decide +kernel

/-- R47: with A in disagreement the enable is refused, and a declared fault stays. -/
theorem test_encoder_enable_in_disagreement :
    gives (.encoderEnable .sdo true false broken sound sound 5) ((op [(0x220004, 1), (0x220006, 1), (0x220015, 0x40)]).modPosition fun p => { p with faultA := true })
      (fun u => u.obj 0x220001 = 0 && u.obj 0x220015 = 0x440 && u.position.faultA && u.slave.resp = .abort 0x08000022) = true := by decide +kernel

theorem test_encoder_disable :
    (reaches .reg (put [(0x220001, 1)]) 0x220001 &&
    gives (.encoderDisable .reg 7) (put [(0x220001, 1), (0x220015, 0x441)]) (fun u => u.obj 0x220001 = 0 && u.obj 0x220015 = 0x40 &&
      u.position.clearArmed)) = true := by decide +kernel

/-- A state that counts, with the press's ratio and A leading B next. -/
def counting (l : List (Key × Nat)) : State := running (put ([(0x220001, 1), (0x220004, 0x3C78F1E4)] ++ l))

/-- A rises while B is low: forward with DIR_INV 0, and with DIR_INV 1 backward past 0 (R51, R55). -/
theorem test_counting_edge :
    (gives (.countingEdge true 16 1000) (counting []) (fun u => u.obj 0x220017 = 1 && u.position.acc = 0x3C78F1E4 &&
      u.obj 0x220020 = 0x3C78 && u.obj 0x220028 = 1 && u.obj 0x220021 = 2 * (1000 - 18)) &&
    gives (.countingEdge true 16 1000) (counting [(0x220002, 1)]) (fun u => u.obj 0x220017 = 0xFFFFFFFF &&
      u.position.acc = 0xFFFFFFFFC3870E1C)) = true := by decide +kernel

/-- A wire fault on B in PRINTING stops counting and puts the engine into FAULT with cause ENC_WIRE (R45). -/
theorem test_wire_fault :
    gives (.wireFault true brokenLine 9) (counting [(0x5F1006, 3), (0x220015, 0x25)]) (fun u => u.obj 0x220015 = 0x40 && u.obj 0x220016 = 4 &&
      u.obj 0x220051 = 1 && u.engineState = 6 && u.obj 0x5F1008 = 134) = true := by decide +kernel

theorem test_wire_fault_standby :
    gives (.wireFault false brokenLine 9) (counting [(0x5F1006, 1), (0x220015, 0x25)]) (fun u => u.obj 0x220015 = 0x40 && u.obj 0x220016 = 2 &&
      u.engineState = 1) = true := by decide +kernel

theorem test_wire_z :
    gives (.wireZ brokenLine 9) (counting [(0x220006, 7), (0x5F1006, 3)]) (fun u => u.position.faultZ && u.obj 0x220016 = 8 && u.engineState = 3) = true := by
  decide +kernel

/-- A budget of 0 trips at the first illegal transition (R53). -/
theorem test_illegal_transition :
    (gives (.illegalTransition 16 9) (counting [(0x22000C, 0), (0x5F1006, 2), (0x220015, 4)]) (fun u => u.obj 0x220016 = 0x11 &&
      u.engineState = 6 && u.position.a && u.position.b && u.obj 0x220017 = 0) &&
    gives (.illegalTransition 16 9) (counting [(0x22000C, 1), (0x5F1006, 2), (0x220015, 4)]) (fun u => u.obj 0x220016 = 1 &&
      u.engineState = 2 && u.obj 0x220015 = 0)) = true := by decide +kernel

/-- The default stall time of 10 ms is 5,000,000 timing clocks (R66). -/
theorem test_stall :
    (gives (.stall 5000000) (counting [(0x220015, 4)]) (fun u => u.obj 0x220015 = 8 && u.obj 0x220016 = 0x20) &&
    gives (.stall 4999999) (counting [(0x220015, 4)]) (fun u => u.obj 0x220015 = 4 && u.obj 0x220016 = 0)) = true := by decide +kernel

/-- Counts per Z of 100: 100 counts since the last Z agree, 101 do not (R54). -/
theorem test_z_event :
    (gives (.zEvent 16 50) ((counting [(0x220007, 1), (0x220005, 100), (0x220017, 107)]).modPosition fun p => { p with zCount := some 7 })
      (fun u => u.obj 0x220054 = 0 && u.obj 0x220029 = 1 && u.obj 0x220017 = 107) &&
    gives (.zEvent 16 50) ((counting [(0x220007, 1), (0x220005, 100), (0x220017, 108)]).modPosition fun p => { p with zCount := some 7 })
      (fun u => u.obj 0x220054 = 1 && u.obj 0x220016 = 0x80)) = true := by decide +kernel

theorem test_origin_latch :
    gives (.originLatch ⟨false, 16⟩ 50) ((counting [(0x5F1006, 3)]).modPosition fun p => { p with await := some 1, acc := 0x500000000 })
      (fun u => u.obj 0x220018 = 0x50000 && u.bit 0x220015 5 && u.obj 0x220016 = 0x4000 && u.position.await = none &&
        u.obj 0x220013 = 0) = true := by decide +kernel

/-- LIN_FALL 1 selects the falling edge (R71). -/
theorem test_latch_in_edge :
    (gives (.latchInEdge true 2 50) ((counting [(0x220007, 6)]).modPosition fun p => { p with acc := 0x500000000 })
      (fun u => u.obj 0x220024 = 0x50000 && u.obj 0x22002A = 1) &&
    gives (.latchInEdge false 2 50) (counting [(0x220007, 6)]) (fun u => u.obj 0x22002A = 0)) = true := by decide +kernel

/-- The shortest frame period of the worked example is 36.8 µs (R83). -/
theorem test_bar_mode_write :
    (gives (.barModeWrite .sdo 1) (op [(0x220033, 37)]) (fun u => u.obj 0x220030 = 1) &&
    gives (.barModeWrite .sdo 1) (op [(0x220033, 36)]) (fun u => u.obj 0x220030 = 0 && u.obj 0x220015 = 0x400 &&
      u.slave.resp = .abort 0x06090030)) = true := by decide +kernel

/-- The default period of 50 µs is 25,000 clocks; a period of 0 starts a frame at a SYNC0 event (R82). -/
theorem test_bar_frame_start :
    (gives (.barFrameStart false 50) (running (put [(0x220030, 1)])) (fun u => u.position.barFrame = some 100) &&
    gives (.barFrameStart false 25049) ((running (put [(0x220030, 1)])).modPosition fun p => { p with barStart := some 50 })
      (fun u => u.position.barFrame = none) &&
    gives (.barFrameStart false 9) ((running (put [(0x220030, 1), (0x220033, 0)])).modPosition fun p => { p with sync0At := some 9 })
      (fun u => u.position.barFrame = some 18) &&
    gives (.barFrameStart true 50) (running (put [(0x220030, 2)])) (fun u => u.obj 0x220015 = 0x200 && u.obj 0x220016 = 0x800 &&
      u.obj 0x220058 = 1)) = true := by decide +kernel

/-- The default timeout of 20 µs has passed since the frame's start; the third consecutive rejection reaches the failure budget of 3 (R79, R85). -/
theorem test_bar_frame_timeout :
    (gives (.barFrameTimeout none 10000) ((running (put [(0x220030, 1), (0x220015, 0x100)])).modPosition fun p =>
        { p with barFrame := some 4, barStart := some 0, barBad := 2 })
      (fun u => u.obj 0x220015 = 0x200 && u.obj 0x220016 = 0x2800 && u.bit 0x5E0010 9) &&
    gives (.barFrameTimeout none 9999) ((running (put [(0x220030, 1), (0x220015, 0x100)])).modPosition fun p =>
        { p with barFrame := some 4, barStart := some 0, barBad := 2 })
      (fun u => u.obj 0x220015 = 0x100)) = true := by decide +kernel

/-- R79: after the last CRC bit the timeout of 20 µs runs anew. -/
theorem test_bar_frame_timeout_after_crc :
    (gives (.barFrameTimeout (some 10) 10009) ((running (put [(0x220030, 1)])).modPosition fun p => { p with barFrame := some 4, barStart := some 0 })
      (fun u => u.obj 0x220016 = 0) &&
    gives (.barFrameTimeout (some 10) 10010) ((running (put [(0x220030, 1)])).modPosition fun p => { p with barFrame := some 4, barStart := some 0 })
      (fun u => u.obj 0x220016 = 0x800)) = true := by decide +kernel

/-- An 8-bit position 0x5A with nE and nW high has CRC-6 0x2F over its ten bits, sent inverted; a bar ratio of 1 pixel a count gives 0x5A0000 (R78, R84). -/
theorem test_bar_sample :
    (gives (.barSample 0x5A true true 0x10 60)
      ((running (put [(0x220030, 1), (0x220032, 8), (0x220037, 0x100000000)])).modPosition fun p => { p with barFrame := some 100 })
      (fun u => u.obj 0x220040 = 0x5A0000 && u.obj 0x220041 = 0x5A && u.obj 0x220042 = 100 && u.obj 0x220016 = 0) &&
    gives (.barSample 0x5A true true 0x11 60)
      ((running (put [(0x220030, 1), (0x220032, 8), (0x220037, 0x100000000)])).modPosition fun p => { p with barFrame := some 100 })
      (fun u => u.obj 0x220040 = 0 && u.obj 0x220016 = 0x100 && u.obj 0x220055 = 1 && u.bit 0x220015 9)) = true := by decide +kernel

/-! The fire scheduler. -/

/-- A job that prints at web position 5 lines on port 1, whose cycle 5 is in progress. -/
def printing (c : Cycle) (l : List (Key × Nat)) : State :=
  (((running (put ([(0x5F1006, 3), (0x5F1009, 0xFFFFFFFF), (0x220013, 0x50000), (0x320119, 3), (0x300101, 1)] ++ l))).setDomain
    0x300120 (head 2 2 8)).modPosition fun p => { p with acc := 0x500000000 }).modPort 1 fun p => { p with cur := some c }

/-- Column 0 fires line 5: its two groups join the queue, and column 1 is still to come (R94, R97). -/
theorem test_line_event :
    gives (.lineEvent 1 0 30) (printing { cycle 5 [(0, some 10), (1, some 90)] with firstAt := some 4 } [])
      (fun u => (u.port.get 1).queue = [(0, 0), (0, 1)] && u.obj 0x32011C = 5 &&
        ((u.port.get 1).cur.map fun c => c.events) = some [(1, some 90)]) = true := by decide +kernel

/-- The guarded position stands one line short of the target of cycle 6, more than the tolerance (R104). -/
theorem test_event_withdrawal :
    gives (.eventWithdrawal 1 0 30) (printing { cycle 6 [(0, some 10)] with firstAt := some 4 } [])
      (fun u => u.obj 0x230021 = 1 && u.obj 0x330107 = 1 && u.obj 0x330102 = 0 &&
        ((u.port.get 1).cur.map fun c => c.events) = some [(0, none)]) = true := by decide +kernel

theorem test_slow_req_pin_change :
    gives (.slowReqPinChange true 5) (put []) (fun u => u.sched.external && u.obj 0x230025 = 0) = true := by decide +kernel

/-- The drive ends with the hold time, and not before (R113). -/
theorem test_slow_req_release :
    (gives (.slowReqRelease 70) ((running (put [(0x5F1006, 3)])).modSched fun h => { h with drive := true, holdOther := some 70 })
      (fun u => !u.sched.drive) &&
    gives (.slowReqRelease 69) ((running (put [(0x5F1006, 3)])).modSched fun h => { h with drive := true, holdOther := some 70 })
      (fun u => u.sched.drive)) = true := by decide +kernel

/-- The event table of a commit: fire line 140,700 and distance 1,024 give boundary 141,824; a port before its first line has 1,024 (R118). -/
theorem test_arm_commit :
    gives (.armCommit .reg 0 5) (put [(0x5F1006, 3), (0x32001C, 140700)])
      (fun u => u.obj 0x230012 = 1 && u.obj 0x230014 = 1 && u.obj 0x32001D = 141824 && u.obj 0x32011D = 1024 &&
        u.bit 0x32001F 3) = true := by decide +kernel

/-- In DISABLED the commit is refused (R124). -/
theorem test_arm_commit_disabled :
    gives (.armCommit .sdo 0 5) (op []) (fun u => u.obj 0x230013 = 5 && u.obj 0x230026 = 1 && u.slave.resp = .abort 0x08000022) = true := by
  decide +kernel

set_option maxRecDepth 50000 in
/-- Column 1 of port 2 has fired line 256, the boundary: the transfer completes, and with it the commit (R121). -/
theorem test_port_transfer :
    gives (.portTransfer 2) ((put [(0x5F1006, 3), (0x230012, 1), (0x230014, 4), (0x320219, 2), (0x32021D, 256), (0x32021F, 8), (0x32020A, 9),
      (0x300203, 400)]).modPort 2 fun p => { p with lines := [(1, 257)] })
      (fun u => u.obj 0x320212 = 9 && u.obj 0x310206 = 400 && u.obj 0x32021D = 0xFFFFFFFF && u.obj 0x230012 = 0 && u.obj 0x230015 = 4) = true := by
  decide +kernel

theorem test_cannot_mask_stop :
    gives (.cannotMaskStop 1 5) ((put [(0x5F1006, 3), (0x5F1009, 0xFFFFFFFF), (0x32011C, 512)]).modJigsaw 1 fun p => { p with stopAt := some 512 })
      (fun u => u.engineState = 5 && u.engine.heldFrom = 3 && u.obj 0x5F1007 = 3) = true := by decide +kernel

/-- A cycle in progress is recorded LOCKSTEP, and the engine faults with cause 133 (R129, R692). -/
theorem test_lockstep_mismatch :
    gives (.lockstepMismatch 2 30) (printing { cycle 5 [(0, some 90)] with loadAt := some 4 } [])
      (fun u => u.engineState = 6 && u.obj 0x5F1008 = 133 && u.obj 0x230024 = 1 && (u.port.get 1).cur = none &&
        u.obj 0x330102 = 1) = true := by decide +kernel

/-- STANDBY, the set open and the expected CRC 0 (R123). -/
theorem test_commit_in_standby_can_happen :
    (reachesPdo .pdo (op [(0x5F1006, 1)]) 0x230010 && (op [(0x5F1006, 1)]).engineState = 1 && (op [(0x5F1006, 1)]).obj 0x230012 = 0 &&
      (op [(0x5F1006, 1)]).obj 0x230011 = 0) = true := by decide +kernel

/-- Before the boundary, and with no transfer pending, nothing comes into force (R121). -/
theorem test_port_transfer_waits :
    (gives (.portTransfer 2) ((put [(0x5F1006, 3), (0x230012, 1), (0x320219, 2), (0x32021D, 256), (0x32021F, 8), (0x32020A, 9)]).modPort 2
        fun p => { p with lines := [(1, 256)] })
      (fun u => u.obj 0x320212 = 0 && u.bit 0x32021F 3) &&
    gives (.portTransfer 2) ((put [(0x5F1006, 3), (0x320219, 2), (0x32020A, 9)]).modPort 2 fun p => { p with lines := [(1, 257)] })
      (fun u => u.obj 0x320212 = 0)) = true := by decide +kernel

/-- Two columns of one clock strobe in COL_ORDER, whichever event comes first (R97, R154). -/
theorem test_line_events_of_one_clock :
    gives (.lineEvent 1 0 30) ((printing { cycle 5 [(0, some 10)] with firstAt := some 4, part := 3, fired := [(1, 30)] } [(0x320111, 9)]).modPort 1
        fun p => { p with queue := [(1, 0), (1, 1)] })
      (fun u => (u.port.get 1).queue = [(1, 0), (1, 1), (0, 0), (0, 1)]) = true := by decide +kernel

/-! Head ports. -/

set_option maxRecDepth 20000 in
theorem test_hdr_write :
    (gives (.hdrWrite .sdo 1 validHead) (op []) (fun u => u.domain 0x300120 = validHead && u.obj 0x300103 = 300 && u.obj 0x310107 = 40 &&
      u.obj 0x310108 = 4 && u.slave.resp = .done) &&
    gives (.hdrWrite .sdo 1 (patch validHead 0x0C [9#8])) (op []) (fun u => u.domain 0x300120 = [] && u.obj 0x310109 = 0x100 &&
      u.slave.resp = .abort 0x06090030)) = true := by decide +kernel

theorem test_port_enable :
    (gives (.portEnable .reg 1 5) (put []) (fun u => u.portState 1 = 5 && u.obj 0x300101 = 1) &&
    gives (.portEnable .sdo 1 5) (op [(0x5F1006, 2)]) (fun u => u.portState 1 = 0 && u.obj 0x310102 = 8 &&
      u.slave.resp = .abort 0x08000022)) = true := by decide +kernel

/-- The ROM identifier 02 1C B8 01 00 00 00 with its CRC-8 A2, a worked example of the one-wire CRC from outside the spec, and head type 0x77 with its CRC-8 0x2E, computed apart from the model. -/
def good : IdAttempt := { rom := 0xA200000001B81C02, mem := 0x2E00000077 }

/-- The type 0x77 of the record gives IDLE; another gives HEAD_MISMATCH; two CRC-8 failures give ID_CRC (R143). -/
theorem test_id_read_done :
    (gives (.idReadDone 1 false { good with rom := good.rom ^^^ 1 } good idEnd) (withHead [(0x300101, 1), (0x310101, 5)])
      (fun u => u.portState 1 = 1 && u.obj 0x310102 = 1 && u.obj 0x310103 = 0xA200000001B81C02 && u.obj 0x33010E = 1) &&
    gives (.idReadDone 1 false { good with mem := 0xB400000078 } good idEnd) (withHead [(0x300101, 1), (0x310101, 5)]) (fun u => u.portState 1 = 0 && u.obj 0x310102 = 4 &&
      u.obj 0x300101 = 0 && u.bit 0x310109 6 && u.obj 0x33010F = 1) &&
    gives (.idReadDone 1 false { good with mem := 0x78 } { good with rom := 5 } idEnd) (withHead [(0x300101, 1), (0x310101, 5)]) (fun u => u.obj 0x310102 = 5 && u.obj 0x33010E = 2)) = true := by
  decide +kernel

/-- A health map entry of the head's serial is restored, with a corrected word counted; an entry that cannot be read counts as a changed head (R329, R651). -/
theorem test_health_entry_read :
    (let s := (withHead [(0x300101, 1), (0x310101, 5)]).modMram fun m =>
       { m with health := [(1, { serial := good.rom, states := [7#8], bins := [], firing := [] })] }
     gives (.idReadDone 1 false good good { idEnd with health := ⟨[.single], false⟩ }) s (fun u => u.bit 0x380107 5 && !u.bit 0x380108 5 &&
       u.domain 0x380111 = [7#8] && u.obj 0x5E0054 = 1) &&
     gives (.idReadDone 1 false good good { idEnd with health := ⟨[.double], false⟩ }) s (fun u => !u.bit 0x380107 5 && u.bit 0x380108 5 &&
       u.domain 0x380111 = [] && u.mram.health.isEmpty && u.obj 0x5E0055 = 1 && u.bit 0x5E0011 13)) = true := by decide +kernel

theorem test_port_disable :
    gives (.portDisable .reg 1 5) (withHead [(0x300101, 1), (0x310101, 1)]) (fun u => u.portState 1 = 0 && u.obj 0x300101 = 0) = true := by
  decide +kernel

theorem test_slot_desc_write :
    gives (.slotDescWrite 1 2 15 0x2005 true 7) (put []) (fun u => u.slot 1 2 15 = { line := 0, cap := 5, ready := true, readyAt := 7, freed := none }) = true := by
  decide +kernel

/-- Port 1 with the cycle still to come. -/
def coming (c : Cycle) (l : List (Key × Nat)) : State :=
  ((printing c ([(0x310101, 1)] ++ l)).setDomain 0x300120 validHead).modPort 1 fun p => { p with
    cur := none, next := some c, slots := [(5, { line := 5, cap := 4, ready := true, readyAt := 0, freed := none }), (21, { line := 4, cap := 4, ready := true, readyAt := 0, freed := none })],
    model := [(0, 25)] }

/-- Column 0's slot holds line 5; column 1's holds another line, so column 1 is LATE (R158). -/
theorem test_load_start :
    gives (.loadStart 1 ⟨[], 30⟩) ((coming (cycle 5 [(0, none), (1, none)]) []).setByte 0x10A00 0x0F)
      (fun u => u.portState 1 = 2 && u.obj 0x330103 = 1 && u.obj 0x330111 = 1 && u.obj 0x31010D = 1 && !(u.slot 1 0 5).ready &&
        (u.port.get 1).chain = 0x0F && ((u.port.get 1).next.map fun c => (c.loadAt, c.late)) = some (some 30, 2)) = true := by decide +kernel

/-- Four bits in group 0 exceed a cap of 3 but not one of 4 (R161). -/
theorem test_load_end :
    (gives (.loadEnd 1 9000) (coming { cycle 5 [(0, none)] with loadAt := some 4, data := [(0, 0x55)], caps := [(0, 3)] } [])
      (fun u => u.obj 0x330109 = 1 && u.bit 0x310109 2 && ((u.port.get 1).next.map (·.blank)) = some 7) &&
    gives (.loadEnd 1 9000) (coming { cycle 5 [(0, none)] with loadAt := some 4, data := [(0, 0x55)], caps := [(0, 4)] } [])
      (fun u => u.obj 0x330109 = 0 && ((u.port.get 1).next.map (·.loaded)) = some true)) = true := by decide +kernel

theorem test_latch_transfer :
    gives (.latchTransfer 1 30) ((printing (cycle 5 []) []).modPort 1 fun p => { p with chain := 9, header := 7 })
      (fun u => (u.port.get 1).latches = 9 && (u.port.get 1).active = 7 && (u.port.get 1).dirty) = true := by decide +kernel

/-- Width 300 ns and gap 40 ns are 170 timing clocks, from 120 ns after the latch transfer (R153, R154). -/
theorem test_strobe :
    (gives (.strobe 1 69) ((printing { cycle 5 [] with latchAt := some 9, firstAt := some 9 } []).modPort 1 fun p =>
        { p with queue := [(0, 0), (0, 1)] })
      (fun u => (u.port.get 1).queue = [(0, 1)] && (u.port.get 1).pulseEnd = 219 && (u.port.get 1).slotEnd = 239) &&
    gives (.strobe 1 68) ((printing { cycle 5 [] with latchAt := some 9, firstAt := some 9 } []).modPort 1 fun p =>
        { p with queue := [(0, 0), (0, 1)] })
      (fun u => (u.port.get 1).queue = [(0, 0), (0, 1)])) = true := by decide +kernel

theorem test_cycle_end :
    gives (.cycleEnd 1 300) ((printing { cycle 5 [] with latchAt := some 9, firstAt := some 9 } []).modPort 1 fun p => { p with slotEnd := 300 })
      (fun u => (u.port.get 1).cur = none && u.obj 0x330101 = 1 && u.obj 0x31010A = 5 && (u.port.get 1).tsAt = some 300) = true := by
  decide +kernel

theorem test_header_only_frame :
    gives (.headerOnlyFrame 1 50000) (running (withHead [(0x310101, 1)]))
      (fun u => (u.port.get 1).frameAt = 50000 && (u.port.get 1).die = 0 && (u.port.get 1).chain = 0) = true := by decide +kernel

theorem test_flush_frame :
    gives (.flushFrame 1 9) ((running (withHead [(0x310101, 1)])).modPort 1 fun p => { p with flushDue := true, latches := 5, chain := 5, dirty := true })
      (fun u => (u.port.get 1).latches = 0 && (u.port.get 1).chain = 0 && !(u.port.get 1).flushDue) = true := by decide +kernel

/-- The fifth error of a window passes the budget of 4, and with action 1 the engine goes on (R166, R167). -/
theorem test_echo_verdict :
    (gives (.echoVerdict 1 4 16) ((running (withHead [(0x310101, 1), (0x5F1006, 3), (0x30010A, 1)])).modPort 1 fun p =>
        { p with echoDue := [{ cycle := 77, lines := [], bits := 5, len := 16 }], errors := 4 })
      (fun u => u.portState 1 = 4 && u.obj 0x330108 = 1 && u.obj 0x31010B = 77 && u.engineState = 3 && u.bit 0x310109 3) &&
    gives (.echoVerdict 1 5 16) ((running (withHead [(0x310101, 1), (0x5F1006, 3)])).modPort 1 fun p =>
        { p with echoDue := [{ cycle := 77, lines := [], bits := 5, len := 16 }], errors := 4 })
      (fun u => u.portState 1 = 1 && u.obj 0x330108 = 0 && (u.port.get 1).errors = 4)) = true := by decide +kernel

/-- 64 + 16 + 2 bits at divisor 100 take 4,100 ns, within the default interval (R146, R168). -/
theorem test_windup_start :
    gives (.windupStart .sdo 1 ⟨[], 9⟩) ((withHead [(0x310101, 1), (0x5F1006, 1)]).modSlave fun l => { l with al := .op })
      (fun u => u.portState 1 = 3 && u.obj 0x31010E = 1 && ((u.port.get 1).windup.map (·.shots)) = some 1) = true := by decide +kernel

theorem test_windup_shot :
    gives (.windupShot 1 9) ((running (withHead [(0x310101, 3), (0x31010E, 1), (0x5F1006, 1)])).modPort 1 fun p =>
        { p with windup := some { data := 6, shots := 1, due := 9, ending := 2 } })
      (fun u => u.portState 1 = 3 && u.obj 0x33010A = 1 && (u.port.get 1).latches = 6 && (u.port.get 1).flushDue &&
        gives (.flushFrame 1 (u.port.get 1).pulseEnd) u (fun w => w.portState 1 = 1 && w.obj 0x31010E = 2 && w.bit 0x310109 4)) = true := by
  decide +kernel

/-- The default interval of 50 µs is not over (R169). -/
theorem test_windup_shot_waits :
    gives (.windupShot 1 8) ((running (withHead [(0x310101, 3), (0x31010E, 1), (0x5F1006, 1)])).modPort 1 fun p =>
        { p with windup := some { data := 6, shots := 1, due := 9, ending := 2 } })
      (fun u => u.obj 0x33010A = 0) = true := by decide +kernel

/-- A stop between shots leaves the flush alone, and during the load of a shot that shot (R170). -/
theorem test_windup_stop :
    (gives (.windupStop .reg 1 9) ((withHead [(0x310101, 3)]).modPort 1 fun p => { p with windup := some { data := 6, shots := 3, due := 9999, ending := 2 } })
      (fun u => (u.port.get 1).windup = some { data := 6, shots := 0, due := 9999, ending := 3 } && (u.port.get 1).flushDue) &&
    gives (.windupStop .reg 1 9) ((withHead [(0x310101, 3)]).modPort 1 fun p => { p with
        windup := some { data := 6, shots := 3, due := 50, ending := 2 } })
      (fun u => (u.port.get 1).windup = some { data := 6, shots := 1, due := 50, ending := 3 })) = true := by decide +kernel

/-- The shortest load frame and the longest lane: bit 15 of the header leads lane 0, and chain bit 4 leads its second data position (R148, R149). -/
theorem test_lane_bits :
    (laneHeader 0x8000 0 = true :: List.replicate 15 false && laneData validHead 0x10 0 = [false, true, false, false] &&
      laneData validHead 0x10 1 = [false, false, false, false]) = true := by decide +kernel

/-- In predicted mode the load waits until the first event is the load time of 56 ns and the load margin ahead (R106). -/
theorem test_load_start_waits :
    (gives (.loadStart 1 ⟨[], 38971⟩) (coming (cycle 5 [(0, some 40000)]) [(0x230004, 2000)]) (fun u => u.portState 1 = 1) &&
    gives (.loadStart 1 ⟨[], 38972⟩) (coming (cycle 5 [(0, some 40000)]) [(0x230004, 2000)]) (fun u => u.portState 1 = 2)) = true := by decide +kernel

/-- A READY of the deadline's own clock comes too late (R28, R180). -/
theorem test_ready_at_deadline :
    gives (.loadStart 1 ⟨[], 30⟩) ((coming (cycle 5 [(0, none)]) []).modPort 1 fun p => { p with
        slots := [(5, { line := 5, cap := 4, ready := true, readyAt := 30, freed := none })] })
      (fun u => u.obj 0x330103 = 1) = true := by decide +kernel

/-- The folded echo of a header is the exclusive-or of its four parts, H[15] first (R162). -/
theorem test_header_fold :
    foldLanes (laneHeader 0x8000000100020001) = 1 + 2 ^ 14 + 0 * 2 ^ 15 := by decide +kernel

/-! Head temperature and ink heaters. -/

/-- Port 1 in IDLE with the valid record, whose die 0 has a model temperature. -/
def warmDie (m : Rat) (l : List (Key × Nat)) : State :=
  (running (withHead ([(0x310101, 1), (0x300101, 1)] ++ l))).modPort 1 fun p => { p with model := [(0, m)], modelAt := [(0, 0)] }

/-- Code 1,024 of a sense factor of 100/4,096 above code 0 at 25 °C is 50 °C; a weight of 10/256 pulls the model from 40 °C (R184, R187). 5,000 clocks are the SETTLE of 10 µs. -/
theorem test_ts_conversion_done :
    (gives (.tsConversionDone 1 1024 6000) ((warmDie 40 []).modPort 1 fun p => { p with tsAt := some 5000, dieAt := 0 })
      (fun u => findKey (u.port.get 1).model 0 = some (40 + 100 / 256) && findKey (u.port.get 1).meas 0 = some 50 &&
        u.obj 0x34010E = 0x3200 && u.obj 0x34010A = 0x3200 && u.bit 0x34011A 1) &&
    gives (.tsConversionDone 1 1024 6000) ((warmDie 40 []).modPort 1 fun p => { p with tsAt := some 4999, dieAt := 0 })
      (fun u => findKey (u.port.get 1).model 0 = some 40 && u.obj 0x340123 = 1 && u.obj 0x34010E = 0x8000)) = true := by decide +kernel

/-- The eighth invalid sample is SENSE_FAULT, and the die then stands at its limit; code 16 is valid and code 15 is not (R183, R185). -/
theorem test_ts_invalid :
    (gives (.tsConversionDone 1 15 6000) ((warmDie 40 [(0x30010A, 1)]).modPort 1 fun p => { p with tsAt := some 5000, invalid := [(0, 7)] })
      (fun u => u.obj 0x340122 = 1 && u.bit 0x34011A 4 && u.bit 0x34011A 3 && u.obj 0x340121 = 1 && u.engineState = 0) &&
    gives (.tsConversionDone 1 16 6000) ((warmDie (1625 / 64) []).modPort 1 fun p => { p with tsAt := some 5000, invalid := [(0, 7)] })
      (fun u => u.obj 0x340122 = 0 && (u.port.get 1).invalid = [])) = true := by decide +kernel

/-- 10 K above the reference over 1 K/W for 250 µs leave 10 mJ/K 0.25 K cooler (R186). -/
theorem test_thermal_idle_tick :
    gives (.thermalIdleTick 1 125000) (warmDie 35 [])
      (fun u => findKey (u.port.get 1).model 0 = some (139 / 4) && (u.port.get 1).tsAt = some 125000) = true := by decide +kernel

/-- 1 ms after the enable a model is the fixed reference of 25 °C (R189). -/
theorem test_model_init_timeout :
    gives (.modelInitTimeout 1 500000) ((warmDie 35 []).modPort 1 fun p => { p with model := [] })
      (fun u => findKey (u.port.get 1).model 0 = some 25) = true := by decide +kernel

/-- The reference head of the spec's example, die 0 at 46 °C, ink at 35 °C, firing at its full 117.4 W, settles at 79.025 °C: 1,875 ms times ln(33.025 / 9.025) to the limit (05_head_thermal.md, Worked example). -/
theorem test_ttl_update :
    gives (.ttlUpdate 9) (((warmDie 46 [(0x340104, 0x2300)]).setDomain 0x300120
        (patch (patch (patch validHead 0x4C [0x60#8, 0#8]) 0x4E (leBytes 2 5000)) 0x56 [0#8, 0x46#8])).modPort 1 fun p =>
        { p with energy := [(0, 0, 1878400000)] })
      (fun u => u.obj 0x340112 = 2432 && u.obj 0x340109 = 2432 && u.obj 0x340116 = 1174) = true := by decide +kernel

/-- T_WARN is 55 °C (R195). -/
theorem test_limit_clear :
    (gives (.limitClear .reg 1) (warmDie 54 [(0x34011A, 8)]) (fun u => u.obj 0x34011A = 0) &&
    gives (.limitClear .sdo 1) ((warmDie 55 [(0x34011A, 8)]).modSlave fun l => { l with al := .op })
      (fun u => u.obj 0x34011A = 8 && u.slave.resp = .abort 0x08000022)) = true := by decide +kernel

/-- The bias resistance at the nominal resistance is 25 °C; the third fault code in a row is SENSOR_FAULT (R196, R197). -/
theorem test_ntc_conversion :
    (gives (.ntcConversion 2 2048 9) (running (put [])) (fun u => (u.heater.get 2).temp = some 25 && u.obj 0x49020D = 0x1900) &&
    gives (.ntcConversion 2 4095 9) ((running (put [(0x490201, 1), (0x49020F, 1), (0x49020E, 77)])).modHeater 2 fun p =>
        { p with codes := [1], bad := 2 })
      (fun u => u.obj 0x49020F = 4 && u.obj 0x490201 = 0 && u.obj 0x49020E = 0 && u.obj 0x490210 = 2 && u.obj 0x490221 = 1) &&
    gives (.ntcConversion 2 4095 9) ((running (put [(0x490201, 1), (0x49020F, 1)])).modHeater 2 fun p => { p with codes := [1], bad := 1 })
      (fun u => u.obj 0x49020F = 1 && (u.heater.get 2).bad = 2)) = true := by decide +kernel

/-- Code 1,670 is the 35 °C of the spec's table (05_head_thermal.md, Ink heaters). -/
theorem test_ntc_temperature :
    (decide ((put []).ntcTemp 0 1670 - 35 < 1 / 20) && decide (35 - (put []).ntcTemp 0 1670 < 1 / 20)) = true := by decide +kernel

/-- Kp 0.25 at an error of 1 K is a duty of 0.25, and Ki 1 over 0.1 s adds 0.1 to the integral; an error of 5 K goes beyond a maximum of 0.5 (R199). -/
theorem test_pid_update :
    (gives (.pidUpdate 1 9) ((running (put [(0x49010F, 1), (0x490106, 0x4000), (0x490107, 0x10000)])).modHeater 1 fun p =>
        { p with temp := some 24 })
      (fun u => u.obj 0x49010E = 0x4000 && (u.heater.get 1).integral = 1 / 10) &&
    gives (.pidUpdate 1 9) ((running (put [(0x49010F, 1), (0x490105, 0x8000), (0x490106, 0x4000), (0x490107, 0x10000)])).modHeater 1
        fun p => { p with temp := some 20 })
      (fun u => u.obj 0x49010E = 0x8000 && (u.heater.get 1).integral = 0 && u.obj 0x490122 = 1 && u.bit 0x490110 3)) = true := by
  decide +kernel

theorem test_heater_cut :
    gives (.heaterCut 3 9) (put [(0x490301, 1), (0x49030F, 1), (0x49030E, 9), (0x5F1006, 3)])
      (fun u => u.obj 0x49030F = 3 && u.obj 0x49030E = 0 && u.obj 0x490320 = 1 && u.bit 0x490310 0 && u.engineState = 3) = true := by
  decide +kernel

theorem test_cut_clear :
    (gives (.cutClear .reg 3) (put [(0x49030F, 3)]) (fun u => u.obj 0x49030F = 0) &&
    gives (.cutClear .sdo 3) ((op [(0x49030F, 3)]).modHeater 3 fun p => { p with tripped := true })
      (fun u => u.obj 0x49030F = 3 && u.slave.resp = .abort 0x08000022)) = true := by decide +kernel

theorem test_cut_comparator_release :
    gives (.cutComparatorRelease 3) ((put [(0x49030F, 3)]).modHeater 3 fun p => { p with tripped := true })
      (fun u => !(u.heater.get 3).tripped && u.obj 0x49030F = 3) = true := by decide +kernel

/-- Mode 2 gives the manual duty up to the maximum; mode 1 is refused in CUT and sets CONFIG_REFUSED from a register write (R199, R202). -/
theorem test_heater_mode_write :
    (gives (.heaterModeWrite .pdo 0 2) (op [(0x490004, 9000), (0x490005, 8000)]) (fun u => u.obj 0x49000F = 2 && u.obj 0x49000E = 8000) &&
    gives (.heaterModeWrite .reg 0 1) (put [(0x49000F, 3)]) (fun u => u.obj 0x49000F = 3 && u.obj 0x490001 = 0 && u.bit 0x490010 4) &&
    gives (.heaterModeWrite .sdo 0 0) ((op [(0x49000F, 4)]).modHeater 0 fun p => { p with codes := [41, 4049, 2000, 4095] })
      (fun u => u.obj 0x49000F = 0 && u.slave.resp = .done) &&
    gives (.heaterModeWrite .sdo 0 0) ((op [(0x49000F, 4)]).modHeater 0 fun p => { p with codes := [40, 4049, 2000] })
      (fun u => u.obj 0x49000F = 4 && u.slave.resp = .done)) = true := by decide +kernel

/-- A mode in force already leaves the duty as it is, and so do a heater with fewer than three codes after SENSOR_FAULT (R197, R199). -/
theorem test_heater_mode_again :
    (gives (.heaterModeWrite .sdo 1 1) (op [(0x490101, 1), (0x49010F, 1), (0x49010E, 77)]) (fun u => u.obj 0x49010E = 77 && u.slave.resp = .done) &&
    gives (.heaterModeWrite .sdo 0 0) ((op [(0x49000F, 4)]).modHeater 0 fun p => { p with codes := [2000, 2000] })
      (fun u => u.obj 0x49000F = 4)) = true := by decide +kernel

/-! Raster ingest. -/

/-- A device in STANDBY for job 7, link 0 UP with addresses, four of eight channels ACTIVE and in service. -/
def ready (l : List (Key × Nat)) : State :=
  running (put ([(0x5F1006, 1), (0x250001, 1), (0x250004, 0x020000000001), (0x250006, 0x0A000001), (0x250030, 3), (0x250010, 7),
    (0x500020, 1), (0x500120, 1), (0x500220, 1), (0x500320, 1), (0x500420, 1), (0x500520, 1), (0x500620, 1), (0x500720, 1)] ++ l))

/-- The second 8 bytes of the raw tile of row 0, plane 0, column 1 of job 7, whose HDR_CRC 0x56C2 was computed apart from the model (R216). -/
def fragment : Bytes :=
  [0x4B, 0x54, 1, 1, 7, 0, 0, 0, 0, 0, 0, 1, 1, 0, 0, 0, 0, 0, 1, 0, 8, 0, 0, 0, 0x44, 0x33, 0x22, 0x11, 8, 0, 0xC2, 0x56,
    1, 2, 3, 4, 5, 6, 7, 8].map (BitVec.ofNat 8)

/-- A frame that carries a status request, with its IPv4 checksum computed apart from the model. -/
def statusFrame : Bytes :=
  [2, 0, 0, 0, 0, 1, 2, 0, 0, 0, 0, 170, 8, 0, 69, 0, 0, 32, 0, 0, 0, 0, 64, 17, 102, 203, 10, 0, 0, 2, 10, 0, 0, 1, 17, 17, 75, 82,
    0, 12, 0, 0, 75, 84, 1, 129].map (BitVec.ofNat 8)

theorem test_link_enable :
    (gives (.linkEnable .sdo 1 1 9) (op [(0x250005, 1), (0x250007, 1)]) (fun u => u.linkState 1 = 1 && u.slave.resp = .done) &&
    gives (.linkEnable .sdo 1 1 9) (op [(0x250005, 1)]) (fun u => u.linkState 1 = 0 && u.obj 0x25003C = 0x400 &&
      u.slave.resp = .abort 0x06090030) &&
    gives (.linkEnable .reg 0 0 9) (ready []) (fun u => u.linkState 0 = 0 && u.obj 0x250050 = 1)) = true := by decide +kernel

theorem test_link_signal_event :
    (gives (.linkSignalEvent 0 .hiBer 9) (ready []) (fun u => u.linkState 0 = 2 && u.obj 0x250050 = 1 && u.bit 0x25003C 0) &&
    gives (.linkSignalEvent 0 .lockLost 9) (ready []) (fun u => u.linkState 0 = 2) &&
    gives (.linkSignalEvent 0 .signalLost 9) (ready []) (fun u => u.linkState 0 = 1 && u.engineState = 1) &&
    gives (.linkSignalEvent 0 .clockRecovered 9) (ready [(0x250030, 1)]) (fun u => u.linkState 0 = 2 && u.obj 0x250050 = 0)) = true := by
  decide +kernel

theorem test_link_up : gives (.linkUp 1 9) (ready [(0x250030, 0x8)]) (fun u => u.obj 0x250030 = 0xC) = true := by decide +kernel

/-- A right frame gives a peer and a STATUS packet; the FCS alone, the UDP checksum alone, and both or another address count apart (R214). -/
theorem test_frame_received :
    (gives (.frameReceived 0 statusFrame true false 9) (ready []) (fun u =>
      (u.ingest.link.get 0).peer = some (0x0200000000AA, 0x0A000002, 0x1111) && (u.ingest.link.get 0).statusSeq = 1) &&
    gives (.frameReceived 0 statusFrame false false 9) (ready []) (fun u => u.obj 0x25004E = 1 && u.obj 0x25004B = 0) &&
    gives (.frameReceived 0 (patch statusFrame 40 [1#8]) true false 9) (ready []) (fun u => u.obj 0x25004C = 1 && u.obj 0x25004B = 0) &&
    gives (.frameReceived 0 statusFrame true false 9) (ready [(0x250006, 5)]) (fun u => u.obj 0x25004B = 1) &&
    gives (.frameReceived 0 statusFrame true false 9) (ready [(0x250030, 2)]) (fun u => u.obj 0x25004B = 0)) = true := by decide +kernel

theorem test_arp_request :
    (gives (.arpRequest 0 0xFFFFFFFFFFFF 0x0A000001 5 6 9) (ready []) (fun u => (u.ingest.link.get 0).sent = some (.arp 5 6)) &&
    gives (.arpRequest 0 0xFFFFFFFFFFFE 0x0A000001 5 6 9) (ready []) (fun u => (u.ingest.link.get 0).sent = none && u.obj 0x25004B = 1)) = true := by
  decide +kernel

theorem test_status_request :
    gives (.statusRequest 0 1 2 3 9) (ready []) (fun u => (u.ingest.link.get 0).peer = some (1, 2, 3) &&
      match (u.ingest.link.get 0).sent with
      | some (.udp 1 2 3 p) => p.length = 64 && leAt p 0 8 = 0x010000078101544B
      | _ => false) = true := by decide +kernel

/-- In mode 0 with 8 planes the slot is at the region's base, and column 1 follows 65,536 bytes of column 0 (R234). -/
theorem test_tile_packet :
    gives (.tilePacket 0 1 2 3 fragment false 9) (ready [(0x200010, 0x1040000000), (0x200011, 0x10000000)]) (fun u =>
      u.num 0x1040010008 8 = 0x0807060504030201 && ((u.contextOf false 1).map fun c => (c.1, c.2.got)) = some (0, [(8, 8)])) = true := by
  decide +kernel

/-- The steps of R693: header, TYPE, job, state, tile, window and duplicate. -/
theorem test_tile_packet_steps :
    (gives (.tilePacket 0 1 2 3 (patch fragment 4 [8#8]) false 9) (ready []) (fun u => u.obj 0x250045 = 1) &&
    gives (.tilePacket 0 1 2 3 fragment false 9) (ready [(0x250010, 8)]) (fun u => u.obj 0x250042 = 1) &&
    gives (.tilePacket 0 1 2 3 fragment false 9) (ready [(0x5F1006, 6)]) (fun u => u.obj 0x25004D = 1) &&
    gives (.tilePacket 0 1 2 3 fragment false 9) (ready [(0x250012, 0xFE)]) (fun u => u.obj 0x250045 = 1) &&
    gives (.tilePacket 0 1 2 3 fragment false 9) (ready [(0x250035, 1)]) (fun u => u.obj 0x250042 = 1) &&
    gives (.tilePacket 0 1 2 3 (patch (patch (patch fragment 8 [40#8]) 12 (leBytes 4 5761)) 30 (leBytes 2 0xF99E)) false 9)
      (ready [(0x200011, 0x10000000)]) (fun u => u.obj 0x250046 = 1) &&
    gives (.tilePacket 0 1 2 3 fragment false 9) ((ready []).modIngest fun i => { i with marks := [(1, { lost := true, since := 0 })] })
      (fun u => u.obj 0x250041 = 1)) = true := by decide +kernel

/-- FILL of 4 bytes, then COPY_UP of 2 and DELTA of 2 with differences 1 and -1 (R230). -/
theorem test_ktc : ktcDecode 2 4 ([0xE3, 0x55, 0x01, 0xC1, 0xF1].map (BitVec.ofNat 8)) = some ([0x55, 0x55, 0x55, 0x55, 0x55, 0x55, 0x56, 0x54].map (BitVec.ofNat 8)) := by
  decide +kernel

/-- A context that holds all 8 bytes of a tile whose CRC-32C 0x46891F81 was computed apart from the model. -/
def whole (codec crc : Nat) (bad : Bool) : State :=
  ((ready [(0x200010, 0x1040000000), (0x200011, 0x10000000), (0x200018, 0x1000000000)]).setNum 0x1040010000 8 0x0807060504030201).modIngest
    fun i => { i with ctx := [(0, {
      rep := false, seq := 1, row := 0, plane := 0, col := 1, codec := codec, len := 8, crc := crc,
      got := [(0, 8)], firstAt := 0, link := 0, retx := true, bad := bad })] }

/-- The right CRC makes the tile present; another CRC, a stream that ends too early and a failed write do not (R223). -/
theorem test_tile_complete :
    (gives (.tileComplete false 1 9) (whole 0 0x46891F81 false) (fun u => u.obj 0x250040 = 1 && u.obj 0x25004A = 1 &&
      u.mark 1 = some { lost := false, since := 9 } && u.ingest.ctx = []) &&
    gives (.tileComplete false 1 9) (whole 0 0x46891F80 false) (fun u => u.obj 0x250043 = 1 && u.ingest.marks = [] && u.nakCount false 1 = 1) &&
    gives (.tileComplete false 1 9) (whole 1 0x46891F81 false) (fun u => u.obj 0x250044 = 1 && u.bit 0x25003C 3) &&
    gives (.tileComplete false 1 9) (whole 0 0x46891F81 true) (fun u => u.obj 0x250043 = 1)) = true := by decide +kernel

theorem test_fragment_timeout :
    (gives (.fragmentTimeout false 1 100000) ((whole 0 0 false).modIngest fun i => { i with ctx := i.ctx.map fun c => (c.1, { c.2 with got := [] }) })
      (fun u => u.ingest.ctx = [] && u.obj 0x250048 = 1) &&
    gives (.fragmentTimeout false 1 99999) ((whole 0 0 false).modIngest fun i => { i with ctx := i.ctx.map fun c => (c.1, { c.2 with got := [] }) })
      (fun u => u.obj 0x250048 = 0)) = true := by decide +kernel

/-- Tiles 0 and 2 are present; 1 is missing 200 µs after 2 came (R225). -/
theorem test_nak_timeout :
    (gives (.nakTimeout 100000) ((ready []).modIngest fun i => { i with marks := [(0, { lost := false, since := 0 }), (2, { lost := false, since := 0 })] })
      (fun u => u.nakCount false 1 = 1 && u.ingest.naks.length = 1 && u.ingest.waiting.length = 1) &&
    gives (.nakTimeout 99999) ((ready []).modIngest fun i => { i with marks := [(0, { lost := false, since := 0 }), (2, { lost := false, since := 0 })] })
      (fun u => u.ingest.naks.length = 0)) = true := by decide +kernel

/-- Sequence number 1 has had `c` NAKs, the latest at clock 0. -/
def asked (c : Nat) (l : List (Key × Nat)) : State :=
  (ready ([(0x5F1009, 0xFFFFFFFF), (0x200010, 0x1040000000), (0x200011, 0), (0x250012, 1)] ++ l)).modIngest fun i => { i with
    naks := [(1, { count := c, sentAt := some 0, link := none })] }

/-- The eighth NAK was the last of the budget; the lost tile is row 2, column 5, plane 0 where rows have 18 tiles (R226, R240). -/
theorem test_nak_interval_expiry :
    (gives (.nakIntervalExpiry false 1 250000) (asked 7 []) (fun u => u.nakCount false 1 = 8 && u.obj 0x250049 = 0) &&
    gives (.nakIntervalExpiry false 1 249999) (asked 8 []) (fun u => u.obj 0x250049 = 0) &&
    gives (.nakIntervalExpiry false 41 250000) ((asked 0 [(0x5F1006, 3), (0x25001A, 1), (0x200011, 0x3000), (0x250035, 3)]).modIngest fun i => { i with
      naks := [(41, { count := 8, sentAt := some 0, link := none })] })
      (fun u => u.obj 0x250049 = 1 && u.obj 0x25003B = 0x05000002 && u.bit 0x25003C 7 && u.engineState = 5)) = true := by decide +kernel

theorem test_nak_send :
    (gives (.nakSend 0 5000) ((ready []).modLink 0 fun k => { k with peer := some (1, 2, 3), nakSeq := 4, nak := [
        { rep := false, seq := 9, reason := 1, left := 7, link := none }] })
      (fun u => (u.ingest.link.get 0).nak = [] && (u.ingest.link.get 0).nakSeq = 5 && u.obj 0x250047 = 1 &&
        match (u.ingest.link.get 0).sent with
        | some (.udp 1 2 3 p) => p.length = 26 && leAt p 0 8 = 0x000100078201544B && leAt p 16 8 = 0x0007010000000009
        | _ => false) &&
    gives (.nakSend 0 4999) ((ready []).modLink 0 fun k => { k with peer := some (1, 2, 3), nak := [
        { rep := false, seq := 9, reason := 1, left := 7, link := none }] })
      (fun u => (u.ingest.link.get 0).nak.length = 1)) = true := by decide +kernel

theorem test_status_interval :
    gives (.statusInterval 9) ((ready []).modLink 0 fun k => { k with peer := some (1, 2, 3), statusSeq := 0xFFFFFFFF })
      (fun u => (u.ingest.link.get 0).statusSeq = 0 && (u.ingest.link.get 1).statusSeq = 0 && (u.ingest.link.get 0).sent.isSome) = true := by
  decide +kernel

theorem test_job_id_write :
    (gives (.jobIdWrite .reg 65535 9) (asked 7 [(0x250035, 4)]) (fun u => u.obj 0x250010 = 65535 && u.freeRow = 0 && u.ingest.naks = []) &&
    gives (.jobIdWrite .reg 5 9) (asked 7 [(0x5F1006, 2), (0x250035, 4)]) (fun u => u.obj 0x250010 = 7 && u.freeRow = 4 && u.bit 0x25003C 10)) = true := by
  decide +kernel

/-- Mode 1 has slots of 4,128 KiB for each of eight planes; mode 3 is out of range (R234, R250). -/
theorem test_store_config_write :
    (gives (.storeConfigWrite .sdo .inputMode 1) (op [(0x250035, 4)]) (fun u => u.obj 0x250011 = 1 && u.freeRow = 0 && u.obj 0x250032 = 33816576) &&
    gives (.storeConfigWrite .sdo .inputMode 3) (op [(0x250035, 4)]) (fun u => u.freeRow = 4 && u.slave.resp = .abort 0x06090030) &&
    gives (.storeConfigWrite .sdo .planeMask 1) (op [(0x5F1006, 5)]) (fun u => u.obj 0x250012 = 255 && u.slave.resp = .abort 0x08000022)) = true := by
  decide +kernel

/-- 256 MiB hold 31 mode 0 slots: 7,936 lines (R243, R245). -/
theorem test_repeat_config_write :
    (gives (.repeatConfigWrite .sdo .length 7936) ((op [(0x200013, 0x10000000)]).modIngest fun i => { i with rep := [(3, ())] })
      (fun u => u.obj 0x250021 = 7936 && u.ingest.rep = []) &&
    gives (.repeatConfigWrite .sdo .length 7937) ((op [(0x200013, 0x10000000)]).modIngest fun i => { i with rep := [(3, ())] })
      (fun u => u.obj 0x250021 = 256 && u.ingest.rep = [(3, ())])) = true := by decide +kernel

/-- Port 1 prints with column 0 alone; the row goes when its fire line is past line 255 (R238). -/
theorem test_row_release :
    (gives .rowRelease ((printing (cycle 5 []) [(0x320119, 1), (0x32011C, 255), (0x250012, 1)]).modPort 1 fun p => { p with lines := [(0, 256)] })
      (fun u => u.freeRow = 1) &&
    gives .rowRelease ((printing (cycle 5 []) [(0x320119, 1), (0x32011C, 254), (0x250012, 1)]).modPort 1 fun p => { p with lines := [(0, 255)] })
      (fun u => u.freeRow = 0)) = true := by decide +kernel

/-- A tile of the repeat is asked for again within the budget, and after it left alone (R226, R244). -/
theorem test_nak_interval_of_repeat :
    (gives (.nakIntervalExpiry true 1 250000) ((ready []).modIngest fun i => { i with repNaks := [(1, { count := 7, sentAt := some 0, link := none })] })
      (fun u => u.nakCount true 1 = 8) &&
    gives (.nakIntervalExpiry true 1 250000) ((ready []).modIngest fun i => { i with repNaks := [(1, { count := 8, sentAt := some 0, link := none })] })
      (fun u => u.nakCount true 1 = 8 && u.obj 0x250049 = 0)) = true := by decide +kernel

/-! Render. -/

/-- Port 1 renders 4 positions of one plane in mode 2 on lane 3; the 16 tiles of row 0 are present, and the row's byte 0 is 6. -/
def rendering (l : List (Key × Nat)) : State :=
  (((ready ([(0x5F1006, 3), (0x5F1009, 0xFFFFFFFF), (0x250011, 2), (0x250012, 1), (0x300101, 1), (0x240021, 0x40000), (0x240071, 3),
    (0x200010, 0x1040000000), (0x200011, 0x10000000), (0x200018, 0x1000000000), (0x310108, 4), (0x320119, 3)] ++ l)).setDomain 0x300120
    validHead).setByte 0x1040000000 6#8).modIngest fun i => { i with marks := (List.range 16).map fun g => (g, { lost := false, since := 0 }) }

/-- The line starts with the input bits of its span, waits for a row that is not complete, and is skipped behind the fire line (R262, R270, R271). -/
theorem test_render_line_start :
    (gives (.renderLineStart 1 false 9) (rendering []) (fun u => u.renderLine 1 = 0 &&
      ((u.render.port.get 1).busy.map fun l => (l.line, l.lane, l.bits, l.shift)) = some (0, 3, [6#8], 0)) &&
    gives (.renderLineStart 1 false 9) ((rendering []).modIngest fun i => { i with marks := [] }) (fun u => (u.render.port.get 1).busy = none) &&
    gives (.renderLineStart 1 false 9) (rendering [(0x32011C, 0)]) (fun u => u.renderLine 1 = 1 && u.obj 0x240082 = 1 &&
      u.num 0x1003008009 1 = 7 && u.num 0x100300800A 1 = 3) &&
    gives (.renderLineStart 1 true 9) (rendering []) (fun u => u.renderLine 1 = 1 && (u.jigsaw.get 1).lost = [0])) = true := by decide +kernel

theorem test_render_line_done :
    gives (.renderLineDone 1 ⟨false, 9⟩) ((rendering [(0x240061, 5)]).modRenderPort 1 fun p => { p with busy := some {
        line := 5, setSeq := 2, shift := -1, lane := 3, bits := [6#8], row := [], clamps := 0, lost := 0, dropped := 3 } })
      (fun u => u.renderLine 1 = 6 && u.num 0x1003008050 8 = 0x200000005 && u.num 0x1003008058 3 = 0x0305FF && u.byte 0x1001201400 = 6#8 &&
        u.obj 0x240085 = 3 && u.bit 0x240013 4) = true := by decide +kernel

/-- A flat 25 % of 1,024 against a threshold of 2,048 with all of the error passed to the right fires one position in four (R265, R266); a dead pair passes its sum to its right neighbour (R269). -/
theorem test_screening :
    (((screenPlane 0x000F 4 (List.replicate 132 { a := 1024, row := 0, thr := 2048, dead := false, right := 0 })).bits.length = 4 &&
      (Carry.step 0x0010 4 { right := 1500, side1 := 0, side2 := 0, dots := [], shares := [], clamps := 0, lost := 0 }
        (65, { a := 1024, row := -500, thr := 2048, dead := true, right := 2 })).side1 = 1265) &&
      (Carry.step 0x0010 4 { right := 1500, side1 := 0, side2 := 0, dots := [], shares := [], clamps := 0, lost := 0 }
        (65, { a := 1024, row := -500, thr := 2048, dead := true, right := 2 })).side2 = 759 &&
      (List.range 4).foldl (moveBit fun q => q = 1) ([false, true, true, false], 0) = ([false, false, true, true], 0)) = true := by
  decide +kernel

/-- Lane 5 under test with all 17 lanes in service and port 1 on lane `l`. -/
def testing (l : Nat) : State :=
  (rendering [(0x240011, 5), (0x240012, 1), (0x240071, l)]).modRender fun r => { r with started := true }

theorem test_lane_test_window :
    (gives (.laneTestWindow true 9) (testing 3) (fun u => u.testLane = 6 && u.obj 0x5E0056 = 1 && u.render.windowAt = 9) &&
    gives (.laneTestWindow true 9) (testing 6) (fun u => u.testLane = 0xFF && u.render.leaving = some (5, 6) && u.render.handOver = [(1, 5)]) &&
    gives (.laneTestWindow false 9) (testing 3) (fun u => u.obj 0x240010 = 0x1FFDF && u.testLane = 6 && u.obj 0x240088 = 1 &&
      u.render.retest = [5] && u.laneOf 1 = 0)) = true := by decide +kernel

theorem test_lane_enters_test :
    gives (.laneEntersTest 9) ((testing 5).modRender fun r => { r with leaving := some (5, 6) }) (fun u => u.testLane = 6 && u.render.leaving = none) = true := by
  decide +kernel

theorem test_lane_retest_done :
    (gives (.laneRetestDone 5 true 9) (((testing 3).setObj 0x240010 0x1FFDF).modRender fun r => { r with retest := [5] })
      (fun u => u.obj 0x240010 = 0x1FFFF && u.render.retest = []) &&
    gives (.laneRetestDone 5 false 9) (((testing 3).setObj 0x240010 0x1FFDF).modRender fun r => { r with retest := [5] })
      (fun u => u.obj 0x240010 = 0x1FFDF && u.mram.lanesRetired = 32 && u.obj 0x240089 = 1)) = true := by decide +kernel

/-! Jigsaw. -/

/-- The map of port 1: four entries, twin A nozzle e of column 0 and twin B nozzle e of column 1 (R300 to R302). -/
def smallMap : Bytes :=
  (List.range 4).foldl (fun m e => patch m (0x1040 + 4 * e) (leBytes 4 (e + (8 + e) * 65536)))
    (patch (patch (patch (patch (patch (List.replicate 0x1050 0#8) 0 (leBytes 4 0x504D4A42)) 4 (leBytes 2 0x100)) 7 [1#8]) 0xA (leBytes 2 4)) 0x14 (leBytes 2 16))

/-- Line 0 of port 1 in its queue with positions 0 and 1 set, and the map in force given by its bytes that are not zero. -/
def queued (flags : Nat) : State :=
  let s := (((rendering []).setNum 0x1005610000 4 0x504D4A42).setNum 0x1005610004 8 0x0004000001000100).setNum 0x1005610014 2 16
  let s := (List.range 4).foldl (fun s e => s.setNum (0x1005611040 + 4 * e) 4 (e + (8 + e) * 65536)) s
  (s.setNum 0x1003008009 1 flags).setNum 0x1001200000 1 3

set_option maxRecDepth 20000 in
/-- On line 0 position 0 goes to twin A and position 1 to twin B, so both columns hold one drop (R309). -/
theorem test_jigsaw_line_take :
    gives (.jigsawLineTake 1 false true false 9) (queued 1) (fun u => u.obj 0x380120 = 1 && u.obj 0x380125 = 0 && (u.jigsaw.get 1).next = 1 &&
      (u.jigsaw.get 1).ring = [{ line := 0, cap := 4, todo := 3 }] && popCount 16 (u.num 0x1003700000 2) = 2) = true := by decide +kernel

theorem test_jigsaw_line_lost :
    (gives (.jigsawLineTake 1 true false false 9) (queued 1) (fun u => (u.jigsaw.get 1).lost = [0] && (u.jigsaw.get 1).ring = []) &&
    gives (.jigsawLineTake 1 false true false 9) (queued 3) (fun u => (u.jigsaw.get 1).next = 1 && (u.jigsaw.get 1).ring = [])) = true := by
  decide +kernel

set_option maxRecDepth 20000 in
theorem test_jigsaw_check :
    gives (.jigsawLineTake 1 false true true 9) (queued 1) (fun u => u.obj 0x380125 = 1 && u.bit 0x380108 1 && (u.jigsaw.get 1).ring = []) = true := by
  decide +kernel

/-- Line 20 of column 1 waits for line 4 in its slot, and is discarded once the slot has been released for it (R316, R317). -/
def ringed (freed : Option Nat) : State :=
  (((rendering []).setNum 0x1003700000 0x10 0).setNum (0x1003700000 + 20 * 0x800) 2 0x5A00).modJigsaw 1 (fun p => { p with
    ring := [{ line := 20, cap := 4, todo := 2 }] }) |>.modPort 1 fun p => { p with
    slots := [(20, { line := 4, cap := 3, ready := false, readyAt := 0, freed := freed })] }

theorem test_slot_copy :
    (gives (.slotCopy 1 1 false 9) (ringed (some 4)) (fun u => u.slot 1 1 4 = { line := 20, cap := 4, ready := true, readyAt := 9, freed := some 4 } &&
      u.num 0x12800 2 = 0x5A && (u.jigsaw.get 1).ring = []) &&
    gives (.slotCopy 1 1 false 9) (ringed (some 3)) (fun u => (u.jigsaw.get 1).ring.length = 1 && !(u.slot 1 1 4).ready) &&
    gives (.slotCopy 1 1 false 9) (ringed (some 20)) (fun u => u.obj 0x380126 = 1 && (u.jigsaw.get 1).ring = [] && !(u.slot 1 1 4).ready) &&
    gives (.slotCopy 1 1 true 9) (ringed (some 4)) (fun u => (u.jigsaw.get 1).lost = [20] && !(u.slot 1 1 4).ready)) = true := by decide +kernel

/-- Port 1 with record and span, for maps. -/
def mapped (l : List (Key × Nat)) : State :=
  (op ([(0x240021, 0x40000), (0x200018, 0x1000000000)] ++ l)).setDomain 0x300120 validHead

set_option maxRecDepth 40000 in
theorem test_map_write :
    gives (.mapWrite 1 smallMap) (mapped []) (fun u => u.num 0x1005510000 8 = 0x01000100504D4A42 && u.num 0x100551104C 4 = 0x000B0003 &&
      u.bit 0x380107 3 && u.slave.resp = .done) = true := by decide +kernel

set_option maxRecDepth 40000 in
/-- A nozzle in two entries is refused, and so is a map of another length (R304). -/
theorem test_map_refused :
    (gives (.mapWrite 1 (patch smallMap 0x1044 (leBytes 4 0x00090000))) (mapped []) (fun u => u.mem = [] && u.bit 0x380108 6 &&
      u.slave.resp = .abort 0x06090030) &&
    gives (.mapWrite 1 (smallMap ++ [0#8])) (mapped []) (fun u => u.slave.resp = .abort 0x06070010) &&
    gives (.mapWrite 1 smallMap) (mapped [(0x230012, 1)]) (fun u => u.mem = [] && u.slave.resp = .abort 0x08000021)) = true := by decide +kernel

set_option maxRecDepth 20000 in
/-- Nozzle 6 has bits [5:4] of byte 0x41; nozzle 16 does not exist (R301, R305). -/
theorem test_nozzle_state_edit :
    (gives (.nozzleStateEdit .sdo 1 0x20006) ((mapped []).setNum 0x1005510000 4 0x504D4A42) (fun u => u.num 0x1005510040 2 = 0x2000 && u.obj 0x380103 = 0x20006) &&
    gives (.nozzleStateEdit .sdo 1 0x20010) ((mapped []).setNum 0x1005510000 4 0x504D4A42) (fun u => u.slave.resp = .abort 0x06090030) &&
    gives (.nozzleStateEdit .sdo 1 0x20006) (mapped []) (fun u => u.slave.resp = .abort 0x08000022 && u.bit 0x380108 6) &&
    gives (.nozzleStateEdit .reg 1 0x20006) (mapped []) (fun u => u.obj 0x380108 = 0x80)) = true := by decide +kernel

theorem test_firing_counter_reset :
    (gives (.firingCounterReset .sdo 1 1) ((mapped []).setNum 0x1005720008 2 0x102) (fun u => u.num 0x1005720008 8 = 0) &&
    gives (.firingCounterReset .sdo 1 2) ((mapped []).setNum 0x1005720008 2 0x102) (fun u => u.num 0x1005720008 8 = 0x102 &&
      u.slave.resp = .abort 0x06090030)) = true := by decide +kernel

/-- A slot released for a later line of the same place has passed this one (R317). -/
theorem test_slot_past :
    gives (.slotCopy 1 1 false 9) (ringed (some 36)) (fun u => u.obj 0x380126 = 1 && (u.jigsaw.get 1).ring = [] && !(u.slot 1 1 4).ready) = true := by
  decide +kernel

/-! Cameras. -/

/-- Camera 0 captures RAW8 frames of 16 lines of 8 pixels with one embedded line; a frame is open in slot 2 with `lines` lines. -/
def filming (lines : Nat) (damaged : Bool) (l : List (Key × Nat)) : State :=
  (ready ([(0x400001, 1), (0x400005, 0x2A), (0x400006, 8), (0x400007, 16), (0x400008, 1), (0x200016, 0x1700000000),
    (0x200017, 0x8000000), (0x5F1006, 3)] ++ l)).modCamera 0 fun q => { q with
    frameNo := 7, lastSlot := 2, slots := [(2, { st := 1, frame := 7 })], frame := some {
      slot := some 2, no := 7, startAt := 0, tag := { pos := 5, time := 6, posValid := true, dcSync := false }, triggered := true,
      sensorFn := 9, setId := 3, tags := [], unknown := false, damaged := damaged, emb := 1, lines := lines } }

/-- The reference camera has 12 slots in half of 1 GiB; half of 256 MiB holds three (R348, R351). -/
theorem test_capture_enable :
    (gives (.captureEnable .sdo 0 1 9) (op [(0x200017, 0x40000000)]) (fun u => u.obj 0x400001 = 1 && u.camSlots 0 = 12 && u.camSlotSize 0 = 42008576) &&
    gives (.captureEnable .sdo 0 1 9) (op [(0x200017, 0x10000000)]) (fun u => u.obj 0x400001 = 0 && u.bit 0x400027 11 && u.slave.resp = .abort 0x06090030) &&
    gives (.captureEnable .sdo 0 1 9) (op [(0x200017, 0x40000000), (0x400006, 8190)]) (fun u => u.obj 0x400001 = 0) &&
    gives (.captureEnable .reg 0 0 9) (filming 3 false []) (fun u => u.obj 0x400001 = 0 && (u.camSlot 0 2).st = 0)) = true := by decide +kernel

/-- The next free slot after slot 2 is slot 3, and number 7 is followed by 8; with every slot waiting the frame is an overrun (R342). -/
theorem test_frame_start :
    (gives (.frameStart 0 0 0x12345 .single 9) ((filming 0 false []).modCamera 0 fun q => { q with frame := none })
      (fun u => u.camSlot 0 3 = { st := 1, frame := 8 } && u.obj 0x400047 = 1 &&
        ((u.camera.get 0).frame.map fun f => (f.no, f.slot, f.sensorFn)) = some (8, some 3, 0x2345)) &&
    gives (.frameStart 0 0 5 .clean 9) ((filming 0 false []).modCamera 0 fun q => { q with
        frame := none, slots := (List.range 64).map fun i => (i, { st := 2, frame := i }) })
      (fun u => u.obj 0x400046 = 1 && (u.camera.get 0).frameNo = 8) &&
    gives (.frameStart 0 1 5 .clean 9) (filming 0 false []) (fun u => u.obj 0x40004A = 1)) = true := by decide +kernel

/-- Line 3 stands after the header area, one embedded line and three image lines of slot 2 (R343, R348). -/
theorem test_camera_packet :
    (gives (.cameraPacket 0 0 0x2A (leBytes 8 0x1122334455667788) .clean true false 9) (filming 3 false [])
      (fun u => u.num (0x1700000000 + 2 * 0x10000 + 4096 + 4 * 8) 8 = 0x1122334455667788 && ((u.camera.get 0).frame.map fun f => (f.lines, f.damaged)) = some (4, false)) &&
    gives (.cameraPacket 0 0 0x2A (leBytes 8 5) .clean false false 9) (filming 3 false [])
      (fun u => u.obj 0x400049 = 1 && ((u.camera.get 0).frame.map CamFrame.damaged) = some true) &&
    gives (.cameraPacket 0 0 0x2A (leBytes 7 5) .clean true false 9) (filming 3 false [])
      (fun u => ((u.camera.get 0).frame.map CamFrame.damaged) = some true) &&
    gives (.cameraPacket 0 0 0x2A (leBytes 8 5) .clean true false 9) ((filming 3 false []).modCamera 0 fun q => { q with frame := none })
      (fun u => u.obj 0x40004B = 1) &&
    gives (.cameraPacket 0 1 0x2A (leBytes 8 5) .clean true false 9) (filming 3 false []) (fun u => u.obj 0x40004A = 1)) = true := by decide +kernel

set_option maxRecDepth 20000 in
/-- Sixteen lines are delivered, and the third frame that waits drops the oldest (R344, R352). -/
theorem test_frame_end :
    gives (.frameEnd 0 0 .clean 9) ((filming 16 false []).modCamera 0 fun q => { q with
        waiting := [0, 1], slots := [(0, { st := 2, frame := 5 }), (1, { st := 2, frame := 6 }), (2, { st := 1, frame := 7 })] })
      (fun u => (u.camera.get 0).waiting = [1, 2] && (u.camSlot 0 2).st = 2 && (u.camSlot 0 0).st = 0 && u.obj 0x400040 = 1 &&
        u.obj 0x400045 = 1 && u.num 0x1700020000 8 = 0x0C2A00004D524642) = true := by decide +kernel

theorem test_frame_end_discarded :
    (gives (.frameEnd 0 0 .clean 9) (filming 15 false []) (fun u => (u.camSlot 0 2).st = 0 && u.obj 0x400041 = 1 && u.bit 0x400027 1) &&
    gives (.frameEnd 0 0 .clean 9) (filming 15 true []) (fun u => (u.camSlot 0 2).st = 0 && u.obj 0x400044 = 1 && u.obj 0x400041 = 0)) = true := by
  decide +kernel

/-- The watchdog's default is 100 ms (R365). -/
theorem test_frame_watchdog :
    (gives (.frameWatchdog 0 50000000) (filming 3 false []) (fun u => (u.camera.get 0).frame = none && (u.camSlot 0 2).st = 0 && u.obj 0x400043 = 1) &&
    gives (.frameWatchdog 0 49999999) (filming 3 false []) (fun u => (u.camera.get 0).frame.isSome)) = true := by decide +kernel

/-- Target 2 of origin 5 and pitch 3 lines is line 11 (R346). -/
theorem test_web_trigger :
    (gives (.webTrigger 0 9) ((((filming 3 false [(0x40000B, 1), (0x40000C, 0x30000), (0x40000D, 0x50000), (0x220015, 0x20)]).modPosition fun p =>
        { p with acc := 0xB00000000 })).modCamera 0 fun q => { q with trigK := 2 })
      (fun u => (u.camera.get 0).trigK = 3 && (u.camera.get 0).trigEnd = some 5009 && (u.camera.get 0).edges = 1) &&
    gives (.webTrigger 0 9) ((((filming 3 false [(0x40000B, 1), (0x40000C, 0x30000), (0x40000D, 0x50000), (0x220015, 0x20)]).modPosition fun p =>
        { p with acc := 0xB00000000 })).modCamera 0 fun q => { q with trigK := 2, trigEnd := some 10 })
      (fun u => (u.camera.get 0).trigK = 3 && u.obj 0x40004C = 1) &&
    gives (.webTrigger 0 9) ((((filming 3 false [(0x40000B, 1), (0x40000C, 0x30000), (0x40000D, 0x50000), (0x220015, 0x20)]).modPosition fun p =>
        { p with acc := 0xAFFFFFFFF })).modCamera 0 fun q => { q with trigK := 2 })
      (fun u => (u.camera.get 0).trigK = 2)) = true := by decide +kernel

theorem test_trigger_command :
    (gives (.triggerCommand .pdo 1 1 9) (running (op [(0x40010B, 2), (0x40010E, 2)])) (fun u => (u.camera.get 1).trigEnd = some 1009) &&
    gives (.triggerCommand .pdo 1 1 9) (op [(0x40010B, 2), (0x40010E, 2)]) (fun u => (u.camera.get 1).trigEnd = none) &&
    gives (.triggerCommand .pdo 1 1 9) (running (op [(0x40010B, 1)])) (fun u => (u.camera.get 1).trigEnd = none)) = true := by decide +kernel

theorem test_trigger_pulse_end :
    (gives (.triggerPulseEnd 0 9) ((put []).modCamera 0 fun q => { q with trigEnd := some 9 }) (fun u => (u.camera.get 0).trigEnd = none) &&
    gives (.triggerPulseEnd 0 8) ((put []).modCamera 0 fun q => { q with trigEnd := some 9 }) (fun u => (u.camera.get 0).trigEnd.isSome)) = true := by
  decide +kernel

theorem test_camera_stall :
    (gives (.cameraStall 0 500000000) (filming 3 false []) (fun u => u.bit 0x400020 2 && u.bit 0x400027 7 && u.obj 0x40004F = 1) &&
    gives (.cameraStall 0 500000000) (filming 3 false [(0x5F1006, 5)]) (fun u => u.obj 0x40004F = 0) &&
    gives (.cameraStall 0 499999999) (filming 3 false []) (fun u => u.obj 0x40004F = 0)) = true := by decide +kernel

/-- A set of one entry of two bytes (R355). -/
def oneEntry : Bytes := patch (patch (patch (List.replicate 48 0#8) 0 [7#8]) 4 [1#8]) 0x2A [2#8]

theorem test_settings_set_write :
    (gives (.settingsSetWrite 0 oneEntry) ((op []).modCamera 0 fun q => { q with setPending := some [] })
      (fun u => (u.camera.get 0).setPending = some oneEntry && u.obj 0x40004E = 1 && u.bit 0x400020 4) &&
    gives (.settingsSetWrite 0 (patch oneEntry 0x2A [3#8])) (op []) (fun u => (u.camera.get 0).setPending = none && u.slave.resp = .abort 0x06090030) &&
    gives (.settingsSetWrite 0 (patch oneEntry 4 [2#8])) (op []) (fun u => u.slave.resp = .abort 0x06090030)) = true := by decide +kernel

theorem test_cci_transfer_done :
    (gives (.cciTransferDone 0 (.done 0) 9) ((running (put [])).modCamera 0 fun q => { q with setWriting := some (patch oneEntry 4 [2#8], 0, true) })
      (fun u => (u.camera.get 0).setWriting = some (patch oneEntry 4 [2#8], 1, false)) &&
    gives (.cciTransferDone 0 (.done 0) 9) ((running (put [])).modCamera 0 fun q => { q with setWriting := some (oneEntry, 0, false) })
      (fun u => (u.camera.get 0).setWriting = none && (u.camera.get 0).setAcked = some (oneEntry, true)) &&
    gives (.cciTransferDone 0 .failed 9) ((running (put [])).modCamera 0 fun q => { q with setWriting := some (oneEntry, 0, false) })
      (fun u => (u.camera.get 0).setWriting = some (oneEntry, 0, true) && u.obj 0x40004D = 0) &&
    gives (.cciTransferDone 0 .failed 9) ((running (put [])).modCamera 0 fun q => { q with setWriting := some (oneEntry, 0, true) })
      (fun u => (u.camera.get 0).setWriting = none && u.obj 0x40004D = 1 && u.bit 0x400027 8)) = true := by decide +kernel

/-- A read of two bytes places its result in bits [47:32] (R359, R365). -/
theorem test_direct_transfer :
    (gives (.directTransfer .sdo 0 0x50012) (op []) (fun u => u.obj 0x400015 = 0x50012 && (u.camera.get 0).direct = some (0x50012, false) && u.bit 0x400020 3) &&
    gives (.cciTransferDone 0 (.done 0x7ABCD) 9) ((running (put [])).modCamera 0 fun q => { q with direct := some (0x50012, false), directOn := true })
      (fun u => u.obj 0x400015 = 0xABCD00050012 && (u.camera.get 0).direct = none) &&
    gives (.cciTransferDone 0 .failed 9) ((running (put [])).modCamera 0 fun q => { q with direct := some (0x12, true), directOn := true })
      (fun u => u.obj 0x40004D = 1 && u.bit 0x400027 8 = false && (u.camera.get 0).direct = none)) = true := by decide +kernel

/-- Slots 3 to 6 of 64: a free slot cannot be held, a done one can, and a held one is released (R360). -/
def held : State :=
  ((filming 3 false []).modSlave fun l => { l with al := .op }).modCamera 0 fun q => { q with
    slots := [(2, { st := 1, frame := 7 }), (3, { st := 5, frame := 4 }), (4, { st := 6, frame := 5 })] }

theorem test_hold_mask_write :
    (gives (.holdMaskWrite .sdo 0 8) held (fun u => (u.camSlot 0 3).st = 6 && (u.camSlot 0 4).st = 5 && u.obj 0x400030 = 8) &&
    gives (.holdMaskWrite .sdo 0 0x28) held (fun u => (u.camSlot 0 3).st = 5 && (u.camSlot 0 4).st = 6 && u.slave.resp = .abort 0x06090030)) = true := by
  decide +kernel

set_option maxRecDepth 20000 in
/-- 124 zero bytes have the CRC-32C 0xD71BD364, computed apart from the model. -/
theorem test_reprocess :
    (gives (.reprocess .sdo 0 4) (held.setNum 0x170004007C 4 0xD71BD364) (fun u => (u.camera.get 0).reproc = some (4, false) && u.num 0x1700040007 1 = 0x40 && u.frameHeaderOk 0 4) &&
    gives (.reprocess .sdo 0 4) held (fun u => (u.camera.get 0).reproc = none && u.slave.resp = .abort 0x06090030) &&
    gives (.reprocess .sdo 0 4) (held.modCamera 0 fun q => { q with reproc := some (3, false) }) (fun u => u.slave.resp = .abort 0x08000022)) = true := by
  decide +kernel

/-- A set of another length breaks the layout (R355), and a direct transfer that runs ends before the set (R359). -/
theorem test_set_and_direct :
    (gives (.settingsSetWrite 0 (oneEntry ++ [0#8])) (op []) (fun u => (u.camera.get 0).setPending = none && u.slave.resp = .abort 0x06090030) &&
    gives (.cciTransferDone 0 (.done 0) 9) ((running (put [])).modCamera 0 fun q => { q with
        setWriting := some (oneEntry, 0, false), direct := some (0x50012, false), directOn := true })
      (fun u => (u.camera.get 0).direct = none && (u.camera.get 0).setWriting = some (oneEntry, 0, false))) = true := by decide +kernel

/-! Kaleidoscope. -/

/-- Kaleidoscope is enabled; one frame of camera 0 waits in slot 4, of which the header's CRC-32C is of zeros. -/
def watching (l : List (Key × Nat)) : State :=
  ((filming 0 false ([(0x410001, 1)] ++ l)).setNum 0x170004007C 4 0xD71BD364).modCamera 0 fun q => { q with
    waiting := [4], reference := some 3, slots := [(3, { st := 4, frame := 4 }), (4, { st := 2, frame := 5 })] }

set_option maxRecDepth 20000 in
/-- TNR strength 0 is reason 6; a header that fails sends the slot back to FREE (R373, R387). -/
theorem test_frame_take :
    (gives (.frameTake false 9) (watching []) (fun u => (u.camSlot 0 4).st = 3 && (u.camera.get 0).waiting = [] && u.obj 0x410052 = 1 &&
      u.bit 0x41000D 1 = false && ((u.kaleido.job.map fun j => (j.slot, j.rep, j.reason)) = some (4, false, 6))) &&
    gives (.frameTake true 9) (watching []) (fun u => (u.camSlot 0 4).st = 0 && u.obj 0x410053 = 1 && u.kaleido.job = none)) = true := by
  decide +kernel

set_option maxRecDepth 20000 in
/-- A frame to reprocess whose header fails leaves its slot FREE (R387). -/
theorem test_reprocessed_frame_rejected :
    gives (.frameTake true 9) ((watching []).modCamera 0 fun q => { q with
        waiting := [], reproc := some (5, false), slots := [(5, { st := 6, frame := 2 })] })
      (fun u => (u.camSlot 0 5).st = 0 && (u.camera.get 0).reproc = none && u.kaleido.job = none) = true := by decide +kernel

theorem test_record_complete :
    gives (.recordComplete 9) ((watching []).modKaleido fun k => { k with done := 6, stopping := true, job := some {
        cam := 0, slot := 4, rep := false, params := (put []).snapshot, refSlot := some 3, reason := 6, shift := 0 } })
      (fun u => u.kaleido.done = 7 && (u.camSlot 0 4).st = 4 && (u.camSlot 0 3).st = 5 && u.obj 0x410001 = 0 && u.obj 0x410050 = 1 &&
        (u.camera.get 0).reference = some 4) = true := by decide +kernel

theorem test_process_param_write :
    (gives (.processParamWrite .sdo 0x410012 (leBytes 2 32767)) (op []) (fun u => u.obj 0x410012 = 32767 && u.obj 0x41000E = 1) &&
    gives (.processParamWrite .sdo 0x410012 (leBytes 2 32768)) (op []) (fun u => u.obj 0x410012 = 0 && u.obj 0x41000E = 0 &&
      u.slave.resp = .abort 0x06090030) &&
    gives (.processParamWrite .sdo 0x410019 (List.replicate 18 1#8)) (op []) (fun u => (u.domain 0x410019).length = 18 && u.obj 0x41000E = 1) &&
    gives (.processParamWrite .sdo 0x410009 (List.replicate 18 1#8)) (op []) (fun u => u.domain 0x410009 = [] && u.slave.resp = .abort 0x06070010)) = true := by
  decide +kernel

theorem test_parameter_freeze :
    (gives (.parameterFreeze .pdo 1) (op [(0x410004, 7)]) (fun u => (u.kaleido.frozen.map fun p => p.num 0x410004) = some 7 && u.obj 0x41000C = 8) &&
    gives (.parameterFreeze .reg 0) ((put []).modKaleido fun k => { k with frozen := some (put []).snapshot }) (fun u => u.kaleido.frozen = none)) = true := by
  decide +kernel

/-- The reference cameras need records of 4 MiB, of which the ring holds four; 16 block rows leave one (R381, R384). -/
theorem test_kaleido_enable :
    (gives (.kaleidoEnable .sdo 1) ((op []).modKaleido fun k => { k with cursor := 2 }) (fun u => u.obj 0x410001 = 1 && u.recordCount = 4 && u.kaleido.cursor = 0) &&
    gives (.kaleidoEnable .sdo 1) (op [(0x410003, 16)]) (fun u => u.obj 0x410001 = 0 && u.slave.resp = .abort 0x06090030) &&
    gives (.kaleidoEnable .sdo 0) (op [(0x410001, 1)]) (fun u => u.obj 0x410001 = 0)) = true := by decide +kernel

set_option maxRecDepth 40000 in
/-- Record 5 stands in place 1 of a ring of four records of 4 MiB (R381, R383). -/
theorem test_stats_read :
    (gives .statsReadAdvance (((op [(0x200018, 0x1000000000)]).setNum 0x1005D00000 2 0x4B42).modKaleido fun k => { k with done := 6, cursor := 5 })
      (fun u => u.kaleido.cursor = 6 && match u.slave.resp with
        | .data d => leAt d 0 2 = 0x4B42 && leAt d 0x3C 1 = 1
        | _ => false) &&
    gives .statsRead ((op [(0x200018, 0x1000000000)]).modKaleido fun k => { k with done := 6, cursor := 6 })
      (fun u => u.kaleido.cursor = 6 && match u.slave.resp with
        | .data d => leAt d 0x3C 1 = 0
        | _ => false) &&
    gives .statsRead (op []) (fun u => match u.slave.resp with
      | .data d => d.length = 4096
      | _ => false)) = true := by decide +kernel

/-! The analyser. -/

/-- The analyser is on and port 1 is rendered up to line 100, in PRINTING. -/
def analysing (l : List (Key × Nat)) : State := rendering ([(0x420001, 1), (0x240061, 100)] ++ l)

/-- Six records in a ring of four: record 1 has been reused (R422). -/
theorem test_analyse_record :
    (gives (.analyseRecord 9) ((analysing [(0x5F1006, 2)]).modKaleido fun k => { k with done := 6 }) (fun u => u.analyser.cursor = 3 && u.obj 0x420051 = 1 && u.obj 0x420050 = 1) &&
    gives (.analyseRecord 9) (((analysing []).modKaleido fun k => { k with done := 6 }).modAnalyser fun a => { a with cursor := 6 })
      (fun u => u.analyser.cursor = 6 && u.obj 0x420051 = 0 && u.obj 0x420050 = 0)) = true := by decide +kernel

/-- A request for both twins of plane 2 at position 500. -/
def request : Request :=
  { id := 7, cause := .unresolved, seq := 3, plane := 2, x := 500, q := 500, cams := [0], tests := [bandTest 2 0 500, bandTest 2 1 500], misses := 0 }

/-- Gaps from pairs of START and LENGTH. -/
def gapped (l : List (Nat × Nat)) (s : State) : State :=
  (s.setDomain 0x420013 (l.flatMap fun g => leBytes 4 g.1 ++ leBytes 4 g.2)).modAnalyser fun a => { a with requests := [request] }

/-- A gap 16 lines beyond the render line takes a band; one nearer or of 188 lines does not, and a period repeats it (R407, R409). -/
theorem test_band_placement :
    (gives (.bandPlacement 9) (gapped [(115, 300), (117, 188), (116, 189)] (analysing [])) (fun u =>
      (u.analyser.bands.map fun b => (b.start, b.tests.map fun t => (t.1, t.2.2.first))) = [(116, [(0, 484), (1, 484)])] && u.analyser.requests = [] && u.obj 0x420057 = 1) &&
    gives (.bandPlacement 9) (gapped [(115, 300)] (analysing [(0x420014, 1000)])) (fun u => u.analyser.lastBand = some 1115) &&
    gives (.bandPlacement 9) (gapped [(115, 300)] (analysing [])) (fun u => u.analyser.bands = [] && u.analyser.requests.length = 1)) = true := by decide +kernel

/-- The timeout is 100 ms, 50,000,000 clocks (R405). -/
theorem test_mute_timeout :
    (let s := (analysing [(0x42000A, 100)]).modAnalyser fun a => { a with mutes := [
        { plane := 2, x := 500, since := 7, seq := 0, line := none }, { plane := 2, x := 501, since := 7, seq := 1, line := some 9 },
        { plane := 8, x := 502, since := 7, seq := 2, line := none }] }
     gives (.muteTimeout 50000007) s (fun u => (u.analyser.mutes.map fun m => m.x) = [501, 502] && u.analyser.repeats = [(2, 500)]) &&
     gives (.muteTimeout 50000006) s (fun u => u.analyser.mutes.length = 3)) = true := by decide +kernel

/-- Threshold 1.0, calibration at 30.0, die off it from clock 0 on, and not off it (R415). -/
theorem test_recalibration :
    (let s := fun (o : Option Nat) => (analysing [(0x420011, 0x100), (0x420071, 30 * 256)]).modPort 1 fun p => { p with model := [(0, 63 / 2)], offAt := o }
     gives (.recalibration 1 500000000) (s (some 0)) (fun u => u.analyser.recal = 2 && u.obj 0x42005D = 1 && u.bit 0x420045 11) &&
     gives (.recalibration 1 499999999) (s (some 0)) (fun u => u.analyser.recal = 0 && u.obj 0x42005D = 0) &&
     gives (.recalibration 1 500000000) (s none) (fun u => u.analyser.recal = 0 && u.obj 0x42005D = 0)) = true := by decide +kernel

/-- A batch waits in autonomous mode. -/
def batched (l : List (Key × Nat)) : State :=
  (ready ([(0x420001, 1), (0x420002, 1), (0x5F1006, 3)] ++ l)).modAnalyser fun a => { a with
    batches := [{ seqs := [], repair := { marks := [], gains := [] }, deferred := false }] }

set_option maxRecDepth 20000 in
/-- The batch is armed where the set is equal, and deferred while it is locked (R417). -/
theorem test_batch_apply :
    (gives (.batchApply 0 9) (batched []) (fun u => u.analyser.batches = [] && u.obj 0x230012 = 1 && u.obj 0x42005A = 1 && u.obj 0x32011D = 1024) &&
    gives (.batchApply 0 9) (batched [(0x230012, 1)]) (fun u => u.obj 0x42005B = 1 && u.bit 0x420045 6 && (u.analyser.batches.map fun b => b.deferred) = [true]) &&
    gives (.batchApply 0 9) (batched [(0x230012, 1), (0x420002, 0)]) (fun u => u.obj 0x42005B = 0)) = true := by decide +kernel

/-- Result 5 with action `act`, of which one nozzle of a map of LIVE nozzles is to be marked DEAD. -/
def resulted (act : Nat) (l : List (Key × Nat)) : State :=
  (((op ([(0x200018, 0x1000000000), (0x240021, 0x40000)] ++ l)).setNum 0x1005510000 8 0x01000100504D4A42).setNum 0x1006B40153 1 act).modAnalyser fun a => { a with
    made := 6, unread := 5, actions := [(5, { marks := [(1, 6, 2)], gains := [] })] }

set_option maxRecDepth 20000 in
/-- Nozzle 6 has bits 5 and 4 of byte 0x41 of the shadow map (R301, R419). -/
theorem test_apply :
    (gives (.apply .sdo 5) (resulted 1 []) (fun u => u.num 0x1006B40147 1 = 16 && u.num 0x1005510041 1 = 0x20 && u.analyser.awaiting = [5] && u.slave.resp = .done) &&
    gives (.apply .sdo 5) (resulted 3 []) (fun u => u.num 0x1006B40147 1 = 0 && u.slave.resp = .abort 0x06090030) &&
    gives (.apply .sdo 6) (resulted 1 []) (fun u => u.slave.resp = .abort 0x06090030) &&
    gives (.apply .sdo 5) (resulted 1 [(0x420002, 1), (0x230012, 1)]) (fun u => u.slave.resp = .abort 0x08000022) &&
    gives (.apply .sdo 5) (resulted 1 [(0x230012, 1)]) (fun u => u.slave.resp = .abort 0x08000021 && u.obj 0x230023 = 1)) = true := by decide +kernel

theorem test_geometry :
    (gives (.geometry .sdo) (op [(0x420016, 4)]) (fun u => (u.analyser.requests.map fun r => (r.cause, r.plane)) = [(.geometry, 4)]) &&
    gives (.geometry .reg) ((op []).modAnalyser fun a => { a with requests := List.replicate 32 request }) (fun u => u.obj 0x420059 = 1 && u.analyser.requests.length = 32)) = true := by
  decide +kernel

theorem test_clear_mutes_and_budgets :
    (let s := (op []).modAnalyser fun a => { a with marked := [(3, 64)], mutes := [{ plane := 2, x := 500, since := 7, seq := 0, line := none }] }
     gives (.clearMutes .reg) s (fun u => u.analyser.mutes = [] && u.analyser.marked = [(3, 64)]) &&
     gives (.restoreBudgets .sdo) s (fun u => u.analyser.mutes.length = 1 && u.analyser.marked = [])) = true := by decide +kernel

set_option maxRecDepth 20000 in
theorem test_result_read :
    (gives .resultReadAdvance (resulted 3 []) (fun u => u.analyser.unread = 6 && u.analyser.returned = some 5 && match u.slave.resp with
      | .data d => d = leBytes 8 0x0100000000000000 ++ leBytes 11 0 ++ leBytes 45 3
      | _ => false) &&
    gives .resultRead (resulted 3 []) (fun u => u.analyser.unread = 5) &&
    gives .resultRead ((resulted 3 []).modAnalyser fun a => { a with unread := 6, returned := some 5 }) (fun u => match u.slave.resp with
      | .data d => d = leBytes 19 0 ++ leBytes 45 3
      | _ => false) &&
    gives .resultReadAdvance (op []) (fun u => u.slave.resp = .data (List.replicate 64 0#8))) = true := by decide +kernel

/-! Marionette. -/

/-- Axis 1 in a state, in AL state OP with timing clocks running and extrapolation valid at the start. -/
def axis (st : Nat) (l : List (Key × Nat)) : State := running (op ([(0x480130, st), (0x480101, 1)] ++ l))

/-- Position and velocity of axis 1 at a later clock. -/
def stands (u : State) (t : Nat) (p v : Int) : Bool := (u.at t).axisPos 1 = p && decide (((u.at t).axisKin 1).2.1 = (v : Rat))

/-- 0.1 s to 100,000 microsteps/s over 5,000 microsteps, 1.9 s at that speed, and 0.1 s to rest (R440); 100 microsteps are a triangle of 10 ms up and 10 ms down. -/
theorem test_move_absolute :
    (gives (.moveAbsolute .sdo 1 9) (axis 1 [(0x480111, 200000)]) (fun u => u.axisState 1 = 2 && stands u (9 + 25000000) 1250 50000 &&
      stands u (9 + 50000000) 5000 100000 && stands u (9 + 1050000000) 200000 0) &&
    gives (.moveAbsolute .pdo 1 9) (axis 1 [(0x480111, 100)]) (fun u => stands u (9 + 2500000) 12 5000 && stands u (9 + 5000000) 50 10000 &&
      stands u (9 + 10000000) 100 0) &&
    gives (.moveAbsolute .sdo 1 9) (axis 1 [(0x480111, 201), (0x48010D, 1), (0x48010C, 200)]) (fun u => u.axisState 1 = 1 && u.slave.resp = .abort 0x06090030) &&
    gives (.moveAbsolute .sdo 1 9) (axis 6 []) (fun u => u.axisState 1 = 6 && u.bit 0x480135 7 && u.slave.resp = .abort 0x08000022)) = true := by decide +kernel

/-- A move by -50 from 10, and one that reverses a motion: 10,000 microsteps/s stop within 50 microsteps (R438, R439). -/
theorem test_move_relative :
    (let going := (axis 2 [(0x480111, 2 ^ 64 - 50)]).modAxis 1 fun x => { x with p := 0, v := 10000 }
     gives (.moveRelative .reg 1 0) ((axis 1 [(0x480111, 2 ^ 64 - 50)]).modAxis 1 fun x => { x with p := 10 }) (fun u =>
      match (u.axis.get 1).goal with
      | .move g => decide (g = (-40 : Rat))
      | _ => false) &&
     gives (.moveRelative .reg 1 0) going (fun u => stands u 0 0 10000 && stands u 5000000 50 0 && stands u 10000000 0 (-10000))) = true := by decide +kernel

theorem test_velocity :
    (gives (.velocity .sdo 1 0) (axis 1 [(0x480111, 2 ^ 64 - 100000)]) (fun u => stands u 50000000 (-5000) (-100000) && stands u 100000000 (-15000) (-100000)) &&
    gives (.velocity .sdo 1 0) (axis 1 [(0x480111, 100001)]) (fun u => u.axisState 1 = 1 && u.slave.resp = .abort 0x06090030) &&
    gives (.velocity .sdo 1 0) (axis 1 [(0x480111, 10000), (0x48010D, 1), (0x48010C, 200)]) (fun u => stands u 5000000 50 10000 && stands u 15000000 200 0)) = true := by
  decide +kernel

theorem test_axis_stop :
    (let going := fun (st : Nat) => (axis st []).modAxis 1 fun x => { x with p := 7, v := 10000, goal := .search 0 }
     gives (.axisStop .sdo 1 0) (going 3) (fun u => u.axisState 1 = 2 && u.bit 0x480135 2 && stands u 5000000 57 0) &&
     gives (.quickStop .sdo 1 0) (going 2) (fun u => !u.bit 0x480135 2 && stands u 500000 12 0) &&
     gives (.axisStop .sdo 1 0) (axis 1 []) (fun u => u.slave.resp = .abort 0x08000022) &&
     gives (.quickStop .sdo 1 0) (axis 1 []) (fun u => u.axisState 1 = 1 && u.slave.resp = .done)) = true := by decide +kernel

/-- The search runs at -10,000 microsteps/s after 10 ms (R443). -/
theorem test_home :
    gives (.home .sdo 1 0) (axis 1 [(0x480134, 1)]) (fun u => u.axisState 1 = 3 && u.obj 0x480134 % 2 = 0 && stands u 5000000 (-50) (-10000)) = true := by decide +kernel

theorem test_set_position_and_clear_fault :
    (gives (.setPosition .sdo 1 0) (axis 1 [(0x480111, 2 ^ 64 - 3)]) (fun u => stands u 99 (-3) 0) &&
    gives (.axisClearFault .sdo 1 0) (axis 6 [(0x480136, 4)]) (fun u => u.axisState 1 = 1 && u.obj 0x480136 = 0)) = true := by decide +kernel

theorem test_axis_enable :
    (gives (.axisEnable .sdo 1 0 0) ((axis 2 []).modAxis 1 fun x => { x with p := 7, v := 10000 }) (fun u => u.axisState 1 = 0 && u.obj 0x480101 = 0 && stands u 99 7 0) &&
    gives (.axisEnable .reg 1 1 0) (axis 0 []) (fun u => u.axisState 1 = 1)) = true := by decide +kernel

/-- Axis 1 with a goal, at rest at 7. -/
def aiming (st : Nat) (g : AxisGoal) (l : List (Key × Nat)) : State := (axis st l).modAxis 1 fun x => { x with p := 7, goal := g }

theorem test_motion_ends :
    (gives (.moveDone 1 9) (aiming 2 (.move 8) []) (fun u => u.axisState 1 = 1 && stands u 9 8 0 && u.bit 0x480135 0) &&
    gives (.limitReached 1 9) (aiming 2 (.limit 200) []) (fun u => u.axisState 1 = 2 && stands u 9 200 0 && u.obj 0x480134 = 8 && u.obj 0x480142 = 1) &&
    gives (.motionAtRest 1 9) (aiming 2 .stop []) (fun u => u.axisState 1 = 1 && stands u 9 7 0) &&
    gives (.homeDone 1 9) (aiming 3 (.backoff 400) []) (fun u => u.axisState 1 = 1 && stands u 9 400 0 && u.bit 0x480135 1)) = true := by decide +kernel

/-- The blanking distance is 200: at 199 DIAG is ignored, at 200 it is the stall; the back-off is 400 away from the stop (R443, R444). -/
theorem test_diag_stall :
    (gives (.diagStall 1 false 5000 9) (aiming 3 (.search 206) [(0x48011C, 5)]) (fun u => stands u 9 7 0 && u.obj 0x480134 = 2) &&
    gives (.diagStall 1 false 5000 9) (aiming 3 (.search 207) [(0x48011C, 5)]) (fun u => stands u 9 5 0 && u.obj 0x480134 = 3 &&
      match (u.axis.get 1).goal with
      | .backoff g => decide (g = (405 : Rat))
      | _ => false) &&
    gives (.diagStall 1 false 5000 9) (aiming 2 .run [(0x48010E, 2)]) (fun u => u.axisState 1 = 6 && u.obj 0x480136 = 1 && u.bit 0x5E0010 30 && u.obj 0x480140 = 1) &&
    gives (.diagStall 1 false 4999 9) (aiming 2 .run [(0x48010E, 2)]) (fun u => u.axisState 1 = 2 && u.obj 0x480140 = 0) &&
    gives (.diagStall 1 true 5000 9) (aiming 2 .run [(0x48010E, 2), (0x480134, 2)]) (fun u => u.axisState 1 = 2 && !u.bit 0x480134 1) &&
    gives (.diagStall 1 false 5000 9) (aiming 2 .run [(0x48010E, 0)]) (fun u => u.axisState 1 = 2 && u.obj 0x480140 = 1 && u.bit 0x480135 3)) = true := by decide +kernel

theorem test_home_fail :
    gives (.homeFail 1 9) (aiming 3 (.search 1007) [(0x48011B, 1000)]) (fun u => u.axisState 1 = 6 && u.obj 0x480136 = 2 && u.obj 0x480141 = 1) = true := by decide +kernel

/-- A search that fails in motion, here at 10,000 microsteps/s, decelerates first, and enters FAULT at rest; so do lag and overspeed (R436, R445, R451). -/
theorem test_stop_that_leads_to_fault :
    (gives (.homeFail 1 0) ((aiming 3 (.search 1007) [(0x48011B, 1000)]).modAxis 1 fun x => { x with v := 10000 }) (fun u => u.axisState 1 = 2 &&
      (u.axis.get 1).goal = .fault 2 157 && u.obj 0x480136 = 0 && u.obj 0x480141 = 0 && stands u 0 7 10000 && stands u 5000000 57 0) &&
    gives (.motionAtRest 1 9) (aiming 2 (.fault 2 157) []) (fun u => u.axisState 1 = 6 && u.obj 0x480136 = 2 && u.obj 0x480141 = 1 && u.bit 0x5E0010 29) &&
    gives (.motionAtRest 1 9) (aiming 2 (.fault 3 159) []) (fun u => u.axisState 1 = 6 && u.obj 0x480136 = 3 && u.bit 0x5E0010 31) &&
    gives (.motionAtRest 1 9) (aiming 2 (.fault 4 157) []) (fun u => u.axisState 1 = 6 && u.obj 0x480136 = 4 && u.obj 0x480144 = 1) &&
    gives (.axisStop .sdo 1 0) (aiming 2 (.fault 4 157) []) (fun u => u.axisState 1 = 2 && u.bit 0x480135 7 && u.slave.resp = .abort 0x08000022)) = true := by decide +kernel

/-- Axis 1 geared at ratio 2 at raw position `y` lines. -/
def geared (y : Nat) (l : List (Key × Nat)) : State :=
  ((axis 4 ([(0x480120, 3 * 2 ^ 32), (0x480121, 0)] ++ l)).modAxis 1 fun x => { x with p := 100, r0 := 2, r1 := 2, anchor := 0 }).modPosition
    fun q => { q with acc := y * 2 ^ 32 }

theorem test_gear :
    (gives (.engageGear .sdo 1 0) ((geared 10 []).setObj 0x480130 1) (fun u => u.axisState 1 = 4 && stands u 0 100 0 && decide (u.ratioInForce 1 = 3)) &&
    gives (.engageGear .sdo 1 0) ((geared 10 []).setObj 0x480130 1 |>.setObj 0x480121 50) (fun u => decide (u.ratioInForce 1 = 0)) &&
    gives (.disengageGear .sdo 1 0) (geared 10 [(0x480121, 50)]) (fun u => u.axisState 1 = 4 && stands u 0 120 0 && decide (u.ratioInForce 1 = 2))) = true := by
  decide +kernel

theorem test_segment :
    (let s := fun (y : Nat) => (geared 10 []).modAxis 1 fun x => { x with queue := [(y * 65536, -2 ^ 33, 0), (2, 3, 4)] }
     gives (.segment 1 0) (s 10) (fun u => (u.axis.get 1).queue = [(2, 3, 4)] && stands u 0 120 0 && decide (u.ratioInForce 1 = -2) && u.bit 0x480135 6) &&
     gives (.segment 1 0) (s 11) (fun u => (u.axis.get 1).queue.length = 2 && decide (u.ratioInForce 1 = 2)) &&
     gives (.segmentQueueWrite 1 (leBytes 8 5 ++ leBytes 8 (2 ^ 64 - 1) ++ leBytes 8 9)) (s 10) (fun u => (u.axis.get 1).queue.drop 2 = [(5, -1, 9)]) &&
     gives (.segmentQueueWrite 1 (List.replicate 168 0#8)) (s 10) (fun u => (u.axis.get 1).queue.length = 2 && u.slave.resp = .abort 0x06090030) &&
     gives (.segmentQueueWrite 1 (List.replicate 144 0#8)) (s 10) (fun u => (u.axis.get 1).queue.length = 8) &&
     gives (.segmentQueueWrite 1 []) (s 10) (fun u => (u.axis.get 1).queue = [])) = true := by decide +kernel

/-- At ratio 2 and 10 lines the axis stands at 120 (R451). -/
theorem test_geared_axis_fault :
    (gives (.gearedAxisFault 1 0) (geared 10 [(0x48010D, 1), (0x48010C, 120)]) (fun u => u.axisState 1 = 6 && u.obj 0x480136 = 5 && stands u 0 120 0 && u.bit 0x5E0010 29) &&
    gives (.gearedAxisFault 1 0) (geared 10 [(0x48010D, 1), (0x48010C, 121)]) (fun u => u.axisState 1 = 4) &&
    gives (.gearedAxisFault 1 0) (((geared 10 []).setBit 0x220015 2 true).modPosition fun q => { q with vel := 50001 * 2 ^ 32 })
      (fun u => u.axisState 1 = 2 && (u.axis.get 1).goal = .fault 4 157 && u.obj 0x480144 = 0)) = true := by decide +kernel

theorem test_walk_enable :
    (gives (.walkEnable .sdo 1 1 0) (axis 1 []) (fun u => u.axisState 1 = 5 && u.obj 0x480128 = 1) &&
    gives (.walkEnable .sdo 1 1 0) (axis 1 [(0x48012E, 1)]) (fun u => u.axisState 1 = 1 && u.slave.resp = .abort 0x08000022) &&
    gives (.walkEnable .sdo 1 1 0) (axis 1 [(0x480228, 1)]) (fun u => u.axisState 1 = 1 && u.slave.resp = .abort 0x08000022) &&
    gives (.walkEnable .sdo 1 0 0) (axis 5 [(0x480128, 1), (0x48012E, 9)]) (fun u => u.axisState 1 = 1 && u.obj 0x480128 = 0 && stands u 0 9 0) &&
    gives (.walkEnable .sdo 1 0 0) (axis 5 [(0x5F1006, 2)]) (fun u => u.axisState 1 = 5 && u.slave.resp = .abort 0x08000022)) = true := by decide +kernel

/-- The reference walk: 31 pixels where the corner begins, 31.5 at the apex, 0 at half the period, and -31.5 (R452). -/
theorem test_walk_plan :
    (let w := fun (y : Nat) => (axis 5 []).walkPlan (y * 65536)
     w 0 = 0 && w 18600 = 31 * 65536 && w 19200 = 63 * 32768 && w 19800 = 31 * 65536 && w 38400 = 0 && w 57600 = -63 * 32768 && w 76800 = 0) = true := by
  decide +kernel

/-- Axis 1 moving, its commanded position `p`, with a generator. -/
def pulsing (p : Rat) (g : StepGen) : State :=
  (running (put [(0x480130, 2)])).modAxis 1 fun x => { x with p := p, gen := g }

/-- What a clock without a command makes of the generator and its counts. -/
def afterClock (s : State) (f : StepGen → State → Bool) : Bool :=
  match step s with
  | .next u => f (u.axis.get 1).gen u
  | _ => false

/-- The default step width of 100 ns is 50 clocks: a step is due after 100 clocks, is held and counted once before, and a turn of DIR waits for 50 clocks of STEP and holds the step for its setup (R434). -/
theorem test_step_generator :
    (afterClock (pulsing 1 { count := 0, dir := false, rise := none, turn := none, held := false, cut := none }) (fun g u =>
      g = { count := 1, dir := false, rise := some 1, turn := none, held := false, cut := none } && u.obj 0x480145 = 0) &&
    afterClock ((pulsing 2 { count := 1, dir := false, rise := some 0, turn := none, held := false, cut := none }).at 98) (fun g u =>
      g.held && g.count = 1 && u.obj 0x480145 = 1 && u.bit 0x480135 8) &&
    afterClock ((pulsing 2 { count := 1, dir := false, rise := some 0, turn := none, held := true, cut := none }).at 98) (fun g u => g.held && u.obj 0x480145 = 0) &&
    afterClock ((pulsing 2 { count := 1, dir := false, rise := some 0, turn := none, held := true, cut := none }).at 99) (fun g _ =>
      g = { count := 2, dir := false, rise := some 100, turn := none, held := false, cut := none }) &&
    afterClock ((pulsing 0 { count := 1, dir := false, rise := some 0, turn := none, held := false, cut := none }).at 48) (fun g _ => !g.dir && g.held) &&
    afterClock ((pulsing 0 { count := 1, dir := false, rise := some 0, turn := none, held := true, cut := none }).at 49) (fun g _ =>
      g = { count := 1, dir := true, rise := some 0, turn := some 50, held := true, cut := none }) &&
    afterClock (pulsing 1 { count := 1, dir := false, rise := none, turn := none, held := true, cut := none }) (fun g _ => !g.held && g.count = 1)) = true := by
  decide +kernel

/-! The stack. -/

/-- The worked example of R463: CH4, bank group 5, bank 2 under M0, and CH0, bank group 0, bank 3 under M3, of row 25,741. -/
theorem test_address_maps :
    ((put []).place 0x132468ACE0 = (4, 22, 25741) && (put [(0x500002, 3)]).place 0x132468ACE0 = (0, 3, 25741)) = true := by decide +kernel

/-- A request of RENDER for 64 bytes of bank 0, row 0 of channel 0, accepted at clock 100, of which a write replaces bytes 4 to 7. -/
def req (id : Nat) (write : Bool) : StackReq :=
  { id, cls := 0, port := 0, write, addr := 0x1000000040, mask := 0xF0, data := (List.range 64).map fun i => BitVec.ofNat 8 (i + 1),
    since := 100, bank := 0, row := 0, col := 0, missed := false }

/-- A request is queued on channel 0, refused by a channel that is not ACTIVE, beyond the stack and in self-refresh, and waits behind 50 of its class (R468, R489, R491). -/
theorem test_stack_request :
    (let ask := fun (a : Nat) => Instr.stackRequest .render 3 a false [] 0 100
     gives (ask 0x1000000041) (ready []) (fun u => ((u.chan 0).reads.map fun r => (r.addr, r.cls, r.bank, r.since)) = [(0x1000000040, 0, 0, 100)] && u.stack.reply = .accepted) &&
     gives (ask 0x1000000400) ((ready []).setObj 0x500420 0) (fun u => u.stack.reply = .error && u.obj 0x500444 = 0) &&
     gives (ask 0x1800000000) (ready []) (fun u => u.stack.reply = .error) &&
     gives (ask 0x1000000041) ((ready []).modStack fun m => { m with sr := .on }) (fun u => u.stack.reply = .error && u.obj 0x500044 = 1) &&
     gives (ask 0x1000000041) ((ready []).modChan 0 fun ch => { ch with reads := List.replicate 49 (req 0 false), nextId := 1 }) (fun u => u.stack.reply = .accepted) &&
     gives (ask 0x1000000041) ((ready []).modChan 0 fun ch => { ch with reads := List.replicate 50 (req 0 false), nextId := 1 }) (fun u =>
       u.stack.reply = .waits && (u.chan 0).waits.length = 1)) = true := by decide +kernel

/-- Channel 0 with requests, and bank 0 open at row `row`. -/
def open0 (row : Option Nat) (rs ws : List StackReq) : State :=
  ((ready []).setNum 0x1000000040 8 0x1111111111111111).modChan 0 fun ch => { ch with
    reads := rs, writes := ws, nextId := 9, banks := match row with
      | some r => [(0, { StackBank.idle with row := some r, used := 100 })]
      | none => [] }

/-- A closed bank is activated, a read returns memory, a write replaces its bytes, and a row of another request is closed first (R462, R471, R476). -/
theorem test_stack_command_issue :
    (gives (.stackCommandIssue 0 200) (open0 none [req 0 false] []) (fun u => ((u.chan 0).bank 0).row = some 0 && ((u.chan 0).bank 0).useOk = 217 &&
      (u.chan 0).reads.length = 1 && (u.chan 0).retry.length = 1 && (u.chan 0).issued = 201) &&
    gives (.stackCommandIssue 0 200) (open0 (some 0) [req 0 false] []) (fun u => (u.chan 0).reads = [] && match u.stack.reply with
      | .data d => d.take 9 = leBytes 9 0x1111111111111111
      | _ => false) &&
    gives (.stackCommandIssue 0 200) (open0 (some 0) [] [req 0 true]) (fun u => (u.chan 0).writes = [] && u.num 0x1000000040 8 = 0x0807060511111111) &&
    gives (.stackCommandIssue 0 200) (open0 (some 5) [req 0 false] []) (fun u => ((u.chan 0).bank 0).row = none && (u.chan 0).reads.length = 1) &&
    gives (.stackCommandIssue 0 200) ((open0 (some 0) [req 0 false] []).modChan 0 fun ch => ch.modBank 0 fun b => { b with forced := true, owed := 8 })
      (fun u => ((u.chan 0).bank 0).row = none && (u.chan 0).reads.length = 1) &&
    gives (.stackCommandIssue 0 200) ((open0 none [] []).modChan 0 fun ch => ch.modBank 3 fun b => { b with owed := 1 })
      (fun u => ((u.chan 0).bank 3).owed = 0 && ((u.chan 0).bank 3).actOk = 296 && ((u.chan 0).bank 3).next = 8) &&
    gives (.stackCommandIssue 4 200) (open0 none [] []) (fun u => (u.chan 4).issued = 0)) = true := by decide +kernel

/-- RENDER's target of 2,000 ns is 2,400 stack clocks (R470). -/
theorem test_target_miss :
    (gives (.targetMiss 0 2500) (open0 none [req 0 false] []) (fun u => u.obj 0x500048 = 1 && u.bit 0x50000F 6 && (u.chan 0).reads.all fun r => r.missed) &&
    gives (.targetMiss 0 2499) (open0 none [req 0 false] []) (fun u => u.obj 0x500048 = 0)) = true := by decide +kernel

/-- The page idle time of 100 ns is 120 stack clocks (R476). -/
theorem test_page_idle_expiry :
    (gives (.pageIdleExpiry 0 0 220) (open0 (some 0) [] []) (fun u => ((u.chan 0).bank 0).row = none) &&
    gives (.pageIdleExpiry 0 0 219) (open0 (some 0) [] []) (fun u => ((u.chan 0).bank 0).row = some 0)) = true := by decide +kernel

/-- Bank 3 is due after 3/32 of 3.90625 us, 439.5 stack clocks, and a window is 38,400,000 (R477). -/
theorem test_refresh_due :
    (let s := fun (n : Nat) (tr : Bool) => (ready []).modChan 0 fun ch => { ch.modBank 3 fun b => { b with owed := n } with training := tr }
     gives (.refreshDue 0 3 440) (s 6 false) (fun u => ((u.chan 0).bank 3).owed = 7 && !((u.chan 0).bank 3).forced && ((u.chan 0).bank 3).due = some 656250) &&
     gives (.refreshDue 0 3 439) (s 6 false) (fun u => ((u.chan 0).bank 3).owed = 6) &&
     gives (.refreshDue 0 3 440) (s 7 false) (fun u => ((u.chan 0).bank 3).owed = 8 && ((u.chan 0).bank 3).forced && u.obj 0x500040 = 1 && u.bit 0x50000F 7) &&
     gives (.refreshDue 0 3 440) (s 7 true) (fun u => ((u.chan 0).bank 3).owed = 7 && u.obj 0x500040 = 0) &&
     gives (.refreshWindowStart 38399999) ((s 7 false).modChan 1 fun ch => { ch with throttled := [(1, 1)] })
       (fun u => (u.chan 1).throttled = [(1, 1)] && u.stack.window = 0) &&
     gives (.refreshWindowStart 38400000) ((s 7 false).modChan 1 fun ch => { ch with tables := [(0, [(5, 9)])], throttled := [(1, 1)] })
       (fun u => u.stack.window = 38400000 && (u.chan 1).tables = [] && (u.chan 1).throttled = [] && ((u.chan 0).bank 3).owed = 7)) = true := by decide +kernel

/-- Stages at 85.0, 95.0 and 105.0 degrees, left 2.0 below; the lowest die of two equals is reported (R483, R484, R486). -/
theorem test_stack_temp_reading :
    (gives (.stackTempReading [21759, 100] 9) (ready []) (fun u => u.obj 0x50000E = 0 && u.obj 0x50000C = 21759) &&
    gives (.stackTempReading [100, 21760, 21760] 9) (ready []) (fun u => u.obj 0x50000E = 1 && u.obj 0x50000D = 1) &&
    gives (.stackTempReading [24320] 9) (ready []) (fun u => u.obj 0x50000E = 3) &&
    gives (.stackTempReading [21248] 9) (ready [(0x50000E, 1)]) (fun u => u.obj 0x50000E = 1) &&
    gives (.stackTempReading [21247] 9) (ready [(0x50000E, 1)]) (fun u => u.obj 0x50000E = 0) &&
    gives (.stackTempReading [26880] 9) (ready []) (fun u => u.obj 0x50000E = 7 && u.stack.sr = .entering && u.engineState = 6 && u.obj 0x500019 = 1) &&
    gives (.stackTempReading [23807] 9) (ready [(0x50000E, 7)]) (fun u => u.obj 0x50000E = 5 && u.stack.cool = some 9) &&
    gives (.stackTempReading [-1] 9) (ready []) (fun u => u.obj 0x50000C = 65535)) = true := by decide +kernel

/-- INGEST's share of 1 allows 300 accesses in a window (R485). -/
theorem test_thermal_throttle_window :
    (let s := fun (n : Nat) => (ready [(0x50000E, 3)]).modChan 0 fun ch => { ch with ingest := n, reads := [{ req 0 false with cls := 1 }] }
     gives (.thermalThrottleWindow 99) (s 300) (fun u => u.obj 0x500045 = 1 && (u.chan 0).ingest = 0) &&
     gives (.thermalThrottleWindow 99) (s 299) (fun u => u.obj 0x500045 = 0) &&
     gives (.thermalThrottleWindow 99) ((s 0).modChan 0 fun ch => { ch with waited := true }) (fun u => u.obj 0x500045 = 1 && !(u.chan 0).waited)) = true := by decide +kernel

/-- 1 s is 500,000,000 clocks (R486). -/
theorem test_overtemp_recovery :
    (let s := (ready [(0x50000E, 12)]).modStack fun m => { m with sr := .on, cool := some 9 }
     gives (.overtempRecovery 500000009) s (fun u => u.stack.sr = .leaving) &&
     gives (.overtempRecovery 500000008) s (fun u => u.stack.sr = .on)) = true := by decide +kernel

/-- The stack of channel 0 with three requests, in AL state OP and engine state `e`. -/
def commanded (e : Nat) (sr : SelfRefresh) : State :=
  ((ready [(0x5F1006, e)]).modSlave fun sl => { sl with al := .op }).modStack (fun m => { m with sr }) |>.modChan 0 fun ch => { ch with
    reads := [req 0 false, req 1 false], writes := [req 2 true], banks := [(0, { StackBank.idle with row := some 7, owed := 3 })] }

/-- The 150 ns before access are 180 stack clocks (R462, R490). -/
theorem test_self_refresh :
    (gives (.selfRefreshEnter .sdo 9) (commanded 1 .off) (fun u => u.stack.sr = .off && u.slave.resp = .abort 0x08000022) &&
    gives (.selfRefreshEnter .sdo 9) (commanded 0 .off) (fun u => u.stack.sr = .entering && (u.chan 0).reads = [] && u.obj 0x500044 = 3) &&
    gives (.selfRefreshEntryDone 9) (commanded 0 .entering) (fun u => u.stack.sr = .on && ((u.chan 0).bank 0).row = none && ((u.chan 0).bank 0).owed = 3 &&
      u.chanState 0 = 2 && u.chanState 4 = 2 && u.obj 0x500018 = 1) &&
    gives (.selfRefreshExit .sdo 9) (commanded 0 .on) (fun u => u.stack.sr = .leaving) &&
    gives (.selfRefreshExit .reg 9) (commanded 1 .on) (fun u => u.stack.sr = .on && u.bit 0x50000F 8) &&
    gives (.selfRefreshExitDone [] 188) (((commanded 0 .leaving).modStack fun m => { m with leftAt := 9 }).setObj 0x500020 2) (fun u => u.stack.sr = .leaving) &&
    gives (.selfRefreshExitDone [] 189) (((commanded 0 .leaving).modStack fun m => { m with leftAt := 9 }).setObj 0x500020 2) (fun u => u.stack.sr = .off && u.stack.window = 189 && (u.chan 0).banks = [] && u.chanState 0 = 1 && u.obj 0x510018 = 1)) = true := by
  decide +kernel

theorem test_address_map_write :
    (gives (.addressMapWrite .sdo 3) (commanded 0 .off) (fun u => u.mram.mapOrder = 3 && u.obj 0x500002 = 0) &&
    gives (.addressMapWrite .sdo 4) (commanded 0 .off) (fun u => u.slave.resp = .abort 0x06090030) &&
    gives (.addressMapWrite .sdo 3) (commanded 1 .off) (fun u => u.mram.mapOrder = 0 && u.slave.resp = .abort 0x08000022)) = true := by decide +kernel

/-! Stack integrity. -/

/-- A device whose channels 4 and 5 have not been trained. -/
def untrained (l : List (Key × Nat)) : State := ((ready l).setObj 0x500420 0).setObj 0x500520 0

/-- Channel 4 is in TRAINING, no lane spared or `n` data spares used (R505, R507, R516). -/
theorem test_training_done :
    (gives (.trainingDone 4 [(17, 90)] 9) (untrained []) (fun u => u.chanState 4 = 1 && u.obj 0x510418 = 1) &&
    gives (.trainingDone 4 [(17, 89)] 9) (untrained []) (fun u => u.chanState 4 = 1 && u.obj 0x510418 = 2 && u.obj 0x510410 = 1 && u.obj 0x510419 % 256 = 17) &&
    gives (.trainingDone 4 [(17, 89)] 9) (untrained [(0x510410, 4), (0x200003, 0xFF)]) (fun u => u.chanState 4 = 3 && u.obj 0x510418 = 3 && u.obj 0x200003 = 0xEF)) = true := by
  decide +kernel

/-- Channel 0 with a replay of a cause in a round. -/
def replaying (kind : AlertKind) (round : Nat) (again : Bool) (l : List (Key × Nat)) : State :=
  (ready ([(0x200003, 0xFF)] ++ l)).modChan 0 fun ch => { ch with
    replay := some { causes := [(kind, 0x1000000040)], since := 100, round := round, alerted := false, retrained := again } }

theorem test_alert :
    (gives (.alert 0 .writeAlert [] 5 ⟨80, 100⟩) (ready []) (fun u => ((u.chan 0).replay.map fun r => (r.causes, r.since)) = some ([(.writeAlert, 0x1000000000)], 100)) &&
    gives (.alert 0 .writeAlert [] 5 ⟨75, 100⟩) (ready []) (fun u => (u.chan 0).replay = none) &&
    gives (.alert 0 .readParity [3, 0x100000000] 0x1000000085 ⟨0, 100⟩) (replaying .writeAlert 1 false []) (fun u => ((u.chan 0).replay.map fun r => r.causes.length) = some 2) &&
    gives (.alert 0 .readParity [3, 0x100000000] 0x1000000085 ⟨0, 101⟩) (replaying .writeAlert 1 false []) (fun u => ((u.chan 0).replay.map fun r => r.causes.length) = some 1) &&
    gives (.alert 0 .readParity [3, 0x100000001] 0x1000000085 ⟨0, 100⟩) (ready []) (fun u => (u.chan 0).replay = none)) = true := by
  decide +kernel

/-- Channel 0 with a command of bank 0, row 0 in its retry buffer, issued at clock `at_` and held there until clock 900; a write has replaced zeros. -/
def buffered (kind : DramKind) (at_ : Nat) (s : State) : State :=
  (s.setNum 0x1000000040 8 9).modChan 0 fun ch => { ch with
    retry := [{ kind, bank := 0, row := 0, issuedAt := at_, clk := 900, req := some (req 0 (kind = .write)), old := List.replicate 64 0#8 }] }

/-- A die drops the write of the failing command's clock, and the round makes it again; an earlier one stands (R496, R498). -/
theorem test_alert_drops_writes :
    (gives (.alert 0 .writeAlert [] 5 ⟨80, 100⟩) (buffered .write 80 (ready [])) (fun u => u.num 0x1000000040 8 = 0) &&
    gives (.alert 0 .writeAlert [] 5 ⟨80, 100⟩) (buffered .write 79 (ready [])) (fun u => u.num 0x1000000040 8 = 9) &&
    gives (.replayRoundDone 0 ⟨false, []⟩ 200) (buffered .write 80 (replaying .writeAlert 1 false [])) (fun u => u.num 0x1000000044 4 = 0x08070605 &&
      (u.chan 0).replay = none && u.obj 0x510002 = 1)) = true := by decide +kernel

theorem test_replay_round_done :
    (gives (.replayRoundDone 0 ⟨false, []⟩ 200) (buffered .read 80 (replaying .readParity 2 false [])) (fun u => (u.chan 0).replay = none && u.obj 0x510001 = 1 && u.obj 0x510004 = 1) &&
    gives (.replayRoundDone 0 ⟨false, [0x1000000040]⟩ 200) (replaying .readParity 3 false []) (fun u => ((u.chan 0).replay.map fun r => r.round) = some 4) &&
    gives (.replayRoundDone 0 ⟨false, []⟩ 171) (replaying .readParity 2 false []) (fun u => (u.chan 0).replay.isSome) &&
    gives (.replayRoundDone 0 ⟨true, []⟩ 200) (replaying .readParity 3 false []) (fun u => ((u.chan 0).replay.map fun r => (r.round, r.alerted)) = some (4, true)) &&
    gives (.replayRoundDone 0 ⟨false, [0x1000000040]⟩ 200) (buffered .read 80 (replaying .readParity 4 false [])) (fun u => (u.chan 0).retests = [(0x1000000040, 200)] && u.obj 0x510006 = 1) &&
    gives (.replayRoundDone 0 ⟨true, []⟩ 200) (replaying .commandAlert 4 false []) (fun u => (u.chan 0).training && u.obj 0x510005 = 1 && u.obj 0x510009 = 1) &&
    gives (.replayRoundDone 0 ⟨false, [0x1000000040]⟩ 200) (replaying .readParity 4 true []) (fun u => u.chanState 0 = 3 && u.stack.reply = .error) &&
    gives (.replayRoundDone 0 ⟨true, []⟩ 200) (replaying .commandAlert 4 true [(0x5F1006, 3)]) (fun u => u.chanState 0 = 3 && u.engineState = 5 && u.obj 0x200003 = 0xFE)) = true := by
  decide +kernel

theorem test_quick_training_done :
    (let s := fun (l : List (Key × Nat)) => (ready ([(0x200003, 0xFF), (0x5F1009, 0xFFFFFFFF)] ++ l)).modChan 0 fun ch => { ch with training := true }
     gives (.quickTrainingDone 0 [(17, 90)] 9) (s []) (fun u => !(u.chan 0).training && u.chanState 0 = 1 && u.obj 0x510018 = 1) &&
     gives (.quickTrainingDone 0 [(17, 40)] 9) (s [(0x510010, 4), (0x5F1006, 3)]) (fun u => u.chanState 0 = 3 && u.engineState = 5) &&
     gives (.quickTrainingDone 0 [(17, 40)] 9) (s [(0x510010, 4), (0x200003, 0xF), (0x5F1006, 3)]) (fun u => u.engineState = 6 && u.bit 0x520001 2)) = true := by decide +kernel

/-- Bank 0, row 0 of channel 0, whose bank group 0 has used `n` spare rows. -/
def retesting (n : Nat) (fails : List (Nat × Nat)) : State :=
  (ready [(0x510012, n)]).modChan 0 fun ch => { ch with retests := [(0x1000000040, 100)], rowFails := fails }

theorem test_retest_read :
    (gives (.retestRead 0 false [] 12100) (retesting 0 []) (fun u => (u.chan 0).rowFails = [(0, 1)] && u.obj 0x510007 = 1 && u.mram.repair.rows = []) &&
    gives (.retestRead 0 false [] 12099) (retesting 0 []) (fun u => (u.chan 0).retests.length = 1) &&
    gives (.retestRead 0 true [] 12100) (retesting 0 []) (fun u => (u.chan 0).retests = [] && u.obj 0x510007 = 0) &&
    gives (.retestRead 0 false [] 12100) (retesting 15 [(0, 1)]) (fun u => u.mram.repair.rows = [(0, 0, 0, 15)] && u.obj 0x510012 = 16 && u.obj 0x520042 = 1) &&
    gives (.retestRead 0 false [] 12100) (retesting 16 [(0, 1)]) (fun u => u.mram.repair.rows = [] && u.stack.pending = [(0, 0, 0)] && u.obj 0x520004 = 1)) = true := by
  decide +kernel

theorem test_eye_sweep :
    (gives (.eyeSweep 0 [(5, 90), (7, 77), (9, 77)] 9) (ready []) (fun u => u.obj 0x510016 = 77 && u.obj 0x510017 = 7 && u.obj 0x51001A = 0) &&
    gives (.eyeSweep 0 [(5, 51), (7, 76)] 9) (ready []) (fun u => u.obj 0x510016 = 51 && u.bit 0x51001A 4 && u.obj 0x51000A = 1 && !(u.chan 0).training) &&
    gives (.eyeSweep 0 [(5, 50)] 9) (ready []) (fun u => (u.chan 0).training && u.obj 0x510009 = 1)) = true := by decide +kernel

theorem test_patrol_read :
    (gives (.patrolRead true 9) (ready []) (fun u => u.stack.patrol = 64 && (u.chan 0).retests = []) &&
    gives (.patrolRead false 9) (ready []) (fun u => (u.chan 0).retests = [(0x1000000000, 9)] && u.obj 0x510006 = 1 && u.obj 0x510008 = 1) &&
    gives (.patrolRead true 9) ((ready []).modStack fun m => { m with patrol := 0x7FFFFFFC0 }) (fun u => u.stack.patrol = 0) &&
    gives (.patrolRead true 9) ((ready []).setObj 0x500020 3) (fun u => u.stack.patrol = 64 && (u.chan 0).retests = [] && u.obj 0x500044 = 0) &&
    gives (.patrolRead true 9) ((ready []).modStack fun m => { m with sr := .on }) (fun u => u.stack.patrol = 64 && u.obj 0x500044 = 1) &&
    gives (.patrolRead true 9) (ready [(0x520005, 0)]) (fun u => u.stack.patrol = 0)) = true := by decide +kernel

/-- CH5 retired: 28 GiB are populated (R518, R521); a page retired leaves 512 KiB less (R515). -/
theorem test_rebuild_done :
    (let s := fun (m : Nat) (p : List (Nat × Nat × Nat)) => (ready [(0x520001, 2), (0x200003, m)]).modStack fun k => { k with rebuild := decide (m ≠ 0xFF), retiring := p }
     gives (.rebuildDone ⟨[], [], 9⟩) (s 0xDF []) (fun u => u.stack.mapped = 0xDF && u.obj 0x200002 = 0x700000000 && u.obj 0x520044 = 1 && u.obj 0x520001 = 0) &&
     gives (.rebuildDone ⟨[0x1000000042], [(0x02600008, true), (0x02600010, false)], 9⟩) (s 0xFF [(2, 1, 77)]) (fun u => u.stack.poison = [0x1000000040] && u.obj 0x58000E = 1 && u.obj 0x58000D = 1 && u.stack.mapped = 0xFF && u.obj 0x200002 = 0x7FFF80000 && u.mram.repair.pages = [(2, 1, 77)] && u.obj 0x510213 = 1)) = true := by
  decide +kernel

theorem test_mbist :
    (gives (.mbistRun .sdo 9) ((commanded 0 .off).setByte 0x1000000040 7#8 |>.setByte 0x40 8#8) (fun u => u.obj 0x520001 = 16 && u.obj 0x520013 = 1 && u.chanState 0 = 0 &&
      u.byte 0x1000000040 = 0#8 && u.byte 0x40 = 8#8) &&
    gives (.mbistRun .sdo 9) (commanded 1 .off) (fun u => u.obj 0x520001 = 0 && u.slave.resp = .abort 0x08000022) &&
    gives (.mbistAbort .sdo 9) ((commanded 0 .off).setObj 0x520001 16) (fun u => u.stack.abort) &&
    gives (.mbistAbort .sdo 9) (commanded 0 .off) (fun u => !u.stack.abort) &&
    gives (.mbistDone [] [] 9) (ready [(0x520001, 16), (0x200003, 0xFF), (0x51041A, 8)]) (fun u => u.obj 0x520001 = 0 && u.obj 0x520013 = 2 && u.chanState 4 = 1 && u.obj 0x510418 = 1 && u.bit 0x520002 6) &&
    gives (.mbistDone [(4, 9, 300), (5, 0, 0)] [] 9) (ready [(0x520001, 16), (0x200003, 0xFF), (0x51041A, 8)]) (fun u => u.obj 0x520014 = 1 && u.obj 0x520013 = 3 &&
      u.mram.repair.rows = [(4, 9, 300, 0)])) = true := by decide +kernel

theorem test_jtag :
    (gives .stkWir (ready [(0x520015, 1), (0x520016, 3)]) (fun u => u.jtag = .wir 3) &&
    gives .stkWdr (ready [(0x520016, 3)]) (fun u => u.jtag = .bypass)) = true := by decide +kernel

theorem test_lists_and_loss :
    (gives (.clearLists .sdo) (commanded 0 .off) (fun u => u.mram.clearLists) &&
    gives (.clearLists .sdo) (commanded 1 .off) (fun u => !u.mram.clearLists && u.slave.resp = .abort 0x08000022) &&
    gives (.stackLossClear .sdo 1) ((commanded 3 .off).setObj 0x520021 7 |>.setObj 0x520031 9) (fun u => u.obj 0x520021 = 0xFFFFFFFF && u.obj 0x520031 = 0xFFFFFFFF)) = true := by
  decide +kernel

/-! SRAM and DMA. -/

/-- A device with 32 GiB of stack, all channels ACTIVE. -/
def stacked (l : List (Key × Nat)) : State :=
  ready ([(0x500420, 1), (0x500520, 1), (0x500620, 1), (0x500720, 1), (0x200003, 0xFF)] ++ l)

theorem test_sram_clear_done :
    gives .sramClearDone (((put []).setByte 0x027FFFFF 7#8 |>.setByte 0x1000000000 8#8).modSram fun sr => { sr with bad := [8] })
      (fun u => u.mem = [(0x1000000000, 8#8)] && u.sram.bad = [] && u.obj 0x580008 = 3) = true := by decide +kernel

/-- Once INIT_DONE is 1 no clearing runs (R540). -/
theorem test_sram_is_cleared_once :
    gives .sramClearDone ((put [(0x580008, 3)]).setByte 0x027FFFFF 7#8) (fun u => u.byte 0x027FFFFF = 7#8) = true := by decide +kernel

/-- Scrub word 5 of bank 1 is the word at 5 * 256 + 8 (R531, R539). -/
theorem test_scrub_step :
    (let s := fun (k : Nat) => (put [(0x580008, 3)]).modSram fun sr => { sr with scrubWord := k }
     gives (.scrubStep [(1288, true)]) (s 5) (fun u => u.sram.scrubWord = 6 && u.sram.bad = [1288] && u.obj 0x58000E = 1 && u.obj 0x58000A = 1288) &&
     gives (.scrubStep [(1288, false)]) (s 5) (fun u => u.sram.bad = [] && u.obj 0x58000D = 1) &&
     gives (.scrubStep []) (s 163839) (fun u => u.sram.scrubWord = 0 && u.obj 0x58000E = 0) &&
     gives (.scrubStep []) ((s 5).setObj 0x580008 1) (fun u => u.sram.scrubWord = 5)) = true := by decide +kernel

theorem test_memory_access :
    (let s := (stacked []).setNum 0x40 8 0x1122334455667788
     gives (.memoryAccess .firmware false 0x42 2 0 0 .clean) s (fun u => u.slave.resp = .busData 0x5566) &&
     gives (.memoryAccess .firmware false 0x41 2 0 0 .clean) s (fun u => u.slave.resp = .decodeError) &&
     gives (.memoryAccess .firmware false 0x40 4 0 0 .double) s (fun u => u.slave.resp = .errorResponse && u.sram.bad = [0x40] && u.obj 0x58000E = 1 && u.obj 0x58000A = 0x40) &&
     gives (.memoryAccess .window true 0x44 4 0xAABBCCDD 1 .clean) s (fun u => u.num 0x40 8 = 0xAABBCCDD55667788 && u.slave.resp = .busDone && u.obj 0x58000F = 1) &&
     gives (.memoryAccess .window true 0x44 4 0xAABBCCDD 2 .clean) s (fun u => u.num 0x40 8 = 0x1122334455667788 && u.slave.resp = .errorResponse && u.obj 0x58000B = 0x44) &&
     gives (.memoryAccess .firmware true 0x44 4 0 1 .clean) s (fun u => u.num 0x40 8 = 0x1122334455667788 && u.slave.resp = .busDone && u.bit 0x580009 2) &&
     gives (.memoryAccess .firmware true 0x027FFFF8 8 0xFFFFFFFFFFFFFFFF 0 .clean) s (fun u => u.byte 0x027FFFFF = 0xFF#8 && u.slave.resp = .busDone) &&
     gives (.memoryAccess .firmware true 0x02800000 8 1 0 .clean) s (fun u => u.slave.resp = .decodeError)) = true := by decide +kernel

/-- Stack accesses: a write and a read, one to a channel that is not ACTIVE, and a tables write that a job protects (R275, R491). -/
theorem test_memory_access_stack :
    (gives (.memoryAccess .firmware true 0x1700000008 4 0x12345678 0 .clean) (stacked []) (fun u => u.num 0x1700000008 4 = 0x12345678 && u.slave.resp = .busDone) &&
    gives (.memoryAccess .firmware false 0x1700000008 4 0 0 .clean) ((stacked []).setNum 0x1700000008 4 99) (fun u => u.slave.resp = .busData 99) &&
    (let w := (stacked [(0x200018, 0x1000000000)]).modAnalyser fun x => { x with worked := true }
     w.openByte 0x1006900000 && !w.openByte 0x10068FFFFF && (w.memRead 0x1006900000 4).2.draws = w.draws + 4) &&
    gives (.memoryAccess .firmware false 0x1700000400 4 0 0 .clean) ((ready []).setObj 0x500420 0) (fun u => u.slave.resp = .errorResponse) &&
    gives (.memoryAccess .firmware true 0x1003000000 4 1 0 .clean) (stacked [(0x200018, 0x1000000000), (0x5F1006, 3)]) (fun u => u.mem = [] && u.slave.resp = .busDone)) = true := by
  decide +kernel

/-- A descriptor: source and destination base, stride, length and lines, CTRL and NEXT (R541). -/
def descriptor (src dst ctrl next ss ds sl sn dl dn : Nat) : Bytes :=
  leBytes 4 src ++ leBytes 4 dst ++ [0#8, 0#8] ++ leBytes 2 ctrl ++ leBytes 4 next ++ leBytes 4 ss ++ leBytes 4 ds ++ leBytes 2 sl ++
    leBytes 2 sn ++ leBytes 2 dl ++ leBytes 2 dn

/-- Split of two planes of 2 bytes, as in the worked example: elements 01, 02, 03, 04 into lines 0x2000 and 0x2010 (R544). -/
def split : Bytes := descriptor 0x1000 0x2000 0x004F 0 4 16 4 1 2 2

/-- Channel 3 with a descriptor at 0x4000 in progress or to be fetched. -/
def channel (state : Nat) (d : Bytes) (taken : Bool) : State :=
  (((stacked [(0x580313, state), (0x580310, 0x4000), (0x580315, 0x4000)]).setBytes 0x4000 d).setBytes 0x1000 [1#8, 2#8, 3#8, 4#8]).modDma 3 fun _ =>
    { fetch := if taken then none else some 0x4000, desc := if taken then some d else none, ahead := none }

theorem test_dma_start :
    (gives (.dmaStart .reg 3 0) (channel 0 split false) (fun u => u.obj 0x580313 = 1 && (u.dma.get 3).fetch = some 0x4000) &&
    gives (.dmaStart .reg 3 0) (channel 1 split true) (fun u => u.bit 0x580317 4 && (u.dma.get 3).desc = some split) &&
    gives (.dmaStart .reg 3 0) ((channel 0 split false).setObj 0x580001 1) (fun u => u.bit 0x580317 4 && u.obj 0x580313 = 0)) = true := by decide +kernel

/-- Reserved SHUFFLE 4, lengths that differ, NEXT not aligned, and lines beyond SRAM are refused (R545). -/
theorem test_descriptor_fetch :
    (let bad := fun (d : Bytes) => gives (.descriptorFetch 3 ⟨[], 9⟩) (channel 1 d false) (fun u => u.obj 0x580313 = 0 && u.obj 0x580314 = 3 && u.obj 0x580323 = 1 && u.bit 0x580317 2)
     gives (.descriptorFetch 3 ⟨[], 9⟩) (channel 1 split false) (fun u => (u.dma.get 3).desc = some split && u.obj 0x580313 = 1) &&
     gives (.descriptorFetch 3 ⟨[(0x4008, true)], 9⟩) (channel 1 split false) (fun u => (u.dma.get 3).desc = none && u.sram.bad = [0x4008]) &&
     gives (.descriptorFetch 3 ⟨[], 9⟩) ((channel 1 split true).modDma 3 fun x => { x with fetch := some 0x4000 }) (fun u => (u.dma.get 3).ahead = some split) &&
     gives (.descriptorFetch 3 ⟨[], 9⟩) ((channel 1 split true).modDma 3 fun x => { x with fetch := some 0x4000, ahead := some [] }) (fun u => (u.dma.get 3).ahead = some []) &&
     bad (descriptor 0x1000 0x2000 0x0021 0 4 16 4 1 2 2) && bad (descriptor 0x1000 0x2000 1 0 4 16 4 1 3 2) &&
     bad (descriptor 0x1000 0x2000 0 0x4010 4 16 4 1 2 2) && bad (descriptor 0x1000 0x027FFFFF 1 0 4 16 4 1 4 1) && bad (descriptor 0x1000 0x2000 1 0 4 16 0 1 2 2)) = true := by
  decide +kernel

theorem test_descriptor_complete :
    (gives (.descriptorComplete 3 0 [] 9) (channel 1 split true) (fun u => u.num 0x2000 2 = 0x0301 && u.num 0x2010 2 = 0x0402 && u.obj 0x580313 = 0 && u.obj 0x580314 = 1 &&
      u.num 0x4018 8 = 0x0000000100000000 && u.bit 0x580317 0 && u.obj 0x580321 = 1) &&
    gives (.descriptorComplete 3 0 [] 9) (channel 1 (descriptor 0x1000 0x2000 0x0051 0 2 4 2 2 4 1) true) (fun u => u.num 0x2000 4 = 0x04020301) &&
    gives (.descriptorComplete 3 0 [] 9) (channel 1 (descriptor 0x1000 0x2000 1 0 4 2 4 1 2 2) true) (fun u => u.num 0x2000 4 = 0x04030201)) = true := by decide +kernel

/-- Two corrected words and one write repeated after a collision are counted, and the descriptor completes (R534, R535, R536). -/
theorem test_descriptor_retry :
    gives (.descriptorComplete 3 2 [0x2000] 9) (channel 1 split true) (fun u => u.obj 0x58000D = 2 && u.obj 0x58000F = 1 &&
      u.obj 0x58000B = 0x2000 && u.obj 0x580325 = 1 && u.obj 0x580314 = 1) = true := by decide +kernel

/-- Bit-plane transpose of 01 02 03 04 05 06 07 08: bit 0 of the bytes is 0x55 (R544). -/
theorem test_dma_transpose :
    gives (.descriptorComplete 3 0 [] 9) (((channel 1 (descriptor 0x1000 0x2000 0x0019 0 8 1 8 1 1 8) true)).setNum 0x1000 8 0x0807060504030201)
      (fun u => u.num 0x2000 8 = 0x0000000080786655) = true := by decide +kernel

theorem test_dma_abort_and_bus_error :
    (gives (.dmaAbort .reg 3 ⟨3, 0, []⟩ 9) (channel 1 split true) (fun u => u.obj 0x580313 = 0 && u.obj 0x580314 = 2 && u.obj 0x580316 = 1 && u.num 0x2000 2 = 0x0301 &&
      u.num 0x2010 2 = 2 && u.num 0x4018 8 = 0x0000000200000001 && u.bit 0x580317 1) &&
    gives (.dmaAbort .reg 3 ⟨3, 0, []⟩ 9) (channel 0 split false) (fun u => u.obj 0x580314 = 0 && u.obj 0x580322 = 0) &&
    gives (.dmaBusError 3 true 0x1700000000 3 ⟨[], 0, []⟩ 9) ((channel 1 split true).setObj 0x580513 2) (fun u => u.obj 0x580001 = 0x37 && u.obj 0x580003 = 0x1700000000 &&
      u.obj 0x580313 = 0 && u.obj 0x580514 = 4 && u.obj 0x580324 = 1 && u.obj 0x580316 = 4 && u.num 0x4018 8 = 0x0002000200010004) &&
    gives (.dmaBusError 3 true 0x1700000000 3 ⟨[], 0, []⟩ 9) ((channel 1 split true).modClocks fun k => { k with ctl := .clockHold }) (fun u => u.obj 0x580313 = 1) &&
    gives (.dmaAbort .reg 3 ⟨3, 2, [0x2000]⟩ 9) (channel 1 split true) (fun u => u.obj 0x58000D = 2 && u.obj 0x58000F = 1 && u.obj 0x580325 = 1) &&
    gives (.busErrorClear .reg) (put [(0x580001, 0x37)]) (fun u => u.obj 0x580001 = 0x36)) = true := by decide +kernel

/-- The slave in an AL state. -/
def inAl (a : AlState) (s : State) : State := s.modSlave fun sl => { sl with al := a }

/-- The slave after start-up has completed. -/
def started (s : State) : State := s.modSlave fun sl => { sl with ready := true }

/-- Default mapping of R567: 6 bytes of outputs and 40 of inputs. -/
theorem test_al_state_request :
    (gives (.alStateRequest .preop 128 128 0 0 0 0 false 0) (started State.reset) (fun u => u.slave.al = .preop && u.slave.resp = .done) &&
    gives (.alStateRequest .preop 31 128 0 0 0 0 false 0) (started State.reset) (fun u => u.slave.al = .init && u.slave.alStatus = 0x16) &&
    gives (.alStateRequest .preop 128 128 0 0 0 0 false 0) State.reset (fun u => u.slave.al = .init) &&
    gives (.alStateRequest .boot 0 0 0 0 0 0 true 0) (started State.reset) (fun u => u.slave.al = .boot) &&
    gives (.alStateRequest .safeop 0 0 6 40 0 0 false 0) (inAl .preop State.reset) (fun u => u.slave.al = .safeop) &&
    gives (.alStateRequest .safeop 0 0 5 40 0 0 false 0) (inAl .preop State.reset) (fun u => u.slave.alStatus = 0x1D) &&
    gives (.alStateRequest .safeop 0 0 6 41 0 0 false 0) (inAl .preop State.reset) (fun u => u.slave.alStatus = 0x1E) &&
    gives (.alStateRequest .safeop 0 0 6 40 250000 0 false 0) (inAl .preop (put [(0x1C3201, 2)])) (fun u => u.slave.alStatus = 0x30) &&
    gives (.alStateRequest .safeop 0 0 6 40 1000000 0 false 0) (inAl .preop (put [(0x1C3201, 2)])) (fun u => u.slave.al = .safeop) &&
    gives (.alStateRequest .op 0 0 0 0 0 6 false 0) (inAl .safeop State.reset) (fun u => u.slave.al = .op) &&
    gives (.alStateRequest .preop 0 0 0 0 0 6 false 0) (inAl .boot State.reset) (fun u => u.slave.resp = .alRefused 0x11)) = true := by decide +kernel

theorem test_al_leaves_op :
    (gives (.alStateRequest .safeop 0 0 0 0 0 0 false 0) (op [(0x5F1006, 3)]) (fun u => u.engineState = 6 && u.obj 0x5F1008 = 102 && u.bit 0x200023 0) &&
    gives (.alStateRequest .init 0 0 0 0 0 0 false 0) (op [(0x5F1006, 1)]) (fun u => u.engineState = 0 && u.slave.al = .init) &&
    gives (.watchdog 0) (op [(0x5F1006, 5), (0x5F1002, 77)]) (fun u => u.slave.al = .safeop && u.slave.alStatus = 0x1B && u.obj 0x200023 = 3 && u.obj 0x5F1002 = 77)) = true := by
  decide +kernel

theorem test_mailbox_and_sii :
    (gives (.mailboxUnsupported .coe) (inAl .boot State.reset) (fun u => u.slave.resp = .mailboxError) &&
    gives (.mailboxUnsupported .eoe) (inAl .preop State.reset) (fun u => u.slave.resp = .mailboxError) &&
    gives (.siiWrite 8 0x1234) (inAl .preop State.reset) (fun u => u.mram.sii = putKey State.reset.mram.sii 8 0x1234) &&
    gives (.siiWrite 8 0x1234) (inAl .safeop State.reset) (fun u => u.mram.sii = State.reset.mram.sii)) = true := by decide +kernel

/-- Outputs: command 4, sequence 0x13, argument 0x01020304 (the worked example's step 6: START outside ARMED). -/
def outputs : Bytes := [4#8, 0x13#8, 4#8, 3#8, 2#8, 1#8]

/-- OP with the sequence of the apply point before. -/
def handshake (q : Option Nat) (l : List (Key × Nat)) : State := (op l).modSlave fun sl => { sl with cmdRef := q }

theorem test_process_data_output :
    (gives (.processDataOutput outputs 0) (handshake (some 0x12) []) (fun u => u.obj 0x5F1002 = 0x01020304 && u.obj 0x5F1003 = 0x13 && u.obj 0x5F1004 = 3 &&
      u.obj 0x5F1005 = 0x13 && u.bit 0x5F100C 2 && u.obj 0x5F1021 = 1) &&
    gives (.processDataOutput outputs 0) (handshake none []) (fun u => u.obj 0x5F1004 = 0 && u.slave.cmdRef = some 0x13) &&
    gives (.processDataOutput outputs 0) (handshake (some 0x13) []) (fun u => u.obj 0x5F1004 = 0 && u.obj 0x5F1002 = 0x01020304) &&
    gives (.processDataOutput (outputs.drop 1) 0) (handshake none []) (fun u => u.obj 0x5F1002 = 0xFFFFFFFF) &&
    gives (.processDataOutput outputs 0) (handshake (some 0x12) [(0x1C3201, 2)]) (fun u => u.slave.rxWait = some outputs && u.obj 0x5F1003 = 0)) = true := by decide +kernel

/-- Two-byte TxPDO: engine state and status. -/
def small : List (Key × Nat) := [(0x1A0000, 2), (0x1A0001, 0x5F100608), (0x1A0002, 0x5F100408), (0x5F1006, 3), (0x5F1004, 1)]

theorem test_input_sample_and_sync0 :
    (gives (.inputSample 0) (op small) (fun u => u.slave.txSample = [[3#8, 1#8]]) &&
    gives (.inputSample 0) (op ((0x1C3201, 2) :: small)) (fun u => u.slave.txSample = []) &&
    gives (.sync0Event 0) (op ((0x1C3201, 2) :: small)) (fun u => u.slave.txSample = [[3#8, 1#8]]) &&
    gives (.sync0Event 0) ((handshake (some 0x12) [(0x1C3201, 2)]).modSlave fun sl => { sl with rxWait := some outputs })
      (fun u => u.slave.rxWait = none && u.obj 0x5F1005 = 0x13 && u.obj 0x5F100B = 4 && u.obj 0x5F1002 = 0x01020304)) = true := by decide +kernel

/-- With distributed clocks on. -/
def clocked (state : Nat) : State := (op [(0x200021, state)]).modClocks fun c => { c with dcOn := true, ctl := .run }

theorem test_dc_state :
    (gives .dcActivation (op []) (fun u => u.obj 0x200021 = 1 && u.clocks.dcOn) &&
    gives (.dcSynchronised [(0, 5), (9, -100)] 50000000) (clocked 1) (fun u => u.obj 0x200021 = 2 && u.obj 0x200022 = 0xFFFFFF9C) &&
    gives (.dcSynchronised [(0, 101), (9, 5)] 50000000) (clocked 1) (fun u => u.obj 0x200021 = 1) &&
    gives (.dcSynchronised [(1, 5)] 50000000) (clocked 1) (fun u => u.obj 0x200021 = 1) &&
    gives (.dcUnsync (-101) 0) (clocked 2) (fun u => u.obj 0x200021 = 1 && u.bit 0x200023 2) &&
    gives (.dcUnsync 100 0) (clocked 2) (fun u => u.obj 0x200021 = 2)) = true := by decide +kernel

theorem test_emergency_send :
    gives .emergencySend ((op []).modSlave fun sl => { sl with emcy := [[1#8], [2#8]] })
      (fun u => u.slave.emcyOut = [[1#8]] && u.slave.emcy = [[2#8]] && u.obj 0x5F2031 = 1) = true := by decide +kernel

/-- OP with all channels in service. -/
def engineAt (e : Nat) (l : List (Key × Nat)) : State := running (op ([(0x5F1006, e), (0x5E0002, 2), (0x200003, 255)] ++ l))

theorem test_engine_enable_disable :
    (gives (.enable .reg 0) (engineAt 0 []) (fun u => u.engineState = 1 && u.obj 0x5F1004 = 1 && u.obj 0x5F1020 = 1) &&
    gives (.enable .sdo 0) (inAl .safeop (engineAt 0 [])) (fun u => u.engineState = 0 && u.obj 0x5F1004 = 5 && u.slave.resp = .abort 0x08000022) &&
    gives (.enable .sdo 0) (engineAt 0 [(0x5E0002, 4)]) (fun u => u.obj 0x5F1004 = 6 && u.slave.resp = .abort 0x08000020) &&
    gives (.disable .sdo 0) (engineAt 1 []) (fun u => u.engineState = 0 && u.slave.resp = .done) &&
    gives (.disable .pdo 0) (engineAt 2 [(0x5F1003, 9)]) (fun u => u.engineState = 2 && u.obj 0x5F1004 = 3 && u.obj 0x5F1005 = 9)) = true := by decide +kernel

/-- A layout that ARM takes: regions apart, no column enabled (R34). -/
def layout : List (Key × Nat) :=
  [(0x200010, 0x1000000000), (0x200011, 0x10000000), (0x200012, 0x1010000000), (0x200013, 0x100000), (0x200014, 0x1020000000), (0x200015, 0x8000000),
    (0x200016, 0x1030000000), (0x200017, 0x100000), (0x200018, 0x1040000000), (0x200019, 0x1060000000), (0x520005, 0x8000)]

theorem test_engine_arm :
    (gives (.arm .sdo [] 0) (engineAt 1 [(0x520001, 2)]) (fun u => u.obj 0x5F1004 = 19 && u.slave.resp = .abort 0x08000020 && u.engineState = 1) &&
    gives (.arm .sdo [] 0) (engineAt 1 [(0x200010, 0)]) (fun u => u.obj 0x5F1004 = 9) &&
    gives (.arm .sdo [] 0) (engineAt 1 layout) (fun u => u.obj 0x5F1004 = 11 && u.engineState = 1) &&
    gives (.arm .sdo [] 0) (engineAt 1 ((0x250010, 5) :: layout)) (fun u => u.obj 0x5F1004 = 1 && u.engineState = 2 && u.obj 0x5F1007 = 1)) = true := by decide +kernel

theorem test_engine_start_drain :
    (gives (.start .reg 0) (engineAt 2 [(0x22000D, 3), (0x22000E, 500)]) (fun u => u.engineState = 3 && u.obj 0x220018 = 500 && u.bit 0x220015 5 && u.obj 0x5F1009 = 0xFFFFFFFF) &&
    gives (.start .reg 0) (engineAt 2 [(0x22000D, 2)]) (fun u => u.position.await = some 2 && !u.bit 0x220015 5) &&
    gives (.start .sdo 0) (engineAt 2 [(0x5F1002, 0x80000000)]) (fun u => u.obj 0x5F1004 = 4 && u.slave.resp = .abort 0x06090030 && u.engineState = 2) &&
    gives (.start .sdo 0) (engineAt 3 []) (fun u => u.obj 0x5F1004 = 3) &&
    gives (.drain .sdo 0) (engineAt 3 [(0x5F1002, 1000)]) (fun u => u.obj 0x5F1009 = 1000 && u.obj 0x5F1004 = 1) &&
    gives (.drain .sdo 0) (engineAt 3 []) (fun u => u.obj 0x5F1004 = 4 && u.engineState = 3) &&
    gives (.drain .sdo 0) (engineAt 2 []) (fun u => u.obj 0x5F1004 = 3)) = true := by decide +kernel

theorem test_engine_hold_resume_stop :
    (gives (.hold .reg 0) (engineAt 4 []) (fun u => u.engineState = 5 && u.engine.heldFrom = 4 && u.bit 0x5F100C 4) &&
    gives (.hold .reg 0) (engineAt 1 []) (fun u => u.obj 0x5F1004 = 3) &&
    gives (.resume .reg 0) ((engineAt 5 []).modEngine fun e => { e with heldFrom := 3 }) (fun u => u.engineState = 3) &&
    gives (.resume .reg 0) ((engineAt 5 []).modPort 2 fun p => { p with windup := some { data := 6, shots := 3, due := 0, ending := 2 } }) (fun u => u.engineState = 5 && u.obj 0x5F1004 = 8) &&
    gives (.stop .reg 0) (engineAt 3 []) (fun u => u.engineState = 1 && u.obj 0x5F1022 = 0 && !u.engine.inJob)) = true := by decide +kernel

theorem test_engine_clear_fault :
    (gives (.clearFault .sdo 0) (engineAt 6 [(0x5F1008, 102)]) (fun u => u.engineState = 0 && u.obj 0x5F1008 = 0xFFFF) &&
    gives (.clearFault .sdo 0) ((engineAt 6 [(0x5F1008, 102)]).modClocks fun c => { c with safeLow := true }) (fun u => u.engineState = 6 && u.obj 0x5F1004 = 7 && u.obj 0x5F1008 = 102)) = true := by decide +kernel

theorem test_engine_commit :
    (gives (.commit .sdo 0 0) (engineAt 0 []) (fun u => u.obj 0x5F1004 = 3 && u.obj 0x230013 = 5) &&
    gives (.commit .sdo 0 0) (engineAt 3 [(0x230012, 1)]) (fun u => u.obj 0x5F1004 = 20) &&
    reachesPdo .sdo (engineAt 1 []) 0x5F1001 && (engineAt 1 []).obj 0x230012 = 0 && (engineAt 1 []).obj 0x230011 = 0) = true := by decide +kernel

theorem test_sdo_write :
    (gives (.sdoWrite 0x2000 0x20 [0xE8#8, 3#8] false) (op []) (fun u => u.slave.resp = .done && u.obj 0x200020 = 1000) &&
    gives (.sdoWrite 0x2000 0x20 [9#8, 0#8] false) (op []) (fun u => u.slave.resp = .abort 0x06090030 && u.obj 0x200020 = 100) &&
    gives (.sdoWrite 0x2000 0x20 [9#8] false) (op []) (fun u => u.slave.resp = .abort 0x06070010) &&
    gives (.sdoWrite 0x2000 0x21 [9#8] false) (op []) (fun u => u.slave.resp = .abort 0x06010002) &&
    gives (.sdoWrite 0x2000 0x99 [9#8] false) (op []) (fun u => u.slave.resp = .abort 0x06090011) &&
    gives (.sdoWrite 0x1003 1 [9#8] false) (op []) (fun u => u.slave.resp = .abort 0x06020000) &&
    gives (.sdoWrite 0x2000 0x20 [100#8, 0#8] true) (op []) (fun u => u.slave.resp = .abort 0x06010000) &&
    gives (.sdoWrite 0x2000 0x20 [100#8, 0#8] false) (inAl .boot (op [])) (fun u => u.slave.resp = .mailboxError)) = true := by decide +kernel

/-- A segmented write of an object has brought its first byte. -/
def halfway (k : Key) : State := (op []).modSlave fun sl => { sl with seg := some { key := k, data := [0xE8#8] } }

theorem test_sdo_segment :
    (gives (.sdoSegment 0x2000 0x20 [0xE8#8] .first) (op []) (fun u => u.slave.resp = .done && u.obj 0x200020 = 100 && u.slave.seg.isSome) &&
    gives (.sdoSegment 0x2000 0x20 [3#8] .last) (halfway 0x200020) (fun u => u.obj 0x200020 = 1000 && u.slave.seg = none) &&
    gives (.sdoSegment 0x2000 0x20 [3#8] .next) (halfway 0x200020) (fun u => u.obj 0x200020 = 100 && (u.slave.seg.map fun g => g.data) = some [0xE8#8, 3#8]) &&
    gives (.sdoSegment 0x2000 0x20 [9#8] .first) (halfway 0x200020) (fun u => (u.slave.seg.map fun g => g.data) = some [9#8]) &&
    gives (.sdoSegment 0x2000 0x20 [] .abort) (halfway 0x200020) (fun u => u.slave.seg = none && u.obj 0x200020 = 100) &&
    gives (.sdoSegment 0x2000 0x20 [3#8] .last) (halfway 0x200021) (fun u => u.slave.seg.isSome && u.obj 0x200020 = 100)) = true := by
  decide +kernel

theorem test_store_and_load :
    (gives (.restoreDefaultParameters 0x64616F6C) (op []) (fun u => u.mram.cfgErase && u.slave.resp = .done) &&
    gives (.restoreDefaultParameters 0x64616F6D) (op []) (fun u => !u.mram.cfgErase && u.slave.resp = .abort 0x08000020) &&
    gives (.storeParameters 0x65766173) (op [(0x5F1006, 2)]) (fun u => u.mram.cfg.isNone && u.slave.resp = .abort 0x08000022) &&
    gives (.storeParameters 0) (op []) (fun u => u.mram.cfg.isNone && u.slave.resp = .abort 0x08000020)) = true := by decide +kernel

/-- What a save holds of a press set to a DC sync window of 1,000 ns. -/
theorem test_store_holds :
    (match storeOp 0x65766173 (op [(0x200020, 1000), (0x300001, 1)]) with
      | (a, u) => a.isNone && match u.mram.cfg with
        | some c => findKey c 0x200020 = some [0xE8#8, 3#8] && findKey c 0x300001 = none && findKey c 0x1C3202 = some [0x40#8, 0x42#8, 0x0F#8, 0#8]
        | none => false) = true := by decide +kernel

/-- Start-up has passed its self-test, with a stored configuration. -/
def restoring (c : Option (List (Nat × Bytes))) (e : Nat) : State :=
  (put [(0x5E0002, e), (0x5F1006, 6)]).modMram fun mr => { mr with cfg := c }

theorem test_config_restore :
    (gives (.configRestore ⟨[.single, .double], false⟩) (restoring (some [(0x200020, [0xE8#8, 3#8])]) 2) (fun u => u.obj 0x200020 = 100 && u.obj 0x20000A = 3 && u.obj 0x5E0054 = 1 && u.obj 0x5E0055 = 1 && u.bit 0x5E0004 3 && u.bit 0x5E0011 13) &&
    gives (.configRestore cleanRead) (restoring (some [(0x200020, [0xE8#8, 3#8])]) 4) (fun u => u.obj 0x200020 = 100 && u.obj 0x20000A = 4 && u.slave.ready) &&
    gives (.configRestore cleanRead) (restoring none 2) (fun u => u.obj 0x20000A = 0 && u.slave.ready) &&
    gives (.configRestore cleanRead) (restoring none 0) (fun u => !u.slave.ready)) = true := by decide +kernel

/-- The writes of a restore are those of DISABLED, even where the engine is in FAULT (R575). -/
theorem test_restore_all :
    (let u := (restoring none 2).restoreAll [(0x200020, [0xE8#8, 3#8]), (0x220003, [5#8])]
     let v := (restoring none 2).restoreAll [(0x200020, [0#8, 0#8])]
     u.obj 0x200020 = 1000 && u.obj 0x20000A = 1 && u.slave.al = .init && u.engineState = 6 &&
     v.obj 0x200020 = 100 && v.obj 0x20000A = 2 && v.obj 0x20000B = 1 && v.bit 0x200023 4) = true := by decide +kernel

/-- The window at an SRAM address, with four bytes there. -/
def viewing (a w : Nat) (l : List (Key × Nat)) : State := (op ([(0x5F0001, a), (0x5F0002, w)] ++ l)).setNum 0x1000 4 0x44332211

theorem test_window_access :
    (gives (.windowAccess false 0 0 .clean) (viewing 0x1000 4 [(0x5F0004, 1)]) (fun u => u.slave.resp = .data [0x11#8, 0x22#8, 0x33#8, 0x44#8, 0#8, 0#8, 0#8, 0#8] && u.obj 0x5F0001 = 0x1004) &&
    gives (.windowAccess true 0x1234 0 .clean) (viewing 0x1002 2 [(0x5F0007, 1)]) (fun u => u.slave.resp = .done && u.num 0x1000 4 = 0x12342211 && u.obj 0x5F0001 = 0x1002) &&
    gives (.windowAccess true 0x1234 0 .clean) (viewing 0x1002 2 []) (fun u => u.slave.resp = .abort 0x08000020 && u.obj 0x5F0008 = 4) &&
    gives (.windowAccess true 0x1234 0 .clean) (viewing 0x1001 2 []) (fun u => u.slave.resp = .abort 0x06090030 && u.obj 0x5F0008 = 2) &&
    gives (.windowAccess false 0 0 .clean) (viewing 0x0800000000 4 []) (fun u => u.slave.resp = .abort 0x06060000 && u.obj 0x5F0008 = 1) &&
    gives (.windowAccess false 0 0 .clean) (viewing (2 ^ 40) 4 []) (fun u => u.slave.resp = .abort 0x06090030)) = true := by decide +kernel

theorem test_window_block :
    (gives (.windowBlockAccess false ⟨[], []⟩) (viewing 0x1000 2 [(0x5F0006, 4)]) (fun u => u.slave.resp = .data [0x11#8, 0x22#8, 0x33#8, 0x44#8] && u.obj 0x5F0009 = 4) &&
    gives (.windowBlockAccess false ⟨[], []⟩) (viewing 0x1000 4 [(0x5F0006, 6)]) (fun u => u.slave.resp = .abort 0x06090030 && u.obj 0x5F0008 = 2) &&
    gives (.windowBlockAccess true ⟨[1#8], []⟩) (viewing 0x1000 1 [(0x5F0006, 4)]) (fun u => u.slave.resp = .abort 0x06070010) &&
    gives (.windowBlockAccess true ⟨[1#8, 2#8], []⟩) (viewing 0x1000 1 [(0x5F0006, 2)]) (fun u => u.slave.resp = .abort 0x08000020 && u.obj 0x5F0008 = 4) &&
    gives (.windowBlockAccess true ⟨[1#8, 2#8], [(1, .clean), (0, .single)]⟩) (viewing 0x1000 1 [(0x5F0006, 2), (0x5F0007, 1)]) (fun u => u.slave.resp = .done &&
      u.num 0x1000 2 = 0x0201 && u.obj 0x58000F = 1 && u.obj 0x58000D = 1) &&
    gives (.windowBlockAccess false ⟨[], [(0, .clean), (0, .double)]⟩) (viewing 0x1000 2 [(0x5F0006, 4)]) (fun u => u.slave.resp = .abort 0x06060000 &&
      u.obj 0x5F0009 = 2 && u.obj 0x58000E = 1)) = true := by decide +kernel

theorem test_foe_files :
    (gives (.foeFwWrite [1#8]) (op []) (fun u => u.slave.resp = .foeError 0x8008) &&
    gives (.foeHdrRead 1) (inAl .boot (op [])) (fun u => u.slave.resp = .foeError 0x8009) &&
    gives (.foeHdrRead 1) (inAl .preop (withHead [])) (fun u => u.slave.resp = .data validHead) &&
    gives (.foeHdrWrite 1 []) (inAl .preop (withHead [])) (fun u => u.slave.resp = .foeError 0x8004) &&
    gives (.foeHdrWrite 1 []) (inAl .preop (withHead [(0x310101, 1)])) (fun u => u.slave.resp = .foeError 0x8002) &&
    gives .foeLogRead ((op []).modMram fun mr => { mr with log := [[7#8, 0#8, 0#8, 0#8, 9#8]] }) (fun u => u.slave.resp =
      .data [0x42#8, 0x4C#8, 0x4F#8, 0x47#8, 1#8, 0#8, 0#8, 0#8, 7#8, 0#8, 0#8, 0#8, 0#8, 0#8, 0#8, 0#8, 7#8, 0#8, 0#8, 0#8, 9#8])) = true := by decide +kernel

/-- Complete access to an index that is not listed ends as any other access to it (R40). -/
theorem test_complete_access_missing :
    gives (.sdoWrite 0x6000 0x20 [100#8] true) (op []) (fun u => u.slave.resp = .abort 0x06020000) = true := by decide +kernel

/-- A state whose clock controller is in state `c`. -/
def clockAt (c : Ctl) (l : List (Key × Nat)) : State := (put l).modClocks fun k => { k with ctl := c }

theorem test_resets :
    (gives (.powerOn 10 true ⟨true, cleanRead, cleanRead⟩) (op [(0x5F1006, 3)]) (fun u => u.obj 0x21000D = 1 && u.obj 0x210002 = 10 && u.obj 0x210001 = 16 && u.bit 0x210004 12 &&
      u.engineState = 0 && u.slave.al = .init && u.clocks.ctl = .rcStart) &&
    gives (.resetPin 0 false true) (op []) (fun u => u.obj 0x21000D = 2 && u.engineState = 6 && u.obj 0x5F1008 = 128 && u.obj 0x210001 = 1 && !u.bit 0x210004 12) &&
    gives (.softwareReset .reg 0x74657372 1) (op []) (fun u => u.obj 0x21000D = 4 && u.slave.al = .init) &&
    gives (.softwareReset .sdo 0x74657372 1) (op [(0x5F1006, 1)]) (fun u => u.slave.resp = .abort 0x08000022 && u.slave.al = .op) &&
    gives (.softwareReset .sdo 1 1) (op []) (fun u => u.slave.resp = .abort 0x06090030)) = true := by decide +kernel

/-- At power-on the valid copy of the totals with the higher sequence number is used (R638, R651). -/
theorem test_lifetime_copies :
    (let s := State.reset.modMram fun m => { m with totals := [(0x220050, 15)], totalsSeq := 4, totalsOld := [(0x220050, 9)] }
     gives (.powerOn 10 true ⟨true, ⟨[.single], false⟩, cleanRead⟩) s (fun u => u.mram.totals = [(0x220050, 15)] && u.obj 0x5E0054 = 1) &&
     gives (.powerOn 10 true ⟨true, ⟨[.double], false⟩, cleanRead⟩) s (fun u => u.mram.totals = [(0x220050, 9)] && u.obj 0x5E0055 = 1)) = true := by
  decide +kernel

theorem test_brown_out :
    (gives .brownOut ((op []).setNum 0x1000 4 7) (fun u => u.obj 0x21000D = 8 && u.clocks.ctl = .reset && u.num 0x1000 4 = 0) &&
    gives (.railsBackInRange 3) ((clockAt .reset []).modClocks fun k => { k with brownOut := true }) (fun u => u.clocks.ctl = .rcStart && u.obj 0x210001 = 64) &&
    gives (.railsBackInRange 3) (clockAt .run []) (fun u => u.clocks.ctl = .run)) = true := by decide +kernel

theorem test_clock_states :
    (gives .rcReady (clockAt .rcStart []) (fun u => u.clocks.ctl = .refWait && u.clocks.rcReady) &&
    gives .rcReady (clockAt .holdReset []) (fun u => u.clocks.ctl = .clockHold && u.engineState = 6 && u.obj 0x200021 = 1) &&
    gives (.refReady 16000) (clockAt .refWait [(0x210001, 16)]) (fun u => u.clocks.ctl = .pllLock) &&
    gives (.refReady 15999) (clockAt .refWait [(0x210001, 16)]) (fun u => u.clocks.ctl = .refWait) &&
    gives (.refWindowOutOfRange 21) ((clockAt .clockHold []).modClocks fun k => { k with refReady := true }) (fun u => !u.clocks.refReady) &&
    gives (.refWindowOutOfRange 28) ((clockAt .clockHold []).modClocks fun k => { k with refReady := true }) (fun u => u.clocks.refReady) &&
    gives .pllFail (clockAt .pllLock []) (fun u => u.clocks.ctl = .refWait && u.bit 0x210004 2)) = true := by decide +kernel

/-- Slot B is next, and does not check; slot A does (R628). -/
theorem test_pll_locked :
    (gives (.pllLocked ⟨cleanRead, ⟨[.double], false⟩, true⟩) ((clockAt .pllLock [(0x580008, 1)]).modMram fun m => { m with slotA := some [], slotB := some [], slotNext := 1 })
      (fun u => u.clocks.ctl = .run && !u.clocks.startPending && u.clocks.pll = 15 && u.obj 0x200007 = 0) &&
    gives (.pllLocked ⟨cleanRead, cleanRead, true⟩) ((clockAt .pllLock [(0x580008, 1)]).modMram fun m => { m with slotA := some [], slotB := some [], slotNext := 1 })
      (fun u => u.obj 0x200007 = 1) &&
    gives (.pllLocked ⟨cleanRead, cleanRead, true⟩) (clockAt .pllLock []) (fun u => u.clocks.ctl = .run && u.clocks.startPending) &&
    gives (.pllLocked ⟨cleanRead, cleanRead, true⟩) ((clockAt .pllLock [(0x580008, 1)]).modClocks fun k => { k with straps := 4 }) (fun u => u.obj 0x200007 = 2)) = true := by decide +kernel

theorem test_ref_loss :
    (gives (.refLoss (.windows [25, 29, 0]) 5) ((clockAt .run [(0x5F1006, 3), (0x310101, 2)]).modPort 1 fun p => { p with cur := some (cycle 1 []) })
      (fun u => u.clocks.ctl = .clockHold && u.engineState = 6 && u.obj 0x5F1008 = 129 && u.obj 0x200021 = 1 && (u.port.get 1).cur.isNone && u.stack.sr = .entering && u.obj 0x210020 = 1) &&
    gives (.refLoss (.noEdge 1000) 5) (clockAt .rcStart []) (fun u => u.clocks.ctl = .holdReset) &&
    gives (.refLoss (.noEdge 999) 5) (clockAt .rcStart []) (fun u => u.clocks.ctl = .rcStart) &&
    gives (.refLoss (.windows [0, 22]) 5) (clockAt .run []) (fun u => u.clocks.ctl = .run) &&
    gives (.refLoss (.unlock 8) 5) (clockAt .run []) (fun u => u.clocks.ctl = .clockHold)) = true := by decide +kernel

theorem test_hold_exit :
    (gives (.holdExit 5) ((clockAt .clockHold [(0x5F1006, 6), (0x310101, 1), (0x300101, 1), (0x210005, 2), (0x220015, 32), (0x580313, 1)]).modClocks fun k => { k with refReady := true })
      (fun u => u.clocks.ctl = .run && u.obj 0x210006 = 2 && u.clocks.vid = 8 && u.portState 1 = 0 && u.engineState = 6 && u.bit 0x210004 1 && !u.bit 0x220015 5 && u.obj 0x580313 = 0) &&
    gives (.holdExit 5) (clockAt .clockHold []) (fun u => u.clocks.ctl = .clockHold)) = true := by decide +kernel

theorem test_rc_fault :
    (gives (.rcFault 3521 5) (clockAt .run []) (fun u => u.clocks.rcFault && u.bit 0x210004 8 && u.bit 0x5E0010 2 && u.obj 0x210027 = 1 && u.bit 0x5E0001 3 && u.obj 0x5E0058 = 1) &&
    gives (.rcFault 3520 5) (clockAt .run []) (fun u => !u.clocks.rcFault)) = true := by decide +kernel

theorem test_core_source :
    (gives (.coreSourceSwitch .sdo 1) (op []) (fun u => u.slave.resp = .abort 0x08000022 && u.obj 0x210022 = 1 && u.bit 0x210004 3) &&
    gives (.coreSourceSwitch .sdo 1) ((op []).modClocks fun k => { k with rcReady := true }) (fun u => u.slave.resp = .done && u.obj 0x210009 = 1) &&
    gives (.coreSourceSwitch .sdo 1) (op [(0x5F1006, 1)]) (fun u => u.slave.resp = .abort 0x08000022 && u.obj 0x210022 = 0)) = true := by decide +kernel

theorem test_pstate :
    (gives (.pstateDone false 549) ((put [(0x210006, 2)]).modClocks fun k => { k with psBusy := some 0 }) (fun u => u.clocks.psBusy = some 0) &&
    gives (.pstateRequest .reg 2) (running (op [])) (fun u => u.obj 0x210006 = 2 && u.clocks.vid = 8 && u.clocks.psBusy = some 2 && u.obj 0x210026 = 1) &&
    gives (.pstateRequest .reg 0) (running (op [(0x210006, 2)])) (fun u => u.obj 0x210006 = 2 && u.clocks.vid = 15 && u.clocks.psBusy = some 0) &&
    gives (.pstateRequest .sdo 0) ((running (op [(0x210006, 2)])).modClocks fun k => { k with hot := true }) (fun u => u.slave.resp = .abort 0x08000022) &&
    gives (.pstateDone false 550) ((put [(0x210006, 2)]).modClocks fun k => { k with psBusy := some 0, vid := 15 }) (fun u => u.obj 0x210006 = 2 && u.clocks.vid = 8 && u.bit 0x210004 5) &&
    gives (.pstateDone true 50) ((put [(0x210006, 2)]).modClocks fun k => { k with psBusy := some 1, psNext := some 0, vid := 11 }) (fun u => u.obj 0x210006 = 1 && u.clocks.psBusy = some 0 && u.clocks.vid = 15)) = true := by decide +kernel

theorem test_vr_fault :
    (gives (.vrFault 5) (running (op [(0x5F1006, 2)])) (fun u => u.obj 0x210006 = 3 && u.clocks.vid = 5 && u.engineState = 6 && u.obj 0x5F1008 = 131) &&
    gives .vrReadyRestored ((op []).modClocks fun k => { k with vrBlocked := true }) (fun u => !u.clocks.vrBlocked)) = true := by decide +kernel

theorem test_clock_gates :
    (gives (.clockGateWrite .sdo 0x7FFFFD 0) (op []) (fun u => u.clocks.closed = 2 && u.obj 0x21000A = 0x7FFFFD) &&
    gives (.clockGateWrite .sdo 0x7FFFFD 0) (op [(0x310101, 1)]) (fun u => u.clocks.closed = 0 && u.slave.resp = .abort 0x08000022) &&
    gives (.clockGateWrite .sdo 0x7FFFFD 2) (op []) (fun u => u.clocks.closed = 0 && u.clocks.closing = 2) &&
    gives (.gateAbort 1) ((op []).modClocks fun k => { k with closing := 2 }) (fun u => u.clocks.closed = 2 && u.clocks.closing = 0 && u.obj 0x210023 = 1)) = true := by decide +kernel

theorem test_safe_l :
    (gives (.safeLLow 5) (running (op [(0x5F1006, 1), (0x310101, 1), (0x480030, 2), (0x490001, 1), (0x49000F, 1)])) (fun u => u.engineState = 6 && u.obj 0x5F1008 = 128 &&
      u.portState 1 = 0 && u.axisState 0 = 0 && u.obj 0x490001 = 0 && u.clocks.safeLow) &&
    gives .safeLHigh ((op []).modClocks fun k => { k with safeLow := true }) (fun u => !u.clocks.safeLow)) = true := by decide +kernel

theorem test_junction :
    (gives (.junctionReading 25600 5) (op []) (fun u => u.bit 0x210004 10 && u.engineState = 0 && u.obj 0x21000C = 25600) &&
    gives (.junctionReading 28160 5) (op [(0x5F1006, 1)]) (fun u => u.engineState = 6 && u.obj 0x5F1008 = 132 && u.obj 0x210006 = 3 && u.clocks.hot) &&
    gives (.junctionReading 26879 5) ((op []).modClocks fun k => { k with hot := true }) (fun u => !u.clocks.hot)) = true := by decide +kernel

theorem test_vbat :
    (gives (.rtcWrite .sdo 32768) (op []) (fun u => u.rtc = 32768 && u.vbat.rtcValid) &&
    gives .rtcStop ((op []).modVbat fun v => { v with rtcBase := 5, rtcValid := true, retention := [1#8] }) (fun u => u.rtc = 0 && !u.vbat.rtcValid && u.vbat.retention = []) &&
    gives .operatingHoursTick (clockAt .clockHold []) (fun u => u.vbat.hours = 1) &&
    gives .operatingHoursTick (clockAt .refWait []) (fun u => u.vbat.hours = 0)) = true := by decide +kernel

/-- The start-up self-test runs. -/
def selfTesting (l : List (Key × Nat)) : State := put ((0x5E0002, 1) :: l)

theorem test_startup_selftest :
    (gives (.startupSelftestDone 0 0 0 0 false false cleanRead 0) (selfTesting []) (fun u => u.obj 0x5E0002 = 2 && u.obj 0x5E0003 = 0) &&
    gives (.startupSelftestDone 8 0 0 0 false false cleanRead 0) (selfTesting []) (fun u => u.obj 0x5E0002 = 3 && u.obj 0x5E0003 = 8 && u.bit 0x240010 3) &&
    gives (.startupSelftestDone 8 8 0 0 false false cleanRead 0) (selfTesting []) (fun u => u.obj 0x5E0002 = 3 && u.mram.lanesRetired = 8 && !u.bit 0x240010 3 && u.bit 0x5E0020 3) &&
    gives (.startupSelftestDone 0 0 1 1 false false cleanRead 0) (selfTesting []) (fun u => u.obj 0x5E0002 = 4 && u.obj 0x5E0003 = 0x2020000 && u.bit 0x5E0011 12 && u.bit 0x5E0021 0) &&
    gives (.startupSelftestDone 0 0 0 0 true false cleanRead 0) (selfTesting []) (fun u => u.obj 0x5E0002 = 4 && u.obj 0x5E0003 = 0x400000) &&
    gives (.startupSelftestDone 0 0 0 0 false false ⟨[.double], false⟩ 0) (selfTesting [(0x5E0020, 8)]) (fun u => u.obj 0x5E0002 = 4 && u.obj 0x5E0003 = 0x1000000 &&
      u.obj 0x5E0020 = 0 && u.obj 0x5E0055 = 1 && u.bit 0x5E0011 13) &&
    gives (.startupSelftestDone 0 0 0 0 false false ⟨[.single], false⟩ 0) (selfTesting []) (fun u => u.obj 0x5E0002 = 2 && u.obj 0x5E0054 = 1) &&
    gives (.startupSelftestDone 8 8 0 0 false false cleanRead 0) (put []) (fun u => u.obj 0x5E0002 = 0)) = true := by decide +kernel

theorem test_checkpoint_request :
    (gives .counterCheckpoint ((put []).modHealth fun h => { h with ckSeconds := 600 }) (fun u => u.health.ckBusy && u.health.ckSeconds = 0) &&
    gives .counterCheckpoint ((put []).modHealth fun h => { h with ckSeconds := 599 }) (fun u => !u.health.ckBusy) &&
    gives (.checkpoint .sdo) ((op []).modHealth fun h => { h with ckBusy := true }) (fun u => u.health.ckAgain && u.slave.resp = .done)) = true := by decide +kernel

theorem test_checkpoint_done :
    gives .checkpointDone (((put [(0x300301, 1), (0x310303, 77)]).modHealth fun h => { h with ckBusy := true, lifetime := [(0x220050, 5), (0x220052, 1)] }).modMram fun m => { m with totals := [(0x220050, 10)] })
      (fun u => u.mram.totals = [(0x220050, 15), (0x220052, 1)] && u.obj 0x5E0053 = 1 && u.bit 0x5E0004 0 && !u.health.ckBusy &&
        (match findKey u.mram.health 3 with | some e => e.serial = 77 | none => false)) = true := by decide +kernel

theorem test_health_commands :
    (gives (.clearRetirements .sdo) (op []) (fun u => u.mram.clearRetired) &&
    gives (.clearRetirements .sdo) (op [(0x5F1006, 1)]) (fun u => !u.mram.clearRetired && u.slave.resp = .abort 0x08000022) &&
    gives (.clearLog .sdo) ((op []).modMram fun m => { m with log := [[1#8]] }) (fun u => u.mram.log = []) &&
    gives (.clearLog .sdo) ((op [(0x5F1006, 1)]).modMram fun m => { m with log := [[1#8]] }) (fun u => u.mram.log = [[1#8]])) = true := by decide +kernel

/-- DC_ACTIVATION touches neither the heads nor memory, and its object is in family 0x2000. -/
theorem test_frame_of_dc_activation :
    (touches .dcActivation = some ([.clocks], [0x20]) &&
    gives .dcActivation ((op [(0x310101, 1)]).setNum 0x1000 4 7) (fun u => u.obj 0x310101 = 1 && u.num 0x1000 4 = 7 && u.pending = [] && u.obj 0x200021 = 1)) = true := by
  decide +kernel

/-- On an empty queue a clock passes, and the system time moves with the reference clock alone (R29). -/
theorem test_step :
    ((match step { op [] with pending := [.dcActivation, .rtcStop] } with
      | .next u => u.pending = [.rtcStop] && u.obj 0x200021 = 1
      | _ => false) &&
    (match step (op []) with
      | .next u => u.clk = 1 && u.sysTime = 0
      | _ => false) &&
    match step (running (op [])) with
      | .next u => u.clk = 1 && u.sysTime = 2
      | _ => false) = true := by decide +kernel

/-- A junction at 100 degrees makes sources 100 and 174 pending. -/
theorem test_event_vector :
    (match step { op [] with pending := [.junctionReading 25600 0] } with
      | .next u => u.pend = pendingVector u.od && u.pend = 1 <<< 100 ||| 1 <<< 174 && u.sound
      | _ => false) = true := by decide +kernel

/-- Objects listed after the command are objects of the dictionary. -/
theorem test_listed_objects :
    gives (.junctionReading 25600 0) (op []) (fun u => u.od.all (fun x => (rowOf x.1).isSome) && u.bit 0x210004 10) = true := by decide +kernel

theorem test_reset :
    (let s := State.reset
     s.sound && s.pend = 0 && s.engineState = 0 && s.errorRegister = 0 && !s.faultLow && !s.alertLow && s.obj 0x200003 = 0xFF && s.obj 0x1C1201 = 0x1600 &&
      s.obj 0x160003 = 0x5F100220 && s.obj 0x5F1008 = 0xFFFF && s.clocks.ctl = .rcStart && s.slave.al = .init && s.obj 0x5E0002 = 0 &&
      (List.finRange 16).all (fun n => s.portState n.val = 0 && !s.portEnabled n.val) && (List.finRange 4).all (fun a => s.axisState a = 0)) = true := by decide +kernel


/-- A mode write for heater 1 names heater 1 and its objects, and leaves heater 0 as it was. -/
theorem test_own_objects :
    (Claims.unit (.heaterModeWrite .sdo 1 2) = some (.heater, 1) && (Claims.writes (.heaterModeWrite .sdo 1 2)).isSome &&
    gives (.heaterModeWrite .sdo 1 2) (op [(0x490001, 1), (0x49000F, 1)]) (fun u => u.obj 0x490101 = 2 && u.obj 0x49010F = 2 && u.obj 0x490001 = 1 &&
      u.obj 0x49000F = 1)) = true := by decide +kernel

/-! Well-formedness: each check refuses a term. -/

/-- Every command of the list is refused. -/
def refusedAll (l : List Instr) : Bool := l.all fun i => !i.wf

/-- The bus, the dictionary and the slave. -/
theorem test_wf_refuses_access : refusedAll [
    .registerWrite (2 ^ 40) 0 0, .registerWrite 0 (2 ^ 32) 0, .registerWrite 0 0 (2 ^ 32), .rcRegisterRead (2 ^ 40) false,
    .pairLoRead (2 ^ 40), .pairHiWrite (2 ^ 40) 0, .pairHiWrite 0 (2 ^ 32), .memoryAccess .firmware true (2 ^ 40) 4 0 0 .clean,
    .memoryAccess .firmware true 0 4 (2 ^ 64) 0 .clean, .memoryAccess .firmware true 0 4 0 3 .clean,
    .sdoWrite (2 ^ 16) 0 [] false, .sdoWrite 0 256 [] false, .sdoSegment (2 ^ 16) 0 [] .last, .sdoSegment 0 256 [] .last,
    .siiWrite (2 ^ 16) 0, .siiWrite 0 (2 ^ 16), .dmaBusError 0 false (2 ^ 40) 0 ⟨[], 0, []⟩ 0, .dcSynchronised [(0, 2 ^ 31)] 0,
    .dcUnsync (-(2 ^ 31) - 1) 0, .storeParameters (2 ^ 64), .restoreDefaultParameters (2 ^ 64),
    .windowAccess true (2 ^ 64) 0 .clean, .windowAccess true 0 3 .clean] = true := by decide

/-- Reset, clocks and health. -/
theorem test_wf_refuses_clocks : refusedAll [
    .powerOn 16 true ⟨true, cleanRead, cleanRead⟩, .resetPin 16 true true, .softwareReset .sdo (2 ^ 64) 0, .softwareReset .sdo 0 16, .railsBackInRange 16,
    .coreSourceSwitch .sdo 256, .pstateRequest .sdo 256, .clockGateWrite .sdo (2 ^ 23) 0, .gateAbort 23,
    .junctionReading (2 ^ 15) 0, .rtcWrite .sdo (2 ^ 64), .startupSelftestDone (2 ^ 17) 0 0 0 false false cleanRead 0,
    .startupSelftestDone 0 (2 ^ 17) 0 0 false false cleanRead 0, .startupSelftestDone 0 0 32 0 false false cleanRead 0,
    .startupSelftestDone 0 0 0 32 false false cleanRead 0] = true := by decide

/-- Position, the ports and temperature. -/
theorem test_wf_refuses_heads : refusedAll [
    .countingEdge true (2 ^ 32) 0, .illegalTransition (2 ^ 32) 0, .zEvent (2 ^ 32) 0, .originLatch ⟨true, 2 ^ 32⟩ 0, .latchInEdge true (2 ^ 32) 0,
    .barModeWrite .sdo 256, .barSample (2 ^ 40) false false 0 0, .barSample 0 false false 64 0,
    .idReadDone 0 false { good with rom := 2 ^ 64 } good idEnd, .idReadDone 0 false { good with mem := 2 ^ 40 } good idEnd,
    .idReadDone 0 false good { good with rom := 2 ^ 64 } idEnd, .idReadDone 0 false good { good with mem := 2 ^ 40 } idEnd,
    .slotDescWrite 0 0 0 (2 ^ 13) true 0, .tsConversionDone 0 (2 ^ 12) 0, .ntcConversion 0 (2 ^ 12) 0,
    .heaterModeWrite .sdo 0 256] = true := by decide

/-- Ingest, render and the Jigsaw. -/
theorem test_wf_refuses_raster : refusedAll [
    .linkEnable .sdo 0 (2 ^ 64) 0, .arpRequest 0 (2 ^ 48) 0 0 0 0, .arpRequest 0 0 (2 ^ 32) 0 0 0, .arpRequest 0 0 0 (2 ^ 48) 0 0,
    .arpRequest 0 0 0 0 (2 ^ 32) 0, .statusRequest 0 (2 ^ 48) 0 0 0, .statusRequest 0 0 (2 ^ 32) 0 0, .statusRequest 0 0 0 (2 ^ 16) 0,
    .tilePacket 0 (2 ^ 48) 0 0 [] false 0, .tilePacket 0 0 (2 ^ 32) 0 [] false 0, .tilePacket 0 0 0 (2 ^ 16) [] false 0,
    .tileComplete false (2 ^ 32) 0, .fragmentTimeout false (2 ^ 32) 0, .nakIntervalExpiry false (2 ^ 32) 0, .jobIdWrite .sdo (2 ^ 64) 0,
    .storeConfigWrite .sdo .inputMode (2 ^ 64), .repeatConfigWrite .sdo .enable (2 ^ 64), .nozzleStateEdit .sdo 0 (2 ^ 64),
    .firingCounterReset .sdo 0 (2 ^ 64)] = true := by decide

/-- Cameras, the Kaleidoscope, the Analyser and the axes. -/
theorem test_wf_refuses_vision : refusedAll [
    .captureEnable .sdo 0 (2 ^ 64) 0, .frameStart 0 16 0 .clean 0, .frameStart 0 0 (2 ^ 16) .clean 0,
    .cameraPacket 0 16 0 [] .clean true false 0, .cameraPacket 0 0 64 [] .clean true false 0, .frameEnd 0 16 .clean 0,
    .triggerCommand .sdo 0 (2 ^ 64) 0, .directTransfer .sdo 0 (2 ^ 64), .holdMaskWrite .sdo 0 (2 ^ 64), .reprocess .sdo 0 64,
    .processParamWrite .sdo (2 ^ 24) [], .parameterFreeze .sdo (2 ^ 64), .kaleidoEnable .sdo (2 ^ 64), .apply .sdo (2 ^ 32),
    .axisEnable .sdo 0 (2 ^ 64) 0, .walkEnable .sdo 0 (2 ^ 64) 0] = true := by decide

/-- The stack. -/
theorem test_wf_refuses_stack : refusedAll [
    .stackRequest .dma 32 0 true [] 0 0, .stackRequest .dma 0 (2 ^ 40) true [] 0 0,
    .stackRequest .dma 0 0 true (List.replicate 65 0#8) 0 0, .stackRequest .dma 0 0 true [] (2 ^ 64) 0,
    .stackTempReading (List.replicate 9 0) 0, .stackTempReading [2 ^ 15] 0, .addressMapWrite .sdo (2 ^ 64),
    .alert 0 .readParity [] (2 ^ 40) ⟨0, 0⟩, .alert 0 .readParity [2 ^ 33] 0 ⟨0, 0⟩, .stackLossClear .sdo (2 ^ 64)] = true := by decide
end Sys2Proof.Tests
end

/-! SUPPORT. The state after reset, and a stop whose source of fault lies outside the list of the command that ends it. -/

namespace Sys2Proof.Machine

/-- Axis 0 has braked to a stop that is to put it into FAULT with source 192, whose register 0x5E00:12 no list of `writes` names. Every stop that a command starts names source 157 or 159; the state itself holds any number. -/
def strayStop : State :=
  ((State.reset.modClocks fun c => { c with ctl := .run }).setObj (ak 0x480030 0) 2).modAxis 0 fun x => { x with goal := .fault 2 192 }

/-- The stop comes to rest: its source becomes pending in 0x5E00:12 (R640). -/
theorem strayStop_atRest : ((strayStop.tick 0).atRest 0).obj 0x5E0012 = 1 := by decide +kernel

theorem strayStop_before : strayStop.obj 0x5E0012 = 0 := by decide +kernel

/-- Refutes O56: MOTION_AT_REST raises whatever source the axis's stop names, and writes 0x5E00:12 where that source is 192. -/
theorem not_commandsWriteTheirOwnObjects : ¬ Obligations.CommandsWriteTheirOwnObjects := by
  unfold Obligations.CommandsWriteTheirOwnObjects
  rintro ⟨own, -⟩
  have kept : ((strayStop.tick 0).atRest 0).settle.obj 0x5E0012 = strayStop.obj 0x5E0012 :=
    own (.motionAtRest 0 0) _ strayStop _ rfl rfl 0x5E0012 (by decide) (by decide) (by decide)
  rw [settle_obj _ (by decide), strayStop_atRest, strayStop_before] at kept
  exact absurd kept (by decide)

/-- Every head port is off and its pins rest (R137, R153, R154). -/
theorem reset_port (n : Fin 16) :
    State.reset.portState n.val = 0 ∧ State.reset.portEnabled n.val = false ∧ (State.reset.port.get n).cur = none ∧
      State.reset.fePulses n = false ∧ State.reset.laneIdle n = true ∧ State.reset.ldHigh n = false := by
  revert n; decide +kernel

/-- Every axis is off, with its driver disabled (R432). -/
theorem reset_axis (a : Fin 4) :
    State.reset.axisState a = 0 ∧ State.reset.stepHigh a = false ∧ State.reset.dirHigh a = false ∧ State.reset.enableHigh a = true := by
  revert a; decide +kernel

/-- Every heater is off and its output rests (R203). -/
theorem reset_heater (h : Fin 4) : State.reset.obj (hk 0x490001 h) = 0 ∧ State.reset.pwmLow h = true := by
  revert h; decide +kernel

/-- No camera trigger and no SYNC output is high, and the bar encoder's clock rests (R76, R338, R570). -/
theorem reset_pins : (∀ c : Fin 2, State.reset.trigHigh c = false) ∧ State.reset.barMaIdle = true ∧ ∀ i : Fin 2, State.reset.syncHigh i = false := by
  decide +kernel

/-- Every DMA channel is idle. -/
theorem reset_dma (ch : Fin 32) : State.reset.obj (dk 0x580013 ch) = 0 := by
  revert ch; decide +kernel

theorem reset_sound : State.reset.sound = true := by decide +kernel

/-- Settles O60: the ports, axes, heaters, pins and DMA channels by the lemmas above, the rest read off the state after reset. -/
theorem resetIsInert : Obligations.ResetIsInert := by
  unfold Obligations.ResetIsInert
  obtain ⟨trig, bar, sync⟩ := reset_pins
  have errors : State.reset.errorRegister = 0 := by decide +kernel
  exact ⟨reset_sound, rfl, rfl, rfl, rfl, rfl, rfl, rfl, rfl, rfl, errors, rfl, rfl, reset_port, fun h => (reset_heater h).2,
    fun a => (reset_axis a).2, trig, bar, sync, fun a => (reset_axis a).1, fun h => (reset_heater h).1, reset_dma, fun _ => rfl, rfl, rfl, rfl⟩

end Sys2Proof.Machine

/-! SUPPORT. Accesses of registers on the bus: what a read returns, what a write of each access code leaves, and the answer of both (R11 to R14, R37, R38, R93). -/

namespace Sys2Proof.Machine

open Sys2Proof.Claims

variable {s t : State} {a v hw : Nat} {inc : Bool}

/-! The bus: an access answers, and changes what its register's read or write changes. -/

theorem State.busWrite_resp (s : State) (a v hw : Nat) :
    (s.busWrite a v hw).slave.resp = if isRegister a then .busDone else .decodeError := by
  unfold State.busWrite
  split <;> rfl

theorem State.busRead_resp (s : State) (a : Nat) (inc : Bool) :
    (s.busRead a inc).slave.resp = if isRegister a then .busData (s.regRead a inc).1 else .decodeError := by
  unfold State.busRead
  split <;> rfl

theorem exec_registerWrite_register (h : isRegister a = true) (w : s.regWrite a v hw = t) :
    exec (.registerWrite a v hw) s = .next (t.answer .busDone).settle := by
  subst w
  exact congrArg (fun x => Host.Outcome.next (State.settle x)) (if_pos h)

theorem exec_pairHiWrite_register (h : isRegister a = true) (w : s.regWrite a v 0 = t) :
    exec (.pairHiWrite a v) s = .next (t.answer .busDone).settle :=
  exec_registerWrite_register h w

theorem exec_rcRegisterRead_register {x : Nat} (h : isRegister a = true) (w : s.regRead a inc = (x, t)) :
    exec (.rcRegisterRead a inc) s = .next (t.answer (.busData x)).settle := by
  have read : s.busRead a inc = t.answer (.busData x) := by
    unfold State.busRead
    rw [if_pos h, w]
  exact congrArg (fun x => Host.Outcome.next (State.settle x)) read

theorem exec_pairLoRead_register {x : Nat} (h : isRegister a = true) (w : s.regRead a false = (x, t)) :
    exec (.pairLoRead a) s = .next (t.answer (.busData x)).settle :=
  exec_rcRegisterRead_register h w

theorem exec_registerWrite_elsewhere (h : isRegister a = false) :
    exec (.registerWrite a v hw) s = .next (s.answer .decodeError).settle :=
  congrArg (fun x => Host.Outcome.next (State.settle x)) (if_neg (Bool.eq_false_iff.mp h))

theorem exec_rcRegisterRead_elsewhere (h : isRegister a = false) :
    exec (.rcRegisterRead a inc) s = .next (s.answer .decodeError).settle :=
  congrArg (fun x => Host.Outcome.next (State.settle x)) (if_neg (Bool.eq_false_iff.mp h))

theorem isRegister_eq_false (h : inRegisters a = false ∨ a % 4 ≠ 0) : isRegister a = false := by
  unfold isRegister
  rcases h with h | h <;> simp [h]

/-! An access that has ended. -/

@[simp] theorem ended_resp (t : State) (r : Resp) : (t.answer r).settle.slave.resp = r := settle_resp _

theorem ended_obj (t : State) (r : Resp) {k : Key} (hk : k ∉ shared) : (t.answer r).settle.obj k = t.obj k := settle_obj _ hk

theorem ended_bit (t : State) (r : Resp) {k : Key} (i : Nat) (hk : k ∉ shared) : (t.answer r).settle.bit k i = t.bit k i :=
  settle_bit _ i hk

theorem ended_heldAt (t : State) (r : Resp) (a : Nat) : (t.answer r).settle.heldAt a = t.heldAt a := by
  simp only [State.heldAt, settle_held, State.answer_held]

theorem ended_sameData (r : Resp) (hm : t.mem = s.mem) (hd : t.dom = s.dom) : sameData s (t.answer r).settle := by
  constructor
  · intro x
    rw [settle_byte]
    simp only [State.byte, State.answer_mem, hm]
  · intro k
    rw [settle_domain]
    simp only [State.domain, State.answer_dom, hd]

/-! Fields of a word. -/

theorem State.regRead_fields {l : List RegField} (hg : s.regGated a = false) (word : regWord a = .fields l) :
    s.regRead a inc = (s.wordRead (.fields l), l.foldl (State.clearRead · inc) s) := by
  simp [State.regRead, hg, word]

theorem field_whole {x w : Nat} (h : x < 2 ^ w) : field x 0 w = x := by
  simp [field, Nat.mod_eq_of_lt h]

theorem putField_whole {x w : Nat} (h : x < 2 ^ w) (y : Nat) : putField x 0 w y = y % 2 ^ w := by
  simp [putField, Nat.shiftRight_eq_div_pow, Nat.div_eq_of_lt h, Nat.mod_one]

/-- A word of one field that is no shadow field, is not switched off and lies in neither encoder's control word takes what the field takes. -/
theorem State.writeWord_single {f : RegField} (hs : f.acc ≠ .rws) (hoff : switchedOff v f = false) (ha : a ≠ 0x10600000 ∧ a ≠ 0x10600200)
    (hr : (writeFields v hw [f] (s, [])).2 = []) : s.writeWord a v hw [f] = (writeFields v hw [f] (s, [])).1 := by
  have order : fieldOrder v [f] = [f] := by
    cases hc : f.acc <;> simp [fieldOrder, hc, hoff]
  simp [State.writeWord, order, hs, ha, hr]

theorem writeFields_ro {f : RegField} (h : f.acc = .ro) : writeFields v hw [f] (s, []) = (s, []) := by
  simp [writeFields, h]

theorem writeFields_rw {f : RegField} (h : f.acc = .rw) (w : s.fieldWrite f (field v f.lo f.w) = (none, t)) :
    writeFields v hw [f] (s, []) = (t, []) := by
  simp [writeFields, State.writeOne, h, w]

theorem writeFields_w1c {f : RegField} {k : Key} {i : Nat} (h : f.acc = .w1c) (hsrc : f.src = .obj k i)
    (w : s.fieldWrite f (field v f.lo f.w) = (none, t)) :
    writeFields v hw [f] (s, []) = (t.setObj k (t.obj k ||| field hw f.lo f.w), []) := by
  simp [writeFields, State.writeOne, h, w, hsrc]

/-! Objects without an operation of their own. -/

/-- The lanes are assigned again only where a port's enable or span or the lanes in service have changed (R289). -/
theorem State.lanesSync_of_same (hp : t.renderedPorts = s.renderedPorts) (hl : t.lanesIn = s.lanesIn) : s.lanesSync t = t :=
  if_pos ⟨hp.symm, hl.symm⟩

/-- An object that neither enables a port, nor places its span, nor holds the lanes in service. -/
def noLaneKey (k : Nat) : Bool := decide (k < 0x240010 ∨ 0x24002F < k) && decide (k < 0x300001 ∨ 0x301001 < k)

theorem noLaneKey_ne {k : Nat} (h : noLaneKey k = true) (n : Fin 16) :
    0x240010 ≠ k ∧ 0x300001 + n.val * 0x100 ≠ k ∧ 0x240020 + n.val ≠ k := by
  simp only [noLaneKey, Bool.and_eq_true, decide_eq_true_eq] at h
  omega

theorem State.setObj_rendered {k : Key} (h : noLaneKey k = true) (x : Nat) (n : Fin 16) : (s.setObj k x).rendered n = s.rendered n := by
  obtain ⟨-, enable, span⟩ := noLaneKey_ne h n
  unfold State.rendered State.portEnabled State.spanWidth
  rw [State.setObj_obj_other _ _ enable, State.setObj_obj_other _ _ span]

theorem State.setObj_renderedPorts {k : Key} (h : noLaneKey k = true) (x : Nat) : (s.setObj k x).renderedPorts = s.renderedPorts :=
  List.filter_congr fun n _ => State.setObj_rendered h x n

theorem State.setObj_lanesIn {k : Key} (h : noLaneKey k = true) (x : Nat) : (s.setObj k x).lanesIn = s.lanesIn :=
  List.filter_congr fun l _ => congrArg (·.testBit l) (State.setObj_obj_other _ _ (noLaneKey_ne h 0).1)

theorem State.lanesSync_setObj {k : Key} (h : noLaneKey k = true) (x : Nat) : s.lanesSync (s.setObj k x) = s.setObj k x :=
  State.lanesSync_of_same (State.setObj_renderedPorts h x) (State.setObj_lanesIn h x)

/-- A number written by the rules of its row alone. -/
theorem State.writeNum_plain {k : Key} {row : ObjRow} {x y : Nat} (hk : homeKey k = k) (hrow : rowOf k = some row) (hacc : row.acc = .rw)
    (own : ownOp .reg k x = none) (lane : noLaneKey k = true) (plain : s.writePlain row k x = (none, s.setObj k y)) :
    s.writeNum .reg k x = (none, s.setObj k y) := by
  simp [State.writeNum, hk, hrow, hacc, own, plain, State.lanesSync_setObj lane]

/-- A refused number leaves its object and the lanes. -/
theorem State.writeNum_refused {k : Key} {row : ObjRow} {x abort : Nat} (hk : homeKey k = k) (hrow : rowOf k = some row) (hacc : row.acc = .rw)
    (own : ownOp .reg k x = none) (plain : s.writePlain row k x = (some abort, s)) : s.writeNum .reg k x = (some abort, s) := by
  simp [State.writeNum, hk, hrow, hacc, own, plain, State.lanesSync_of_same rfl rfl]

/-- A number whose object has an operation of its own, which leaves the ports rendered and the lanes in service. -/
theorem State.writeNum_own {k : Key} {row : ObjRow} {x : Nat} {op : State → Answer} (hk : homeKey k = k) (hrow : rowOf k = some row)
    (hacc : row.acc = .rw) (own : ownOp .reg k x = some op) (act : op s = (none, t)) (hp : t.renderedPorts = s.renderedPorts)
    (hl : t.lanesIn = s.lanesIn) : s.writeNum .reg k x = (none, t) := by
  simp [State.writeNum, hk, hrow, hacc, own, act, State.lanesSync_of_same hp hl]

/-- No mapping or assignment of process data (R566). -/
def notMapping (k : Key) : Bool := !decide (k / 0x10000 = 0x16 ∨ k / 0x10000 = 0x1A ∨ k / 0x100 = 0x1C12 ∨ k / 0x100 = 0x1C13)

/-- A row with every code of its type in range takes what fits its bits. -/
theorem ObjRow.any_inRange {k : Key} {n bits x : Nat} {acc : Acc} {pdo : Pdo} (h : x < 2 ^ bits) :
    (ObjRow.any k n bits acc pdo).inRange x = true := by
  have fits : (x : Int) < 2 ^ bits := by exact_mod_cast h
  have top : (x : Int) ≤ 2 ^ bits - 1 := Int.le_sub_one_of_lt fits
  simp [ObjRow.any, ObjRow.inRange, top, Nat.mod_one]

/-- A value in range comes into force where the state takes it. -/
theorem State.writePlain_value {k : Key} {row : ObjRow} {x : Nat} (hacc : row.acc = .rw) (hkind : row.kind = .val)
    (bar : s.writeBarred k x = false) (range : row.inRange x = true) (bad : s.valueBad k x = false) (map : notMapping k = true)
    (after : (s.setObj k x).afterWrite k x = s.setObj k x) : s.writePlain row k x = (none, s.setObj k x) := by
  simp only [notMapping, Bool.not_eq_true', decide_eq_false_iff_not] at map
  simp [State.writePlain, bar, hacc, hkind, range, bad, after, if_neg map, State.accept]

/-- A value out of range is refused, and nothing changes. -/
theorem State.writePlain_range {k : Key} {row : ObjRow} {x : Nat} (hacc : row.acc = .rw) (hkind : row.kind = .val)
    (bar : s.writeBarred k x = false) (range : row.inRange x = false) : s.writePlain row k x = (some 0x06090030, s) := by
  simp [State.writePlain, bar, hacc, hkind, range, State.refuse]

/-- A write of an event register clears the bits written with 1. -/
theorem State.writePlain_w1c {k : Key} {row : ObjRow} {x : Nat} (hacc : row.acc = .rw) (hkind : row.kind = .w1c)
    (bar : s.writeBarred k x = false) (stop : baseKey k ≠ 0x580002) :
    s.writePlain row k x = (none, s.setObj k (clearBits row.bits (s.obj k) x)) := by
  simp [State.writePlain, bar, hacc, hkind, stop, State.accept]

/-- A stored number reads as its bits. -/
theorem State.readObj_stored {k : Key} {row : ObjRow} (hk : homeKey k = k) (hrow : rowOf k = some row) (hacc : row.acc ≠ .wo)
    (hc : s.computed k = none) : s.readObj k = s.obj k % 2 ^ row.bits := by
  simp [State.readObj, hk, hrow, hacc, hc]

/-- The value of a pair whose LO has been written. -/
theorem State.pairValue_held {k : Key} {row : ObjRow} {lo w : Nat} (hrow : rowOf k = some row) (hs : row.signed = false)
    (held : s.heldAt (a - 4) = lo + 1) : s.pairValue k w a v = lo + v % 2 ^ w * 2 ^ 32 := by
  simp [State.pairValue, hrow, hs, held, Nat.shiftLeft_eq]

end Sys2Proof.Machine

/-! SUPPORT. The registers that the statement of the access codes names, one rule for each, and the statement's clauses from them (R11 to R14, R93, R622). -/

namespace Sys2Proof.Machine

open Sys2Proof.Claims

variable {s : State} {a : Nat}

/-! The registers that the statement names. -/

theorem regRead_reserved (s : State) (inc : Bool) : s.regRead 0x10900050 inc = (0, s) := rfl

theorem regWrite_reserved (s : State) (v hw : Nat) : s.regWrite 0x10900050 v hw = s := by
  have word : s.regWrite 0x10900050 v hw = s.writeWord 0x10900050 v hw [] := rfl
  simp [word, State.writeWord, fieldOrder, writeFields]

/-- RO: the retired lanes ignore a write. -/
theorem regWrite_lanesRetired (s : State) (v hw : Nat) : s.regWrite 0x10900030 v hw = s := by
  have word : s.regWrite 0x10900030 v hw = s.writeWord 0x10900030 v hw [ro 0 17 0x5E0020] := rfl
  have fields : writeFields v hw [ro 0 17 0x5E0020] (s, []) = (s, []) := writeFields_ro rfl
  rw [word, State.writeWord_single (by decide) rfl (by decide) (by rw [fields]), fields]

theorem rowOf_logMask : rowOf 0x5E0018 = some (.any 0x5E0018 4 32 .rw .no) := rfl

/-- RW: the log mask takes the word. -/
theorem regWrite_logMask (s : State) (v hw : Nat) : s.regWrite 0x10900020 v hw = s.setObj 0x5E0018 (v % 2 ^ 32) := by
  have word : s.regWrite 0x10900020 v hw = s.writeWord 0x10900020 v hw [rw 0 32 0x5E0018] := rfl
  have old : s.readObj 0x5E0018 = s.obj 0x5E0018 % 2 ^ 32 := State.readObj_stored rfl rowOf_logMask (by decide) rfl
  have put : putField (s.readObj 0x5E0018) 0 32 (field v 0 32) = v % 2 ^ 32 := by
    rw [old, putField_whole (Nat.mod_lt _ (by decide))]
    simp [field]
  have range : (ObjRow.any 0x5E0018 4 32 .rw .no).inRange (v % 2 ^ 32) = true :=
    ObjRow.any_inRange (Nat.mod_lt _ (by decide))
  have field : s.fieldWrite (rw 0 32 0x5E0018) (field v 0 32) = (none, s.setObj 0x5E0018 (v % 2 ^ 32)) := by
    show s.writeNum .reg 0x5E0018 (putField (s.readObj 0x5E0018) 0 32 (field v 0 32)) = _
    rw [put]
    exact State.writeNum_plain rfl rowOf_logMask rfl rfl rfl (State.writePlain_value rfl rfl rfl range rfl (by decide) rfl)
  have fields : writeFields v hw [rw 0 32 0x5E0018] (s, []) = (s.setObj 0x5E0018 (v % 2 ^ 32), []) := writeFields_rw rfl field
  rw [word, State.writeWord_single (by decide) rfl (by decide) (by rw [fields]), fields]

theorem rowOf_faults : rowOf 0x5E0010 = some (.w1c 0x5E0010 4 32 .tx) := rfl

/-- W1C: the bits written with 1 are cleared, those that hardware sets in the same clock are set. -/
theorem regWrite_faults (s : State) (v hw : Nat) :
    s.regWrite 0x10900010 v hw =
      (s.setObj 0x5E0010 (clearBits 32 (s.obj 0x5E0010) (v % 2 ^ 32))).setObj 0x5E0010 (clearBits 32 (s.obj 0x5E0010) (v % 2 ^ 32) ||| hw % 2 ^ 32) := by
  have word : s.regWrite 0x10900010 v hw = s.writeWord 0x10900010 v hw [w1c 32 0x5E0010] := rfl
  have field : s.fieldWrite (w1c 32 0x5E0010) (field v 0 32) = (none, s.setObj 0x5E0010 (clearBits 32 (s.obj 0x5E0010) (v % 2 ^ 32))) :=
    State.writeNum_plain rfl rowOf_faults rfl rfl rfl (State.writePlain_w1c rfl rfl rfl (by decide))
  have fields := writeFields_w1c (v := v) (hw := hw) (k := 0x5E0010) (i := 0) rfl rfl field
  rw [word, State.writeWord_single (by decide) rfl (by decide) (by rw [fields]), fields, State.setObj_obj_same]
  rfl

theorem testBit_clearBits {w i : Nat} (x y m : Nat) (h : i < w) :
    (clearBits w x (y % 2 ^ w) ||| m % 2 ^ w).testBit i = ((x.testBit i && !y.testBit i) || m.testBit i) := by
  simp [clearBits, Nat.testBit_mod_two_pow, Nat.testBit_two_pow_sub_one, h]

theorem rowOf_clockCounter : rowOf 0x210020 = some (.ctr 0x210020 8 32 .tx) := rfl

theorem regWord_clockCounter : regWord 0x10800100 = .fields [⟨0, 32, .rc, .obj 0x210020 0⟩] := rfl

/-- The object counts. -/
theorem kind_clockCounter : ((rowOf (baseKey 0x210020)).any fun r => r.kind = .ctr) = true := by
  have base : baseKey 0x210020 = 0x210020 := rfl
  rw [base, rowOf_clockCounter]
  rfl

/-- RC: the count is returned and cleared, but for an increment in the same clock. -/
theorem regRead_clockCounter (s : State) (inc : Bool) :
    s.regRead 0x10800100 inc =
      (s.obj 0x210020 % 2 ^ 32, if inc then (s.setObj 0x210020 0).bump 0x210020 else s.setObj 0x210020 0) := by
  have stored : s.computed 0x210020 = none := rfl
  have read : s.readObj 0x210020 = s.obj 0x210020 % 2 ^ 32 := State.readObj_stored rfl rowOf_clockCounter (by decide) stored
  have gate : s.regGated 0x10800100 = false := rfl
  have value : s.wordRead (.fields [⟨0, 32, .rc, .obj 0x210020 0⟩]) = s.obj 0x210020 % 2 ^ 32 := by
    have sum : s.wordRead (.fields [⟨0, 32, .rc, .obj 0x210020 0⟩]) = (field (s.readObj 0x210020) 0 32 % 2 ^ 32) <<< 0 + 0 := rfl
    rw [sum, read, field_whole (Nat.mod_lt _ (by decide))]
    simp
  have clear : s.clearRead inc ⟨0, 32, .rc, .obj 0x210020 0⟩ = if inc then (s.setObj 0x210020 0).bump 0x210020 else s.setObj 0x210020 0 := by
    simp only [State.clearRead, kind_clockCounter, Bool.and_true]
  rw [State.regRead_fields gate regWord_clockCounter, value, List.foldl_cons, clear, List.foldl_nil]

theorem rowOf_stateTime : rowOf 0x5F100A = some (.roVal 0x5F100A 1 64 .tx) := rfl

/-- A read of LO returns the low half and captures the high half for HI. -/
theorem regRead_stateTimeLo (s : State) :
    s.regRead 0x10A00114 false = (s.obj 0x5F100A % 2 ^ 32, s.hold 0x10A00118 (s.obj 0x5F100A / 2 ^ 32 % 2 ^ 32 + 1)) := by
  have read : s.readObj 0x5F100A = s.obj 0x5F100A % 2 ^ 64 := State.readObj_stored rfl rowOf_stateTime (by decide) rfl
  have word : s.regRead 0x10A00114 false =
      (s.readObj 0x5F100A % 2 ^ 32, s.hold 0x10A00118 (field (s.readObj 0x5F100A) 32 32 + 1)) := rfl
  have low : s.readObj 0x5F100A % 2 ^ 32 = s.obj 0x5F100A % 2 ^ 32 := by omega
  have high : field (s.readObj 0x5F100A) 32 32 = s.obj 0x5F100A / 2 ^ 32 % 2 ^ 32 := by
    rw [field, Nat.shiftRight_eq_div_pow, read]
    omega
  rw [word, low, high]

/-- A read of HI returns what its LO has captured. -/
theorem regRead_stateTimeHi {x : Nat} (h : s.heldAt 0x10A00118 = x + 1) : s.regRead 0x10A00118 false = (x, s.hold 0x10A00118 0) := by
  have word : s.regRead 0x10A00118 false =
      if s.heldAt 0x10A00118 = 0 then (s.wordRead (.roHi 0x5F100A 32), s) else (s.heldAt 0x10A00118 - 1, s.hold 0x10A00118 0) := rfl
  simp [word, h]

/-! Register pairs that are written. -/

theorem rowOf_ratio : rowOf 0x220004 = some (.val 0x220004 1 64 .rw .no 1 0x10000000000) := rfl

theorem ratio_inRange (x : Nat) : (ObjRow.val 0x220004 1 64 .rw .no 1 0x10000000000).inRange x = decide (1 ≤ x ∧ x ≤ 2 ^ 40) := by
  have reach : (ObjRow.val 0x220004 1 64 .rw .no 1 0x10000000000).inRange x =
      (decide ((1 : Int) ≤ x) && decide ((x : Int) ≤ 0x10000000000) && decide (x % 1 = 0)) := rfl
  rw [reach, Bool.eq_iff_iff]
  simp only [Bool.and_eq_true, decide_eq_true_eq]
  omega

/-- The ratio is written only in DISABLED and STANDBY (R60). -/
theorem writeBarred_ratio (h : s.engineState ≤ 1) (x : Nat) : s.writeBarred 0x220004 x = false := by
  have barred : s.writeBarred 0x220004 x = (decide (2 ≤ s.engineState) || false) := rfl
  rw [barred, Bool.or_false, decide_eq_false_iff_not]
  omega

/-- A write of LO is held until its HI is written. -/
theorem regWrite_ratioLo (h : s.engineState ≤ 1) (lo hw : Nat) : s.regWrite 0x10600010 lo hw = s.hold 0x10600010 (lo % 2 ^ 32 + 1) := by
  have word : s.regWrite 0x10600010 lo hw =
      if s.writeBarred 0x220004 (s.obj 0x220004) then s.configRefused 0x220004 else s.hold 0x10600010 (lo % 2 ^ 32 + 1) := rfl
  simp [word, writeBarred_ratio h]

theorem configRefused_ratio (t : State) : (t.configRefused 0x220004).obj 0x220004 = t.obj 0x220004 := by
  have silent : configRefusedBit 0x220004 = none := rfl
  unfold State.configRefused
  split
  · rfl
  split
  · exact State.setBit_obj_other _ _ _ (by decide)
  · rw [silent]

/-- A ratio in range is taken. -/
theorem writeNum_ratio {x : Nat} (h : s.engineState ≤ 1) (hx : 1 ≤ x ∧ x ≤ 2 ^ 40) :
    s.writeNum .reg 0x220004 x = (none, s.setObj 0x220004 x) :=
  State.writeNum_plain rfl rowOf_ratio rfl rfl rfl
    (State.writePlain_value rfl rfl (writeBarred_ratio h x) ((ratio_inRange x).trans (decide_eq_true hx)) rfl rfl rfl)

/-- A ratio out of range is refused. -/
theorem writeNum_ratio_refused {x : Nat} (h : s.engineState ≤ 1) (hx : ¬ (1 ≤ x ∧ x ≤ 2 ^ 40)) :
    s.writeNum .reg 0x220004 x = (some 0x06090030, s) :=
  State.writeNum_refused rfl rowOf_ratio rfl rfl
    (State.writePlain_range rfl rfl (writeBarred_ratio h x) ((ratio_inRange x).trans (decide_eq_false hx)))

/-- The two halves come into force together where they are in range; else the write is refused and the ratio is as it was. -/
theorem regWrite_ratioHi {lo x : Nat} (h : s.engineState ≤ 1) (held : s.heldAt 0x10600010 = lo + 1) (hi : Nat)
    (pair : lo + hi % 2 ^ 32 * 2 ^ 32 = x) :
    (s.regWrite 0x10600014 hi 0).obj 0x220004 = if 1 ≤ x ∧ x ≤ 2 ^ 40 then x else s.obj 0x220004 := by
  have word : s.regWrite 0x10600014 hi 0 =
      match (s.hold 0x10600010 0).writeNum .reg 0x220004 (s.pairValue 0x220004 32 0x10600014 hi) with
      | (none, t) => t
      | (some _, t) => t.configRefused 0x220004 := rfl
  have idle : (s.hold 0x10600010 0).engineState ≤ 1 := h
  rw [word, State.pairValue_held (a := 0x10600014) rowOf_ratio rfl held, pair]
  by_cases hx : 1 ≤ x ∧ x ≤ 2 ^ 40
  · rw [writeNum_ratio idle hx, if_pos hx]
    exact State.setObj_obj_same ..
  · rw [writeNum_ratio_refused idle hx, if_neg hx]
    exact configRefused_ratio _

/-- The RTC is written in any state. -/
theorem writeBarred_rtc (s : State) (x : Nat) : s.writeBarred 0x210010 x = false := rfl

theorem regWrite_rtcLo (s : State) (lo hw : Nat) : s.regWrite 0x10800024 lo hw = s.hold 0x10800024 (lo % 2 ^ 32 + 1) := by
  have word : s.regWrite 0x10800024 lo hw =
      if s.writeBarred 0x210010 (s.obj 0x210010) then s.configRefused 0x210010 else s.hold 0x10800024 (lo % 2 ^ 32 + 1) := rfl
  rw [word, writeBarred_rtc]
  rfl

theorem rowOf_rtc : rowOf 0x210010 = some (.any 0x210010 1 64 .rw .tx) := rfl

/-- The RTC set to a time now (R633). -/
def State.setRtc (s : State) (x : Nat) : State :=
  s.modVbat fun vb => { vb with rtcBase := x % 2 ^ 64, rtcClk := s.clk, rtcValid := true }

theorem rtcOp_setRtc (s : State) (x : Nat) : rtcOp x s = (none, s.setRtc x) := rfl

theorem writeNum_rtc (s : State) (x : Nat) : s.writeNum .reg 0x210010 x = (none, s.setRtc x) :=
  State.writeNum_own rfl rowOf_rtc rfl rfl (rtcOp_setRtc s x) rfl rfl

/-- The two halves come into force at once. -/
theorem regWrite_rtcHi {lo : Nat} (held : s.heldAt 0x10800024 = lo + 1) (hi : Nat) :
    s.regWrite 0x10800028 hi 0 = (s.hold 0x10800024 0).setRtc (lo + hi % 2 ^ 32 * 2 ^ 32) := by
  have word : s.regWrite 0x10800028 hi 0 =
      match (s.hold 0x10800024 0).writeNum .reg 0x210010 (s.pairValue 0x210010 32 0x10800028 hi) with
      | (none, t) => t
      | (some _, t) => t.configRefused 0x210010 := rfl
  rw [word, State.pairValue_held (a := 0x10800028) rowOf_rtc rfl held, writeNum_rtc]

theorem setRtc_rtc (s : State) {x : Nat} (hx : x < 2 ^ 64) : (s.setRtc x).rtc = x := by
  have now : (s.setRtc x).rtc = (x % 2 ^ 64 + (s.clk - s.clk) * 32768 / 500000000) % 2 ^ 64 := rfl
  rw [now, Nat.sub_self]
  omega

theorem ended_rtc (t : State) (r : Resp) : (t.answer r).settle.rtc = t.rtc := by
  simp only [State.rtc, settle_vbat, settle_clk, State.answer_vbat, State.answer_clk]

/-! A block without its clock. -/

theorem regWrite_gated (h : s.regGated a = true) (v hw : Nat) : s.regWrite a v hw = s := if_pos h

theorem regRead_gated (h : s.regGated a = true) (inc : Bool) : s.regRead a inc = (0, s) := if_pos h

section port

variable {n : Fin 16} (lo : 0x10100000 + n.val * 0x1000 ≤ a) (hi : a < 0x10100000 + n.val * 0x1000 + 0x1000)
include lo hi

theorem regGated_port (closed : s.clocks.closed.testBit n.val = true) : s.regGated a = true := by
  have block : a / 0x10000 = 0x1010 := by omega
  have number : a / 0x1000 % 16 = n.val := by omega
  simp [State.regGated, regGate, block, number, closed]

theorem isRegister_port (aligned : a % 4 = 0) : isRegister a = true := by
  have window : 0x10100000 ≤ a ∧ a < 0x10110000 := by omega
  simp [isRegister, inRegisters, window, aligned]

end port

/-! The statement, clause by clause. -/

/-- A write outside the registers and a read there are decode errors, and change nothing. -/
theorem elsewhere_keeps (v hw : Nat) (inc : Bool) (s : State) (h : inRegisters a = false ∨ a % 4 ≠ 0) :
    ∃ u w, exec (.registerWrite a v hw) s = .next u ∧ exec (.rcRegisterRead a inc) s = .next w ∧ u.slave.resp = .decodeError ∧
      w.slave.resp = .decodeError ∧ sameData s u ∧ sameData s w ∧ ∀ k, k ∉ shared → u.obj k = s.obj k ∧ w.obj k = s.obj k :=
  have free := isRegister_eq_false h
  ⟨_, _, exec_registerWrite_elsewhere free, exec_rcRegisterRead_elsewhere free, ended_resp .., ended_resp .., ended_sameData _ rfl rfl,
    ended_sameData _ rfl rfl, fun _ hk => ⟨ended_obj _ _ hk, ended_obj _ _ hk⟩⟩

theorem rw_takes (v hw : Nat) (s : State) :
    ∃ u, exec (.registerWrite 0x10900020 v hw) s = .next u ∧ u.slave.resp = .busDone ∧ u.obj 0x5E0018 = v % 2 ^ 32 ∧ sameData s u ∧
      ∀ k, k ∉ shared → k ≠ 0x5E0018 → u.obj k = s.obj k := by
  refine ⟨_, exec_registerWrite_register rfl (regWrite_logMask s v hw), ended_resp .., ?_, ended_sameData _ rfl rfl, fun k hk ne => ?_⟩
  · rw [ended_obj _ _ (by decide), State.setObj_obj_same]
  · rw [ended_obj _ _ hk, State.setObj_obj_other _ _ ne]

theorem ro_keeps (v hw : Nat) (s : State) :
    ∃ u w, exec (.registerWrite 0x10900030 v hw) s = .next u ∧ exec (.registerWrite 0x10900050 v hw) s = .next w ∧
      u.slave.resp = .busDone ∧ w.slave.resp = .busDone ∧ sameData s u ∧ sameData s w ∧
      ∀ k, k ∉ shared → u.obj k = s.obj k ∧ w.obj k = s.obj k :=
  ⟨_, _, exec_registerWrite_register rfl (regWrite_lanesRetired s v hw), exec_registerWrite_register rfl (regWrite_reserved s v hw),
    ended_resp .., ended_resp .., ended_sameData _ rfl rfl, ended_sameData _ rfl rfl,
    fun _ hk => ⟨ended_obj _ _ hk, ended_obj _ _ hk⟩⟩

theorem w1c_clears (v hw : Nat) (s : State) :
    ∃ u, exec (.registerWrite 0x10900010 v hw) s = .next u ∧ u.slave.resp = .busDone ∧ sameData s u ∧
      (∀ i, i < 32 → u.bit 0x5E0010 i = ((s.bit 0x5E0010 i && !v.testBit i) || hw.testBit i)) ∧
      ∀ k, k ∉ shared → k ≠ 0x5E0010 → u.obj k = s.obj k := by
  refine ⟨_, exec_registerWrite_register rfl (regWrite_faults s v hw), ended_resp .., ended_sameData _ rfl rfl, fun i hi => ?_, fun k hk ne => ?_⟩
  · rw [ended_bit _ _ _ (by decide), State.bit, State.setObj_obj_same, testBit_clearBits _ _ _ hi]
    rfl
  · rw [ended_obj _ _ hk, State.setObj_obj_other _ _ ne, State.setObj_obj_other _ _ ne]

theorem rc_clears (inc : Bool) (s : State) :
    ∃ u w, exec (.rcRegisterRead 0x10800100 inc) s = .next u ∧ exec (.rcRegisterRead 0x10900050 inc) s = .next w ∧
      u.slave.resp = .busData (s.obj 0x210020 % 2 ^ 32) ∧ u.obj 0x210020 = (if inc then 1 else 0) ∧ sameData s u ∧
      w.slave.resp = .busData 0 ∧ ∀ k, k ∉ shared → k ≠ 0x210020 → u.obj k = s.obj k ∧ w.obj k = s.obj k := by
  refine ⟨_, _, exec_rcRegisterRead_register rfl (regRead_clockCounter s inc), exec_rcRegisterRead_register rfl (regRead_reserved s inc),
    ended_resp .., ?_, ?_, ended_resp .., fun k hk ne => ⟨?_, ended_obj _ _ hk⟩⟩
  · rw [ended_obj _ _ (by decide)]
    cases inc <;> simp
  · cases inc <;> exact ended_sameData _ rfl rfl
  · rw [ended_obj _ _ hk]
    cases inc
    · exact State.setObj_obj_other _ _ ne
    · exact (State.bump_obj_other _ ne).trans (State.setObj_obj_other _ _ ne)

theorem pair_reads_as_one (x : Nat) (s : State) :
    ∃ u w, exec (.pairLoRead 0x10A00114) s = .next u ∧ exec (.rcRegisterRead 0x10A00118 false) (u.setObj 0x5F100A x) = .next w ∧
      u.slave.resp = .busData (s.obj 0x5F100A % 2 ^ 32) ∧ w.slave.resp = .busData (s.obj 0x5F100A / 2 ^ 32 % 2 ^ 32) := by
  refine ⟨_, _, exec_pairLoRead_register rfl (regRead_stateTimeLo s), exec_rcRegisterRead_register rfl (regRead_stateTimeHi ?_), ended_resp ..,
    ended_resp ..⟩
  exact (ended_heldAt _ _ _).trans (State.hold_heldAt_same ..)

/-- The state after a write of the LO register at `a`. -/
def State.loWritten (s : State) (a lo : Nat) : State := ((s.hold a (lo % 2 ^ 32 + 1)).answer .busDone).settle

theorem loWritten_heldAt (s : State) (a lo : Nat) : (s.loWritten a lo).heldAt a = lo % 2 ^ 32 + 1 :=
  (ended_heldAt _ _ _).trans (State.hold_heldAt_same ..)

theorem loWritten_obj (s : State) (a lo : Nat) {k : Key} (hk : k ∉ shared) : (s.loWritten a lo).obj k = s.obj k := ended_obj _ _ hk

theorem pair_written_as_one (lo hi hw : Nat) (s : State) (h : s.engineState ≤ 1) :
    ∃ u w, exec (.registerWrite 0x10600010 lo hw) s = .next u ∧ exec (.pairHiWrite 0x10600014 hi) u = .next w ∧
      u.obj 0x220004 = s.obj 0x220004 ∧
      (let x := lo % 2 ^ 32 + hi % 2 ^ 32 * 2 ^ 32
       w.obj 0x220004 = (if 1 ≤ x ∧ x ≤ 2 ^ 40 then x else s.obj 0x220004)) := by
  have idle : (s.loWritten 0x10600010 lo).engineState ≤ 1 := Nat.le_trans (Nat.le_of_eq (loWritten_obj s _ lo (by decide))) h
  have old := loWritten_obj s 0x10600010 lo (k := 0x220004) (by decide)
  refine ⟨s.loWritten 0x10600010 lo, _, exec_registerWrite_register rfl (regWrite_ratioLo h lo hw), exec_pairHiWrite_register rfl rfl, old, ?_⟩
  rw [ended_obj _ _ (by decide), regWrite_ratioHi idle (loWritten_heldAt s _ lo) hi rfl, old]

theorem rtc_written_as_one (lo hi hw : Nat) (s : State) :
    ∃ u w, exec (.registerWrite 0x10800024 lo hw) s = .next u ∧ exec (.pairHiWrite 0x10800028 hi) u = .next w ∧ u.vbat = s.vbat ∧
      w.rtc = lo % 2 ^ 32 + hi % 2 ^ 32 * 2 ^ 32 ∧ w.vbat.rtcValid = true := by
  refine ⟨s.loWritten 0x10800024 lo, _, exec_registerWrite_register rfl (regWrite_rtcLo s lo hw),
    exec_pairHiWrite_register rfl (regWrite_rtcHi (loWritten_heldAt s _ lo) hi), settle_vbat _, ?_, ?_⟩
  · rw [ended_rtc]
    exact setRtc_rtc _ (by omega)
  · rw [settle_vbat]
    rfl

theorem gated_reads_zero (v hw : Nat) (inc : Bool) (n : Fin 16) (s : State) (lo : 0x10100000 + n.val * 0x1000 ≤ a)
    (hi : a < 0x10100000 + n.val * 0x1000 + 0x1000) (aligned : a % 4 = 0) (closed : s.clocks.closed.testBit n.val = true) :
    ∃ u w, exec (.registerWrite a v hw) s = .next u ∧ exec (.rcRegisterRead a inc) s = .next w ∧ u.slave.resp = .busDone ∧
      w.slave.resp = .busData 0 ∧ sameData s u ∧ u.port = s.port ∧ ∀ k, k ∉ shared → u.obj k = s.obj k ∧ w.obj k = s.obj k :=
  have here := isRegister_port lo hi aligned
  have gated := regGated_port lo hi closed
  ⟨_, _, exec_registerWrite_register here (regWrite_gated gated v hw), exec_rcRegisterRead_register here (regRead_gated gated inc),
    ended_resp .., ended_resp .., ended_sameData _ rfl rfl, settle_port _, fun _ hk => ⟨ended_obj _ _ hk, ended_obj _ _ hk⟩⟩

/-- Settles O1: the answers by the bus, each access code by the rule of its register, the gated block by its gate. -/
theorem registersFollowTheirAccessCodes : Obligations.RegistersFollowTheirAccessCodes := by
  unfold Obligations.RegistersFollowTheirAccessCodes
  refine ⟨fun a v hw s => ⟨_, rfl, ?_⟩, fun a inc s => ⟨_, rfl, ?_⟩, fun a s => ⟨_, rfl, ?_⟩, fun a v s => ⟨_, rfl, ?_⟩,
    fun _ v hw inc s => elsewhere_keeps v hw inc s, rw_takes, ro_keeps, w1c_clears, rc_clears, pair_reads_as_one, pair_written_as_one,
    rtc_written_as_one, fun _ v hw inc n s => gated_reads_zero v hw inc n s⟩
  · rw [settle_resp, State.busWrite_resp]
  · rw [settle_resp, State.busRead_resp]
  · rw [settle_resp, State.busRead_resp]
  · rw [settle_resp, State.busWrite_resp]

end Sys2Proof.Machine

/-! SUPPORT. What leaves the position unit alone: changes of engine state, commits, the end of a job and the channels of the stack keep its objects and its hidden state (R59, R116, R121, R582, R586). -/

namespace Sys2Proof.Machine

/-- An object of a block other than the position unit. -/
abbrev outsidePosition (k : Key) : Prop := k < 0x220000 ∨ 0x220100 ≤ k

/-- The objects and the hidden state of the position unit are as they were. -/
structure PositionKept (s t : State) : Prop where
  obj : ∀ k, ¬ outsidePosition k → t.obj k = s.obj k
  position : t.position = s.position

theorem outsidePosition_above {k : Key} (h : 0x220100 ≤ k) (i : Nat) : outsidePosition (k + i) := .inr (Nat.le_add_right_of_le h)

theorem outsidePosition_pk {k : Key} (h : 0x220100 ≤ k) (n : Fin 16) : outsidePosition (pk k n) := outsidePosition_above h _

theorem outsidePosition_ak {k : Key} (h : 0x220100 ≤ k) (a : Nat) : outsidePosition (ak k a) := outsidePosition_above h _

theorem outsidePosition_ck8 {k : Key} (h : 0x220100 ≤ k) (c : Fin 8) : outsidePosition (ck8 k c) := outsidePosition_above h _

namespace PositionKept

variable {s t u : State}

theorem refl (s : State) : PositionKept s s := ⟨fun _ _ => rfl, rfl⟩

theorem trans (h : PositionKept s t) (g : PositionKept t u) : PositionKept s u :=
  ⟨fun k hk => (g.obj k hk).trans (h.obj k hk), g.position.trans h.position⟩

theorem ite {c : Prop} [Decidable c] (h : PositionKept s t) (g : PositionKept s u) : PositionKept s (if c then t else u) := by
  split <;> assumption

/-- A change of hidden state of another block. -/
theorem same (h : PositionKept s t) (objects : u.od = t.od) (position : u.position = t.position) : PositionKept s u :=
  h.trans ⟨fun k _ => by simp only [State.obj, objects], position⟩

theorem foldl {β : Type} {f : State → β → State} (h : PositionKept s t) (step : ∀ v b, PositionKept v (f v b)) (l : List β) :
    PositionKept s (l.foldl f t) := by
  induction l generalizing t with
  | nil => exact h
  | cons b l ih => exact ih (h.trans (step t b))

theorem setObj (h : PositionKept s t) {k : Key} (hk : outsidePosition k) (v : Nat) : PositionKept s (t.setObj k v) :=
  h.trans ⟨fun _ hj => State.setObj_obj_other t v fun e => hj (e ▸ hk), rfl⟩

theorem setBit (h : PositionKept s t) {k : Key} (hk : outsidePosition k) (i : Nat) (b : Bool) : PositionKept s (t.setBit k i b) :=
  h.setObj hk _

theorem event (h : PositionKept s t) {k : Key} (hk : outsidePosition k) (i : Nat) : PositionKept s (t.event k i) := h.setObj hk _

theorem eventIf (h : PositionKept s t) {k : Key} (hk : outsidePosition k) (c : Bool) (i : Nat) : PositionKept s (t.eventIf c k i) :=
  .ite (h.event hk i) h

theorem bumpN (h : PositionKept s t) {k : Key} (hk : outsidePosition k) (n : Nat) : PositionKept s (t.bumpN k n) :=
  (h.setObj hk _).same rfl rfl

theorem bump (h : PositionKept s t) {k : Key} (hk : outsidePosition k) : PositionKept s (t.bump k) := h.bumpN hk 1

/-! The fault manager and memory. -/

theorem logRaise (h : PositionKept s t) (src inst detail : Nat) : PositionKept s (t.logRaise src inst detail) := by
  unfold State.logRaise
  refine .ite ?_ ?_
  · exact ((h.same (u := t.countMerge src) rfl rfl).bump (.inr (by decide))).event (.inr (by decide)) 5
  · exact (h.same (u := t.putEntry ..) rfl rfl).bump (.inr (by decide))

theorem raise (h : PositionKept s t) (src inst detail : Nat) : PositionKept s (t.raise src inst detail) := by
  have pending : PositionKept s (t.setFault src) :=
    (h.setBit (outsidePosition_above (by decide) _) _ true).bump (.inr (by decide))
  exact .ite (pending.logRaise ..) pending

theorem putBytes_od (d : Bytes) (t : State) (a : Nat) : (t.putBytes a d).od = t.od ∧ (t.putBytes a d).position = t.position := by
  induction d generalizing t a with
  | nil => exact ⟨rfl, rfl⟩
  | cons b d ih => exact ih (t.setByte a b) (a + 1)

theorem setBytes (h : PositionKept s t) (a : Nat) (d : Bytes) : PositionKept s (t.setBytes a d) :=
  h.same (putBytes_od d t a).1 (putBytes_od d t a).2

theorem stackPut (h : PositionKept s t) (a : Nat) (d : Bytes) : PositionKept s (t.stackPut a d) := by
  unfold State.stackPut State.refuseAccesses
  exact .ite (h.setBytes a d) (.ite h (h.foldl (fun v _ => (refl v).bump (outsidePosition_ck8 (by decide) _)) _))

/-! Cycles, transfers and the ends of cycles (R98, R116, R121, R161, R692). -/

theorem modPort (h : PositionKept s t) (n : Fin 16) (f : Port → Port) : PositionKept s (t.modPort n f) := h.same rfl rfl

theorem modSched (h : PositionKept s t) (f : Sched → Sched) : PositionKept s (t.modSched f) := h.same rfl rfl

theorem noteMargin (h : PositionKept s t) (n : Fin 16) : PositionKept s (t.noteMargin n) := h.modSched _

theorem modeSync (h : PositionKept s t) (before : Bool) : PositionKept s (t.modeSync before) := by
  refine .ite h (h.foldl (fun v n => ?_) _)
  exact (((refl v).setBit (outsidePosition_pk (k := 0x32001F) (by decide) n) 0 v.extrapValid).modPort n _).noteMargin n

theorem lineDone (h : PositionKept s t) (n : Fin 16) (k j : Nat) : PositionKept s (t.lineDone n k j) := by
  unfold State.lineDone
  have moved : ∀ {u}, PositionKept s u → PositionKept s (if u.obj (pk 0x32001C n) = 0xFFFFFFFF ∨ lineAtOrBeyond j (u.obj (pk 0x32001C n)) then
      u.setObj (pk 0x32001C n) j else u) := fun g => .ite (g.setObj (outsidePosition_pk (by decide) n) j) g
  exact .ite h (moved (.ite (h.modPort n _) h))

theorem countCycle (h : PositionKept s t) (n : Fin 16) (blanked : Bool) : PositionKept s (t.countCycle n blanked) := by
  have counted : PositionKept s (t.bump (pk (if blanked then 0x330002 else 0x330001) n)) :=
    h.bump (outsidePosition_pk (by split <;> decide) n)
  exact .ite ((counted.setObj (outsidePosition_pk (by decide) n) 0).modPort n _) (counted.modPort n _)

theorem columnStopped (h : PositionKept s t) (n : Fin 16) (k j reason : Nat) : PositionKept s ((t.writeStatus n k j reason).lineDone n k j) :=
  PositionKept.lineDone (h.stackPut _ _) n k j

theorem cyclePassed (h : PositionKept s t) (n : Fin 16) (m : Nat) : PositionKept s (t.cyclePassed n m) := h.modPort n _

theorem recordCap (h : PositionKept s t) (n : Fin 16) (c : Cycle) : PositionKept s (t.recordCap n c) := by
  have recorded : PositionKept s (c.events.foldl (fun v kt =>
      (v.writeStatus n kt.1 (v.lineOf n c.m kt.1) 7).lineDone n kt.1 (v.lineOf n c.m kt.1)) t) := by
    refine h.foldl (fun v kt => ?_) _
    exact (refl v).columnStopped n kt.1 (v.lineOf n c.m kt.1) 7
  unfold State.recordCap
  dsimp only
  split
  · exact (recorded.countCycle n true).cyclePassed n c.m
  · exact recorded

theorem recordCaps (h : PositionKept s t) (n : Fin 16) : PositionKept s (t.recordCaps n) :=
  h.foldl (fun v c => (refl v).recordCap n c) _

theorem stopCycle (h : PositionKept s t) (n : Fin 16) (reason : Nat) (c : Cycle) : PositionKept s (t.stopCycle n reason c) := by
  unfold State.stopCycle
  have recorded := h.foldl (f := fun v k => (v.writeStatus n k (v.lineOf n c.m k) reason).lineDone n k (v.lineOf n c.m k))
    (fun v k => (refl v).columnStopped n k _ reason) (unpulsed (t.record n) c)
  exact (recorded.countCycle n _).cyclePassed n c.m

theorem oweHeat (h : PositionKept s t) (n : Fin 16) (c : Cycle) : PositionKept s (t.oweHeat n c) := h.modPort n _

theorem restop (h : PositionKept s t) (n : Fin 16) (reason : Nat) : PositionKept s (t.restop n reason) := by
  unfold State.restop
  split
  · refine .ite (PositionKept.modPort (h.foldl (fun v c => (refl v).foldl (fun w k => ?_) _) _) n _) h
    exact (refl w).stackPut _ _
  · exact h

theorem dropCycles (h : PositionKept s t) (n : Fin 16) : PositionKept s (t.dropCycles n) := h.modPort n _

theorem portState (h : PositionKept s t) (n : Fin 16) (x : Nat) : PositionKept s (t.setObj (pk 0x310001 n) x) :=
  h.setObj (outsidePosition_pk (by decide) n) x

theorem stopCycles (h : PositionKept s t) (n : Fin 16) (reason : Nat) : PositionKept s (t.stopCycles n reason) := by
  unfold State.stopCycles
  have stopped := ((h.restop n reason).recordCaps n).foldl (f := fun v c => (v.oweHeat n c).stopCycle n reason c)
    (fun v c => ((refl v).oweHeat n c).stopCycle n reason c) (t.port.get n).inProgress
  have noted : ∀ {v}, PositionKept s v → PositionKept s ((if v.portState n.val = 2 then v.setObj (pk 0x310001 n) 1 else v).dropCycles n) :=
    fun g => (PositionKept.ite (g.portState n 1) g).dropCycles n
  exact noted (.ite stopped (stopped.modPort n _))

theorem oweFlush (h : PositionKept s t) (n : Fin 16) : PositionKept s (t.oweFlush n) := .ite (h.modPort n _) h

theorem endWindup (h : PositionKept s t) (n : Fin 16) (result : Nat) : PositionKept s (t.endWindup n result) := by
  unfold State.endWindup
  split
  · exact h
  · have ended := (h.setObj (outsidePosition_pk (k := 0x31000E) (by decide) n) result).event (outsidePosition_pk (k := 0x310009) (by decide) n) 4
    exact PositionKept.oweFlush (.modPort (.ite (ended.portState n 1) ended) n _) n

theorem resetFireLine (h : PositionKept s t) (n : Fin 16) : PositionKept s (t.resetFireLine n) :=
  ((h.modPort n _).setObj (outsidePosition_pk (by decide) n) _).setObj (outsidePosition_pk (by decide) n) _

theorem endPort (h : PositionKept s t) (n : Fin 16) : PositionKept s (t.endPort n) := by
  unfold State.endPort
  dsimp only
  refine .ite (.portState ?_ n 1) ?_ <;> exact (((h.recordCaps n).modPort n _).oweFlush n).resetFireLine n

theorem setPk (h : PositionKept s t) {k : Key} (hk : 0x220100 ≤ k) (n : Fin 16) (v : Nat) : PositionKept s (t.setObj (pk k n) v) :=
  h.setObj (outsidePosition_pk hk n) v

theorem setPkBit (h : PositionKept s t) {k : Key} (hk : 0x220100 ≤ k) (n : Fin 16) (i : Nat) (b : Bool) :
    PositionKept s (t.setBit (pk k n) i b) :=
  h.setObj (outsidePosition_pk hk n) _

theorem countForce (h : PositionKept s t) (n : Fin 16) : PositionKept s (t.countForce n) := by
  have counted (dead weak off pairs runs first : Nat) : PositionKept s ((((((t.setObj (pk 0x380009 n) dead).setObj (pk 0x38000A n) weak).setObj
      (pk 0x38000B n) off).setObj (pk 0x38000C n) pairs).setObj (pk 0x38000D n) runs).setObj (pk 0x38000F n) first) :=
    (((((h.setPk (by decide) n dead).setPk (by decide) n weak).setPk (by decide) n off).setPk (by decide) n pairs).setPk (by decide) n runs).setPk
      (by decide) n first
  unfold State.countForce
  exact ((((counted _ _ _ _ _ _).setPkBit (by decide) n 0 _).setPkBit (by decide) n 1 _).setPkBit (by decide) n 4 _).setPkBit (by decide) n 6 _

theorem clearBytes (h : PositionKept s t) (a n : Nat) : PositionKept s (t.clearBytes a n) := h.same rfl rfl

theorem archiveMap (h : PositionKept s t) (n : Fin 16) : PositionKept s (t.archiveMap n) := by
  unfold State.archiveMap
  exact (((h.setBytes _ _).setBytes _ _).setBytes _ _).modSched _

theorem modJigsaw (h : PositionKept s t) (n : Fin 16) (f : JigsawPort → JigsawPort) : PositionKept s (t.modJigsaw n f) := h.same rfl rfl

theorem mapInForce (h : PositionKept s t) (n : Fin 16) : PositionKept s (t.mapInForce n) := by
  have counted : PositionKept s ((t.countForce n).modJigsaw n fun p => { p with stopAt := none }) := (h.countForce n).modJigsaw n _
  unfold State.mapInForce
  dsimp only
  split
  · have reported := ((counted.event (outsidePosition_pk (k := 0x380008) (by decide) n) 0).bump
      (outsidePosition_pk (k := 0x380027) (by decide) n)).raise 151 n.val 0
    exact .ite (reported.modJigsaw n _) reported
  · exact counted

theorem storeStates (h : PositionKept s t) (n : Fin 16) : PositionKept s (t.storeStates n) := h.same rfl rfl

theorem replaceMap (h : PositionKept s t) (n : Fin 16) : PositionKept s (t.replaceMap n) := by
  have archived := PositionKept.ite (c := (t.inJobState && t.mapPresent (t.mapForce n)) = true) (h.archiveMap n) h
  unfold State.replaceMap
  dsimp only
  split
  · exact h.countForce n
  · refine PositionKept.mapInForce (.ite ?_ (.storeStates ?_ n)) n <;> exact (archived.clearBytes _ _).setBytes _ _

theorem transferScalars (h : PositionKept s t) (n : Fin 16) : PositionKept s (t.transferScalars n) := by
  unfold State.transferScalars
  refine PositionKept.setPk (.setPk (.setPk (.setPk (h.foldl (fun v k => ?_) _) ?_ n _) ?_ n _) ?_ n _) (by decide) n _
  · exact (refl v).setObj (.inr (Nat.le_add_right_of_le (Nat.le_add_right_of_le (by decide)))) _
  all_goals decide

theorem transfer (h : PositionKept s t) (n : Fin 16) : PositionKept s (t.transfer n) := by
  unfold State.transfer
  exact (((((h.transferScalars n).replaceMap n).setBytes _ _).modSched _).setPkBit (by decide) n 3 false).setPk (by decide) n _

theorem commitDone (h : PositionKept s t) : PositionKept s t.commitDone := by
  unfold State.commitDone
  have off : outsidePosition 0x230012 ∧ outsidePosition 0x230013 ∧ outsidePosition 0x230015 ∧ outsidePosition 0x230019 :=
    ⟨.inr (by decide), .inr (by decide), .inr (by decide), .inr (by decide)⟩
  exact .ite (((((h.setObj off.1 0).setObj off.2.2.1 _).setObj off.2.1 2).event off.2.2.2 1).same rfl rfl) h

theorem releaseCommit (h : PositionKept s t) : PositionKept s t.releaseCommit := by
  unfold State.releaseCommit
  exact .ite (PositionKept.commitDone (h.foldl (fun v n => .ite ((refl v).transfer n) (refl v)) _)) h

theorem emptyLines (h : PositionKept s t) : PositionKept s t.emptyLines := by
  refine h.foldl (fun v n => ?_) _
  have emptied : PositionKept v (v.emptyRender n) :=
    PositionKept.same (((refl v).clearBytes (v.queueDesc n 0) 0x8000).setObj (outsidePosition_above (k := 0x240060) (by decide) n.val) 0) rfl rfl
  exact emptied.same rfl rfl

theorem analyserJobEnd (h : PositionKept s t) : PositionKept s t.analyserJobEnd := by
  have placed : PositionKept s (t.analyser.dist.foldl (fun v d => v.setObj (0x420021 + 0x10 * (d.1 % 2)) d.2) t) := by
    refine h.foldl (fun v d => ?_) _
    exact (refl v).setObj (outsidePosition_above (by decide) _) d.2
  exact placed.same rfl rfl

theorem modEngine (h : PositionKept s t) (f : Engine → Engine) : PositionKept s (t.modEngine f) := h.same rfl rfl

theorem endJob (h : PositionKept s t) : PositionKept s t.endJob := by
  have ended : PositionKept s ((List.finRange 16).foldl State.endPort t.releaseCommit) :=
    h.releaseCommit.foldl (fun v n => (refl v).endPort n) _
  exact PositionKept.analyserJobEnd (.emptyLines ((ended.modSched _).modEngine _))

/-! Changes of engine state (R582, R586, R587). -/

theorem modIngest (h : PositionKept s t) (f : Ingest → Ingest) : PositionKept s (t.modIngest f) := h.same rfl rfl

theorem resetStore (h : PositionKept s t) : PositionKept s t.resetStore := by
  unfold State.resetStore
  exact PositionKept.setObj (k := 0x250035) (h.modIngest _) (.inr (by decide)) 0

theorem setEngine (h : PositionKept s t) (st : Nat) : PositionKept s (t.setEngine st) := by
  have entered : ∀ {v}, PositionKept s v →
      PositionKept s ((((v.setObj 0x5F1007 v.engineState).setObj 0x5F1006 st).setObj 0x5F100A v.sysTime).event 0x5F100C 0) :=
    fun g => (((g.setObj (k := 0x5F1007) (.inr (by decide)) _).setObj (k := 0x5F1006) (.inr (by decide)) st).setObj (k := 0x5F100A)
      (.inr (by decide)) _).event (k := 0x5F100C) (.inr (by decide)) 0
  exact (entered (.ite h.resetStore h)).eventIf (k := 0x5F100C) (.inr (by decide)) _ 4

theorem axesFault (h : PositionKept s t) : PositionKept s t.axesFault := by
  refine h.foldl (fun v a => .ite ?_ (refl v)) _
  unfold State.stopAxis
  refine .ite (refl v) ?_
  have run : PositionKept v (v.runAxis a ((v.quickLimits a).toVelocity (v.axisKin a).2.1 (v.axisKin a).2.2 0) .stop) := (refl v).same rfl rfl
  exact (((run.eventIf (outsidePosition_ak (by decide) a) _ 2).setObj (outsidePosition_ak (by decide) a) 0).setObj
    (outsidePosition_ak (by decide) a) 2).setBit (outsidePosition_ak (by decide) a) 3 false

theorem stopWindups (h : PositionKept s t) : PositionKept s t.stopWindups := h.foldl (fun v n => (refl v).endWindup n 3) _

theorem analyserFault (h : PositionKept s t) : PositionKept s t.analyserFault := h.same rfl rfl

theorem enterFaultWith (h : PositionKept s t) (cause reason : Nat) : PositionKept s (t.enterFaultWith cause reason) := by
  unfold State.enterFaultWith
  dsimp only
  split
  · exact .ite (h.setObj (.inr (by decide)) cause) h
  · have stopped : PositionKept s ((List.finRange 16).foldl (fun v n => v.stopCycles n reason) t) :=
      h.foldl (fun v n => (refl v).stopCycles n reason) _
    have entered := ((((stopped.setEngine 6).setObj (k := 0x5F1008) (.inr (by decide)) cause).event (k := 0x5F100C) (.inr (by decide)) 3).bump
      (k := 0x5F1023) (.inr (by decide))).releaseCommit
    have owed := PositionKept.ite (c := t.inJobState = true) (entered.foldl (fun v n => (refl v).oweFlush n) (List.finRange 16)) entered
    exact PositionKept.axesFault (.analyserFault (.stopWindups (owed.modSched _).emptyLines))

theorem modStack (h : PositionKept s t) (f : Stack → Stack) : PositionKept s (t.modStack f) := h.same rfl rfl

theorem noteWait (h : PositionKept s t) (c : Fin 8) : PositionKept s (t.noteWait c) := .ite (h.modStack _) h

theorem failQueue (h : PositionKept s t) (c : Fin 8) (refused : Bool) : PositionKept s (t.failQueue c refused) := by
  have counted (n : Nat) : PositionKept s (if refused then (t.noteWait c).bumpN (ck8 0x500044 c) n else t.noteWait c) :=
    .ite ((h.noteWait c).bumpN (outsidePosition_ck8 (by decide) c) n) (h.noteWait c)
  unfold State.failQueue
  exact PositionKept.modStack (.ite (counted _) ((counted _).modStack _)) _

theorem checkChannels (h : PositionKept s t) : PositionKept s t.checkChannels := by
  unfold State.checkChannels
  refine .ite ?_ h
  have failed : PositionKept s ((List.finRange 8).foldl (fun v c => v.failQueue c false) t) :=
    h.foldl (fun v c => (refl v).failQueue c false) _
  exact ((failed.setBit (.inr (by decide)) 2 true).raise 165 255 0).enterFaultWith 165 8

theorem putMasked (h : PositionKept s t) (r : StackReq) : PositionKept s (t.putMasked r) := by
  have written : PositionKept s ((List.range 64).foldl (fun v i =>
      if r.mask.testBit i then v.setByte (r.addr + i) (r.data.getD i 0) else v) t) := by
    refine h.foldl (fun v i => .ite ?_ (refl v)) _
    exact (refl v).same rfl rfl
  unfold State.putMasked
  exact written.modStack _

theorem modMram (h : PositionKept s t) (f : Mram → Mram) : PositionKept s (t.modMram f) := h.same rfl rfl

theorem drainQueue (h : PositionKept s t) (c : Fin 8) : PositionKept s (t.drainQueue c) := by
  unfold State.drainQueue
  exact PositionKept.modStack (h.foldl (fun v r => .ite ((refl v).putMasked r) ((refl v).modStack _)) _) _

theorem channelOut (h : PositionKept s t) (c : Fin 8) : PositionKept s (t.channelOut c) := by
  have off := ((h.setObj (k := ck8 0x500020 c) (outsidePosition_ck8 (by decide) c) 3).setBit (k := 0x200003) (.inl (by decide)) c.val false).setObj
    (k := ck8 0x51001A c) (outsidePosition_ck8 (by decide) c)
  unfold State.channelOut
  exact (((((off _).modMram _).setBit (k := 0x520001) (.inr (by decide)) 0 true).bump (k := 0x520041) (.inr (by decide))).event (k := 0x520002)
    (.inr (by decide)) 4).raise 164 c.val 0

theorem retireAtBoundary (h : PositionKept s t) (c : Fin 8) : PositionKept s (t.retireAtBoundary c) := .ite ((h.drainQueue c).channelOut c) h

theorem stackBoundary (h : PositionKept s t) : PositionKept s t.stackBoundary := by
  have retired : PositionKept s ((List.finRange 8).foldl State.retireAtBoundary t) := h.foldl (fun v c => (refl v).retireAtBoundary c) _
  unfold State.stackBoundary
  dsimp only
  refine .ite h (.ite retired ?_)
  exact (((retired.setBit (k := 0x520001) (.inr (by decide)) 1 true).setBit (k := 0x520001) (.inr (by decide)) 3 false).setObj (k := 0x520004)
    (.inr (by decide)) 0).modStack _

theorem enterStandby (h : PositionKept s t) : PositionKept s t.enterStandby := (h.endJob.setEngine 1).stackBoundary.checkChannels

theorem autoEngine (h : PositionKept s t) : PositionKept s t.autoEngine := by
  unfold State.autoEngine
  split
  · exact h
  · rename_i l _
    dsimp only
    have drained := PositionKept.ite (c := (decide (t.engineState = 3) && t.renderPast l) = true) (h.setEngine 4) h
    exact .ite ((drained.enterStandby.event (k := 0x5F100C) (.inr (by decide)) 1).bump (k := 0x5F1022) (.inr (by decide))) drained

theorem holdCause (h : PositionKept s t) : PositionKept s t.holdCause :=
  .ite (PositionKept.setEngine (h.modEngine _) 5) h

theorem walkCheck (h : PositionKept s t) : PositionKept s t.walkCheck := by
  have reported := ((h.event (k := 0x240013) (.inr (by decide)) 5).bump (k := 0x240086) (.inr (by decide))).raise 148 0xFF 0
  unfold State.walkCheck State.walkError
  exact .ite (.ite (.ite reported.holdCause reported) h) h

end PositionKept
end Sys2Proof.Machine

/-! SUPPORT. Writes that reach their block, and the rules of the bar encoder's commands (R60, R76, R78 to R85). -/

namespace Sys2Proof.Machine

open Sys2Proof.Claims

variable {s t : State} {via : Via} {k : Key} {body : State → Answer}

/-! A write that reaches its block. -/

/-- The state in which a write is judged: an SDO request discards a segmented write in progress (R565). -/
def State.asked (s : State) (via : Via) : State := if via = .sdo then s.newSdo else s

/-- What the sender of a write that takes effect learns. -/
def takenResp (via : Via) : Resp := if via = .sdo then .done else .busDone

@[simp] theorem State.asked_obj (s : State) (via : Via) (k : Key) : (s.asked via).obj k = s.obj k := by cases via <;> rfl

@[simp] theorem State.asked_bit (s : State) (via : Via) (k : Key) (i : Nat) : (s.asked via).bit k i = s.bit k i := by cases via <;> rfl

@[simp] theorem State.asked_position (s : State) (via : Via) : (s.asked via).position = s.position := by cases via <;> rfl

theorem access_reached (h : reaches via s k = true) : s.access via k body =
    match body (s.asked via) with
    | (none, t) => t.answer (takenResp via)
    | (some abort, t) => if via = .sdo then t.answer (.abort abort) else (t.refusedAs abort k).answer .busDone := by
  cases via with
  | sdo =>
    simp only [reaches, Bool.and_eq_true, Bool.not_eq_true', decide_eq_true_eq] at h
    obtain ⟨opened, notInit, notBoot⟩ := h
    have gate : s.newSdo.gated k = false := opened
    cases al : s.slave.al
    case init => exact absurd al notInit
    case boot => exact absurd al notBoot
    all_goals
      simp only [State.access, al, gate, Bool.false_eq_true, if_false]
      rfl
  | reg =>
    simp only [reaches, Bool.and_true, Bool.not_eq_true'] at h
    simp only [State.access, h, Bool.false_eq_true, if_false]
    rfl
  | pdo => simp [reaches] at h

theorem access_taken (h : reaches via s k = true) (op : body (s.asked via) = (none, t)) : s.access via k body = t.answer (takenResp via) := by
  rw [access_reached h, op]

/-- A refused write: by SDO it ends with the abort, by register it completes and its block reports it. -/
theorem access_refused {abort : Nat} (h : reaches via s k = true) (op : body (s.asked via) = (some abort, t)) :
    s.access via k body = if via = .sdo then t.answer (.abort abort) else (t.refusedAs abort k).answer .busDone := by
  rw [access_reached h, op]

/-! The bar mode. -/

theorem barModeOp_taken {mode : Nat} (idle : s.engineState ≤ 1) (known : mode ≤ 2)
    (period : mode = 0 ∨ s.obj 0x220033 = 0 ∨ s.barShortest mode ≤ s.obj 0x220033 * 1000) :
    ∃ t, barModeOp mode s = (none, t) ∧ t.obj 0x220030 = mode ∧ t.bit 0x220015 10 = false := by
  have long : ¬ (mode ≠ 0 ∧ s.obj 0x220033 ≠ 0 ∧ s.obj 0x220033 * 1000 < s.barShortest mode) := by omega
  unfold barModeOp
  rw [if_neg (by simp [State.idleEngine, idle]), if_neg (by omega), if_neg long]
  refine ⟨_, rfl, ?_⟩
  split <;> simp [State.obj_setBit, State.bit_setBit]

theorem State.asked_barShortest (s : State) (via : Via) (mode : Nat) : (s.asked via).barShortest mode = s.barShortest mode := by
  simp [State.barShortest]

theorem barMode_taken (via : Via) (mode : Nat) (s : State) (h : reaches via s 0x220030 = true) (idle : s.engineState ≤ 1) (known : mode ≤ 2)
    (period : mode = 0 ∨ s.obj 0x220033 = 0 ∨ s.barShortest mode ≤ s.obj 0x220033 * 1000) :
    ∃ u, exec (.barModeWrite via mode) s = .next u ∧ u.obj 0x220030 = mode ∧ u.bit 0x220015 10 = false := by
  have idle' : (s.asked via).engineState ≤ 1 := by simpa [State.engineState] using idle
  obtain ⟨t, op, taken, clear⟩ := barModeOp_taken (s := s.asked via) idle' known (by simpa [State.asked_barShortest] using period)
  refine ⟨_, rfl, ?_⟩
  rw [access_taken h op, ended_obj _ _ (by decide), ended_bit _ _ _ (by decide)]
  exact ⟨taken, clear⟩

/-! A rejected sample (R84, R85). -/

theorem State.raise_obj (s : State) (src inst detail : Nat) {k : Key} (hk : ¬ outsidePosition k) : (s.raise src inst detail).obj k = s.obj k :=
  ((PositionKept.refl s).raise src inst detail).obj k hk

theorem State.raise_bit (s : State) (src inst detail : Nat) {k : Key} (i : Nat) (hk : ¬ outsidePosition k) :
    (s.raise src inst detail).bit k i = s.bit k i := by
  simp only [State.bit, State.raise_obj s src inst detail hk]

theorem State.raise_position (s : State) (src inst detail : Nat) : (s.raise src inst detail).position = s.position :=
  ((PositionKept.refl s).raise src inst detail).position

theorem barReject_stale (s : State) : s.barReject.bit 0x220015 9 = true := by
  unfold State.barReject
  dsimp only
  split
  · rw [State.raise_bit _ _ _ _ _ (by decide)]
    simp [State.bit_setBit, State.bit_event]
  · simp [State.bit_setBit]

theorem barReject_frame (s : State) : s.barReject.position.barFrame = none := by
  unfold State.barReject
  dsimp only
  split
  · rw [State.raise_position]
    rfl
  · rfl

theorem barReject_event {i : Nat} (h : s.bit 0x220016 i = true) : s.barReject.bit 0x220016 i = true := by
  unfold State.barReject
  dsimp only
  split
  · rw [State.raise_bit _ _ _ _ _ (by decide)]
    simp [State.bit_setBit, State.bit_event, h]
  · simpa [State.bit_setBit] using h

/-- A rejected sample changes no other object of the unit. -/
theorem barReject_obj {k : Key} (hk : ¬ outsidePosition k) (status : k ≠ 0x220015) (events : k ≠ 0x220016) : s.barReject.obj k = s.obj k := by
  unfold State.barReject
  dsimp only
  split
  · rw [State.raise_obj _ _ _ _ hk]
    simp [State.obj_setBit, State.obj_event, status, events]
  · simp [State.obj_setBit, status]

/-- A frame fault is counted and its sample rejected. -/
theorem barFault_rejects (v : State) : (((v.event 0x220016 11).bump 0x220058).barReject).bit 0x220015 9 = true ∧
    (((v.event 0x220016 11).bump 0x220058).barReject).bit 0x220016 11 = true ∧
    (((v.event 0x220016 11).bump 0x220058).barReject).obj 0x220058 = min (2 ^ 32 - 1) (v.obj 0x220058 + 1) ∧
    (((v.event 0x220016 11).bump 0x220058).barReject).obj 0x220040 = v.obj 0x220040 := by
  refine ⟨barReject_stale _, barReject_event ?_, ?_, ?_⟩
  · rw [State.bit_bump _ _ _ _ (by decide), State.bit_event]
    rfl
  · rw [barReject_obj (by decide) (by decide) (by decide), State.bump_obj_same, State.event_obj_other _ _ (by decide)]
  · rw [barReject_obj (by decide) (by decide) (by decide), State.bump_obj_other _ (by decide), State.event_obj_other _ _ (by decide)]

/-! Frames that fall due or time out (R79, R80, R82). -/

theorem barFrame_starts (t : Nat) (s : State) (on : s.timing = true) (mode : s.obj 0x220030 ≠ 0) (due : s.barDue t = true) :
    ∃ u, exec (.barFrameStart false t) s = .next u ∧ u.position.barFrame = some u.sysTime ∧ u.position.barStart = some u.clk := by
  have run : exec (.barFrameStart false t) s = .next (State.settle (((s.tick t).modPosition fun pos => { pos with barStart := some (s.tick t).clk }).modPosition
      fun pos => { pos with barFrame := some (s.tick t).sysTime, barY := (s.tick t).extrapolated (s.tick t).clk })) :=
    congrArg (fun x => Host.Outcome.next (State.settle x)) (if_pos (by simp [on, mode, due]))
  refine ⟨_, run, ?_, ?_⟩ <;> simp

/-- The end of a command whose frame has failed. -/
theorem barFault_settles {v : State} (counter : v.obj 0x220058 = s.obj 0x220058) (position : v.obj 0x220040 = s.obj 0x220040) :
    let u := (((v.event 0x220016 11).bump 0x220058).barReject).settle
    u.bit 0x220015 9 = true ∧ u.bit 0x220016 11 = true ∧ u.obj 0x220058 = min (2 ^ 32 - 1) (s.obj 0x220058 + 1) ∧ u.obj 0x220040 = s.obj 0x220040 := by
  intro u
  obtain ⟨stale, fault, count, kept⟩ := barFault_rejects v
  rw [settle_bit _ _ (by decide), settle_bit _ _ (by decide), settle_obj _ (by decide), settle_obj _ (by decide), ← counter, ← position]
  exact ⟨stale, fault, count, kept⟩

theorem barFrame_faulted (t : Nat) (s : State) (on : s.timing = true) (mode : s.obj 0x220030 ≠ 0) (due : s.barDue t = true) :
    ∃ u, exec (.barFrameStart true t) s = .next u ∧ u.bit 0x220015 9 = true ∧ u.bit 0x220016 11 = true ∧
      u.obj 0x220058 = min (2 ^ 32 - 1) (s.obj 0x220058 + 1) ∧ u.obj 0x220040 = s.obj 0x220040 := by
  have run : exec (.barFrameStart true t) s = .next (State.settle (((((s.tick t).modPosition fun pos => { pos with barStart := some (s.tick t).clk }).event
      0x220016 11).bump 0x220058).barReject)) := by
    show execBarFrameStart true t s = _
    simp [execBarFrameStart, on, mode, due]
  exact ⟨_, run, barFault_settles (State.tick_obj s t (by decide)) (State.tick_obj s t (by decide))⟩

theorem barFrame_timesOut (crcEnd : Option Nat) (t start time : Nat) (s : State) (on : s.timing = true) (frame : s.position.barFrame = some time)
    (begun : s.position.barStart = some start) (mode : s.obj 0x220030 = 1) (late : crcEnd.getD start + s.obj 0x220034 * 500 ≤ t) :
    ∃ u, exec (.barFrameTimeout crcEnd t) s = .next u ∧ u.bit 0x220015 9 = true ∧ u.bit 0x220016 11 = true ∧ u.position.barFrame = none ∧
      u.obj 0x220058 = min (2 ^ 32 - 1) (s.obj 0x220058 + 1) ∧ u.obj 0x220040 = s.obj 0x220040 := by
  have run : exec (.barFrameTimeout crcEnd t) s = .next (State.settle ((((s.tick t).event 0x220016 11).bump 0x220058).barReject)) := by
    show execBarFrameTimeout crcEnd t s = _
    simp [execBarFrameTimeout, on, frame, begun, mode, late]
  have dropped : (((s.tick t).event 0x220016 11).bump 0x220058).barReject.settle.position.barFrame = none := by
    rw [settle_position, barReject_frame]
  obtain ⟨stale, fault, counts⟩ := barFault_settles (s := s) (v := s.tick t) (State.tick_obj s t (by decide)) (State.tick_obj s t (by decide))
  exact ⟨_, run, stale, fault, dropped, counts⟩

/-! Samples (R78, R81, R84, R85). -/

/-- An error of a sample is reported and counted. -/
def State.noteError (s : State) (bad : Bool) (i : Nat) (k : Key) : State := if bad then (s.event 0x220016 i).bump k else s

theorem noteError_obj (s : State) (bad : Bool) (i : Nat) {j k : Key} (events : j ≠ 0x220016) (counter : j ≠ k) :
    (s.noteError bad i k).obj j = s.obj j := by
  unfold State.noteError
  split
  · rw [State.bump_obj_other _ counter, State.event_obj_other _ _ events]
  · rfl

theorem noteError_event {s : State} {j : Nat} (bad : Bool) (i : Nat) {k : Key} (counter : 0x220016 ≠ k) (h : s.bit 0x220016 j = true) :
    (s.noteError bad i k).bit 0x220016 j = true := by
  unfold State.noteError
  split
  · rw [State.bit_bump _ _ _ _ counter, State.bit_event]
    simp [h]
  · exact h

theorem noteError_true (s : State) (i : Nat) {k : Key} (counter : 0x220016 ≠ k) :
    (s.noteError true i k).bit 0x220016 i = true ∧ (s.noteError true i k).obj k = min (2 ^ 32 - 1) (s.obj k + 1) := by
  unfold State.noteError
  rw [if_pos rfl, State.bit_bump _ _ _ _ counter, State.bit_event, State.bump_obj_same, State.event_obj_other _ _ counter.symm]
  simp

@[simp] theorem noteError_position (s : State) (bad : Bool) (i : Nat) (k : Key) : (s.noteError bad i k).position = s.position := by
  unfold State.noteError
  split <;> rfl

theorem State.tick_barJumps (s : State) (t raw : Nat) : (s.tick t).barJumps raw = s.barJumps raw := by
  have last : (s.tick t).position.barRaw = s.position.barRaw := State.tick_position Position.barRaw (fun _ => rfl) s t
  unfold State.barJumps
  rw [last, State.tick_obj s t (by decide), State.tick_obj s t (by decide)]

/-- A sample of a frame in BiSS-C mode: its errors are noted, and it is rejected or used. -/
def State.bissSample (s : State) (crcBad nE nW : Bool) (raw time : Nat) : State :=
  let noted := ((s.noteError crcBad 8 0x220055).noteError (!nE) 9 0x220056).noteError (!nW) 10 0x220057
  let judged := noted.noteError (noted.barJumps raw) 12 0x220059
  if crcBad || !nE || noted.barJumps raw then judged.barReject else judged.barAccept raw time

theorem exec_barSample {word check t time : Nat} {nE nW : Bool} (on : s.timing = true) (frame : s.position.barFrame = some time)
    (mode : s.obj 0x220030 = 1) :
    exec (.barSample word nE nW check t) s = .next (State.settle ((s.tick t).bissSample
      (barCrc (s.obj 0x220032) word nE nW ≠ (check ^^^ 0x3F) % 64) nE nW (word % 2 ^ s.obj 0x220032) time)) := by
  have width : (s.tick t).obj 0x220032 = s.obj 0x220032 := State.tick_obj s t (by decide)
  have biss : (s.tick t).obj 0x220030 = 1 := (State.tick_obj s t (by decide)).trans mode
  show execBarSample word nE nW check t s = _
  simp only [execBarSample, on, frame, width, biss, State.bissSample, State.noteError, if_true, decide_true, Bool.true_and, Bool.not_true, Bool.false_and,
    Bool.false_eq_true, if_false, decide_eq_true_eq]

theorem noteError_barJumps (s : State) (bad : Bool) {i : Nat} {k : Key} (width : 0x220032 ≠ k) (step : 0x22003A ≠ k) (raw : Nat) :
    (s.noteError bad i k).barJumps raw = s.barJumps raw := by
  unfold State.barJumps
  rw [noteError_position, noteError_obj s bad i (by decide) width, noteError_obj s bad i (by decide) step]

/-- A used sample gives the position, its raw word and its time, and is not stale; the check of the walk and the end of a job leave them. -/
theorem barAccept_gives (s : State) (raw time : Nat) :
    (s.barAccept raw time).obj 0x220040 = s.barPosition raw ∧ (s.barAccept raw time).obj 0x220041 = raw ∧
      (s.barAccept raw time).obj 0x220042 = time ∧ (s.barAccept raw time).bit 0x220015 9 = false := by
  obtain ⟨v, taken, position, word, clock, stale⟩ : ∃ v : State, s.barAccept raw time = v.walkCheck.autoEngine ∧ v.obj 0x220040 = s.barPosition raw ∧
      v.obj 0x220041 = raw ∧ v.obj 0x220042 = time ∧ v.bit 0x220015 9 = false := by
    refine ⟨_, rfl, ?_⟩
    have position : ∀ f, (s.modPosition f).barPosition raw = s.barPosition raw := fun _ => rfl
    split <;> simp [State.obj_setBit, State.obj_setObj, State.bit_setBit, position]
  have kept := ((PositionKept.refl v).walkCheck.autoEngine).obj
  simp only [taken, State.bit, kept _ (show ¬ outsidePosition 0x220040 by decide), kept _ (show ¬ outsidePosition 0x220041 by decide),
    kept _ (show ¬ outsidePosition 0x220042 by decide), kept _ (show ¬ outsidePosition 0x220015 by decide)]
  exact ⟨position, word, clock, stale⟩

theorem barSample_taken (word : Nat) (nW : Bool) (check t time : Nat) (s : State) (on : s.timing = true) (frame : s.position.barFrame = some time)
    (mode : s.obj 0x220030 = 1) (crc : barCrc (s.obj 0x220032) word true nW = (check ^^^ 0x3F) % 64)
    (step : s.barJumps (word % 2 ^ s.obj 0x220032) = false) :
    ∃ u, exec (.barSample word true nW check t) s = .next u ∧
      (let d := s.obj 0x220032
       let steps := sx d (word % 2 ^ d + 2 ^ d - s.obj 0x220038 % 2 ^ d)
       u.obj 0x220040 = toBits 32 (floorShift (steps * sx 64 (s.obj 0x220037)) 16) ∧ u.obj 0x220041 = word % 2 ^ d) ∧
      u.obj 0x220042 = time ∧ u.bit 0x220015 9 = false := by
  have near : ((s.tick t).noteError (!nW) 10 0x220057).barJumps (word % 2 ^ s.obj 0x220032) = false := by
    rw [noteError_barJumps _ _ (by decide) (by decide), State.tick_barJumps, step]
  have used : (s.tick t).bissSample false true nW (word % 2 ^ s.obj 0x220032) time =
      ((s.tick t).noteError (!nW) 10 0x220057).barAccept (word % 2 ^ s.obj 0x220032) time := by
    simp [State.bissSample, near, show ∀ (v : State) i k, v.noteError false i k = v from fun _ _ _ => rfl]
  have scaled : ((s.tick t).noteError (!nW) 10 0x220057).barPosition (word % 2 ^ s.obj 0x220032) = s.barPosition (word % 2 ^ s.obj 0x220032) := by
    unfold State.barPosition
    simp only [noteError_obj (s.tick t) (!nW) 10 (j := 0x220032) (k := 0x220057) (by decide) (by decide),
      noteError_obj (s.tick t) (!nW) 10 (j := 0x220037) (k := 0x220057) (by decide) (by decide),
      noteError_obj (s.tick t) (!nW) 10 (j := 0x220038) (k := 0x220057) (by decide) (by decide),
      State.tick_obj s t (show 0x220032 ∉ timeKeys by decide), State.tick_obj s t (show 0x220037 ∉ timeKeys by decide),
      State.tick_obj s t (show 0x220038 ∉ timeKeys by decide)]
  obtain ⟨position, raw, clock, stale⟩ := barAccept_gives ((s.tick t).noteError (!nW) 10 0x220057) (word % 2 ^ s.obj 0x220032) time
  refine ⟨_, exec_barSample on frame mode, ?_⟩
  simp only [crc, ne_eq, not_true_eq_false, decide_false, used]
  rw [settle_obj _ (by decide), settle_obj _ (by decide), settle_obj _ (by decide), settle_bit _ _ (by decide)]
  exact ⟨⟨position.trans scaled, raw⟩, clock, stale⟩

theorem barSample_crcRejected (word : Nat) (nE nW : Bool) (check t time : Nat) (s : State) (on : s.timing = true)
    (frame : s.position.barFrame = some time) (mode : s.obj 0x220030 = 1)
    (crc : barCrc (s.obj 0x220032) word nE nW ≠ (check ^^^ 0x3F) % 64) :
    ∃ u, exec (.barSample word nE nW check t) s = .next u ∧ u.obj 0x220040 = s.obj 0x220040 ∧ u.bit 0x220015 9 = true ∧ u.bit 0x220016 8 = true ∧
      u.obj 0x220055 = min (2 ^ 32 - 1) (s.obj 0x220055 + 1) := by
  refine ⟨_, exec_barSample on frame mode, ?_⟩
  obtain ⟨noted, counted⟩ := noteError_true (s.tick t) 8 (k := 0x220055) (by decide)
  rw [settle_obj _ (by decide), settle_bit _ _ (by decide), settle_bit _ _ (by decide), settle_obj _ (by decide)]
  simp only [crc, ne_eq, not_false_eq_true, decide_true, State.bissSample, Bool.true_or, if_true]
  refine ⟨?_, barReject_stale _, barReject_event ?_, ?_⟩
  · rw [barReject_obj (by decide) (by decide) (by decide), noteError_obj _ _ _ (by decide) (by decide), noteError_obj _ _ _ (by decide) (by decide),
      noteError_obj _ _ _ (by decide) (by decide), noteError_obj _ _ _ (by decide) (by decide), State.tick_obj _ _ (by decide)]
  · exact noteError_event _ _ (by decide) (noteError_event _ _ (by decide) (noteError_event _ _ (by decide) noted))
  · rw [barReject_obj (by decide) (by decide) (by decide), noteError_obj _ _ _ (by decide) (by decide), noteError_obj _ _ _ (by decide) (by decide),
      noteError_obj _ _ _ (by decide) (by decide), counted, State.tick_obj _ _ (by decide)]

/-- Settles O4: each command's clause by the rule of its frames or samples. -/
theorem barFramesGivePosition : Obligations.BarFramesGivePosition := by
  unfold Obligations.BarFramesGivePosition
  exact ⟨⟨barMode_taken, barFrame_starts, barFrame_faulted, barFrame_timesOut⟩, barSample_taken, barSample_crcRejected⟩

end Sys2Proof.Machine

/-! SUPPORT. ENCODER_ENABLE and ENCODER_DISABLE: the checks of R62 and what an accepted write does (R47, R51, R60, R64). -/

namespace Sys2Proof.Machine

open Sys2Proof.Claims

variable {s : State} {via : Via} {a b : Bool} {bad : Nat}

/-- The loop starts again with the encoder: no velocity, EXTRAP_VALID clear (R64). -/
def State.loopRestarted (s : State) : State := (s.keepTrack s.clk).unseed.modeSync s.extrapValid

theorem loopRestarted_kept (s : State) : PositionKept (s.keepTrack s.clk).unseed s.loopRestarted := (PositionKept.refl _).modeSync _

theorem loopRestarted_objects (s : State) {k : Key} (hk : ¬ outsidePosition k) :
    s.loopRestarted.obj k = ((s.setBit 0x220015 2 false).setObj 0x220014 0).obj k :=
  (loopRestarted_kept s).obj k hk

theorem loopRestarted_velocity (s : State) : s.loopRestarted.obj 0x220014 = 0 := by
  rw [loopRestarted_objects s (by decide), State.setObj_obj_same]

theorem loopRestarted_count (s : State) : s.loopRestarted.obj 0x220017 = s.obj 0x220017 := by
  rw [loopRestarted_objects s (by decide), State.setObj_obj_other _ _ (by decide), State.setBit_obj_other _ _ _ (by decide)]

theorem loopRestarted_bit (s : State) (i : Nat) : s.loopRestarted.bit 0x220015 i = if i = 2 then false else s.bit 0x220015 i := by
  rw [State.bit, loopRestarted_objects s (by decide), State.setObj_obj_other _ _ (by decide)]
  exact State.bit_setBit s _ _ _ _ _

theorem loopRestarted_acc (s : State) : s.loopRestarted.position.acc = s.position.acc := by
  rw [(loopRestarted_kept s).position]
  rfl

/-- An accepted enable starts the loop again and keeps the count and the accumulator; armed, it clears the declared faults. -/
theorem encoderEnableOp_taken (a b : Bool) (idle : s.engineState ≤ 1) (pairs : bad &&& s.obj 0x220006 = 0) (ratio : s.obj 0x220004 ≠ 0) :
    ∃ t, encoderEnableOp a b bad s = (none, t) ∧ t.obj 0x220001 = 1 ∧ t.obj 0x220014 = 0 ∧ t.bit 0x220015 2 = false ∧ t.bit 0x220015 10 = false ∧
      t.obj 0x220017 = s.obj 0x220017 ∧ t.position.acc = s.position.acc ∧ t.position.a = a ∧ t.position.b = b ∧
      (s.position.clearArmed = true → t.bit 0x220015 6 = false ∧ t.position.faultZ = false) := by
  unfold encoderEnableOp
  rw [if_neg (by simp [State.idleEngine, idle]), if_neg (by simpa using pairs), if_neg (show s.ratio ≠ 0 from ratio)]
  refine ⟨_, rfl, ?_⟩
  simp only [show State.modeSync s.extrapValid (s.keepTrack s.clk).unseed = s.loopRestarted from rfl]
  cases s.position.clearArmed <;>
    simp [State.obj_setObj, State.obj_setBit, State.bit_setObj, State.bit_setBit, loopRestarted_velocity, loopRestarted_bit, loopRestarted_count,
      loopRestarted_acc]

theorem encoderDisableOp_taken (idle : s.engineState ≤ 1) :
    ∃ t, encoderDisableOp s = (none, t) ∧ t.obj 0x220001 = 0 ∧ t.bit 0x220015 0 = false ∧ t.bit 0x220015 10 = false ∧ t.position.clearArmed = true ∧
      t.obj 0x220017 = s.obj 0x220017 ∧ t.position.acc = s.position.acc ∧ t.bit 0x220015 6 = s.bit 0x220015 6 ∧
      t.position.faultZ = s.position.faultZ := by
  unfold encoderDisableOp
  rw [if_neg (by simp [State.idleEngine, idle])]
  refine ⟨_, rfl, ?_⟩
  simp [State.obj_setObj, State.obj_setBit, State.bit_setObj, State.bit_setBit]

theorem encoderEnableOp_noRatio (idle : s.engineState ≤ 1) (pairs : bad &&& s.obj 0x220006 = 0) (ratio : s.obj 0x220004 = 0) :
    encoderEnableOp a b bad s = s.configErr 0x06090030 := by
  unfold encoderEnableOp
  rw [if_neg (by simp [State.idleEngine, idle]), if_neg (by simpa using pairs), if_pos (show s.ratio = 0 from ratio)]

theorem encoderEnableOp_badPair (idle : s.engineState ≤ 1) (pairs : bad &&& s.obj 0x220006 ≠ 0) :
    encoderEnableOp a b bad s = s.configErr 0x08000022 := by
  unfold encoderEnableOp
  rw [if_neg (by simp [State.idleEngine, idle]), if_pos pairs]

/-! The commands. Time passes before a write is judged, and leaves what the checks read. -/

/-- The state in which a write to the encoder at clock `t` is judged. -/
def State.askedAt (s : State) (via : Via) (t : Nat) : State := (s.tick t).asked via

theorem askedAt_obj (s : State) (via : Via) (t : Nat) {k : Key} (hk : k ∉ timeKeys) : (s.askedAt via t).obj k = s.obj k := by
  rw [State.askedAt, State.asked_obj, State.tick_obj s t hk]

theorem askedAt_bit (s : State) (via : Via) (t : Nat) {i : Nat} (h : i ≠ 4) : (s.askedAt via t).bit 0x220015 i = s.bit 0x220015 i := by
  rw [State.askedAt, State.asked_bit, State.tick_bit s t h]

theorem askedAt_position {β : Type} (f : Position → β) (hf : ∀ p, f p.part = f p) (s : State) (via : Via) (t : Nat) :
    f (s.askedAt via t).position = f s.position := by
  rw [State.askedAt, State.asked_position, State.tick_position f hf]

theorem askedAt_idle (via : Via) (t : Nat) (idle : s.engineState ≤ 1) : (s.askedAt via t).engineState ≤ 1 :=
  Nat.le_trans (Nat.le_of_eq (askedAt_obj s via t (by decide))) idle

theorem reaches_tick (t : Nat) {k : Key} (h : reaches via s k = true) : reaches via (s.tick t) k = true := by
  simpa only [reaches, State.tick_gated, State.tick_slave] using h

theorem encoder_enabled (via : Via) (a b : Bool) (pa pb pz : PairSample) (t : Nat) (s : State) (h : reaches via s 0x220001 = true)
    (idle : s.engineState ≤ 1) (pairs : badPairs pa pb pz &&& s.obj 0x220006 = 0) (ratio : s.obj 0x220004 ≠ 0) :
    ∃ u, exec (.encoderEnable via a b pa pb pz t) s = .next u ∧ u.obj 0x220001 = 1 ∧ u.obj 0x220014 = 0 ∧ u.bit 0x220015 2 = false ∧
      u.bit 0x220015 10 = false ∧ u.obj 0x220017 = s.obj 0x220017 ∧ u.position.acc = s.position.acc ∧ u.position.a = a ∧ u.position.b = b ∧
      (s.position.clearArmed = true → u.bit 0x220015 6 = false ∧ u.position.faultZ = false) := by
  obtain ⟨v, op, facts⟩ := encoderEnableOp_taken (s := s.askedAt via t) (bad := badPairs pa pb pz) a b (askedAt_idle via t idle)
    (by rwa [askedAt_obj s via t (by decide)]) (by rwa [askedAt_obj s via t (by decide)])
  have armed := askedAt_position Position.clearArmed (fun _ => rfl) s via t
  have acc := askedAt_position Position.acc (fun _ => rfl) s via t
  rw [armed, acc, askedAt_obj s via t (by decide)] at facts
  refine ⟨_, rfl, ?_⟩
  rw [access_taken (reaches_tick t h) op]
  simpa only [ended_obj _ _ (show (0x220001 : Key) ∉ shared by decide), ended_obj _ _ (show (0x220014 : Key) ∉ shared by decide),
    ended_obj _ _ (show (0x220017 : Key) ∉ shared by decide), ended_bit _ _ _ (show (0x220015 : Key) ∉ shared by decide), settle_position,
    State.answer_position] using facts

theorem encoder_disabled (via : Via) (t : Nat) (s : State) (h : reaches via s 0x220001 = true) (idle : s.engineState ≤ 1) :
    ∃ u, exec (.encoderDisable via t) s = .next u ∧ u.obj 0x220001 = 0 ∧ u.bit 0x220015 0 = false ∧ u.bit 0x220015 10 = false ∧
      u.position.clearArmed = true ∧ u.obj 0x220017 = s.obj 0x220017 ∧ u.position.acc = s.position.acc ∧ u.bit 0x220015 6 = s.bit 0x220015 6 ∧
      u.position.faultZ = s.position.faultZ := by
  obtain ⟨v, op, facts⟩ := encoderDisableOp_taken (s := s.askedAt via t) (askedAt_idle via t idle)
  have acc := askedAt_position Position.acc (fun _ => rfl) s via t
  have fault := askedAt_position Position.faultZ (fun _ => rfl) s via t
  rw [acc, fault, askedAt_obj s via t (by decide), askedAt_bit s via t (by decide)] at facts
  refine ⟨_, rfl, ?_⟩
  rw [access_taken (reaches_tick t h) op]
  simpa only [ended_obj _ _ (show (0x220001 : Key) ∉ shared by decide), ended_obj _ _ (show (0x220017 : Key) ∉ shared by decide),
    ended_bit _ _ _ (show (0x220015 : Key) ∉ shared by decide), settle_position, State.answer_position] using facts

/-- A write of the encoder that is refused with CONFIG_ERR: only that bit is set, and the sender learns the abort. -/
theorem encoder_refused {t abort : Nat} {body : State → Answer} (h : reaches via s 0x220001 = true) (idle : s.engineState ≤ 1)
    (op : body (s.askedAt via t) = (s.askedAt via t).configErr abort) :
    let u := ((s.tick t).access via 0x220001 body).settle
    u.obj 0x220001 = s.obj 0x220001 ∧ u.bit 0x220015 10 = true ∧ refused via u abort ∧ u.bit 0x220015 6 = s.bit 0x220015 6 ∧
      ∀ f : Position → Bool, (∀ p, f p.part = f p) → f u.position = f s.position := by
  intro u
  let v := (s.askedAt via t).setBit 0x220015 10 true
  have quiet : v.refusedAs abort 0x220001 = v := by
    have still : ¬ 2 ≤ v.engineState := by
      have := askedAt_idle via t idle
      rw [show v.engineState = (s.askedAt via t).engineState from State.setBit_obj_other _ _ _ (by decide)]
      omega
    simp [State.refusedAs, State.configRefused, still, configRefusedBit]
  have ended : u = (v.answer (if via = .sdo then .abort abort else .busDone)).settle := by
    show State.settle _ = _
    rw [access_refused (reaches_tick t h) op]
    split
    · rfl
    · exact congrArg (fun x => State.settle (State.answer x .busDone)) quiet
  have enabled : v.obj 0x220001 = s.obj 0x220001 := by
    rw [show v.obj 0x220001 = (s.askedAt via t).obj 0x220001 from State.setBit_obj_other _ _ _ (by decide), askedAt_obj s via t (by decide)]
  have status (i : Nat) : v.bit 0x220015 i = if i = 10 then true else (s.askedAt via t).bit 0x220015 i := State.bit_setBit ..
  rw [ended, ended_obj _ _ (by decide), ended_bit _ _ _ (by decide), ended_bit _ _ _ (by decide), settle_position, State.answer_position, status, status]
  refine ⟨enabled, rfl, ?_, askedAt_bit s via t (by decide), fun f hf => askedAt_position f hf s via t⟩
  cases via with
  | sdo => exact ended_resp ..
  | reg => exact ended_resp ..
  | pdo => simp [reaches] at h

/-- Settles O2: an accepted write by the operation's own rule, a refused one by what CONFIG_ERR leaves. -/
theorem encoderIsEnabledByItsChecks : Obligations.EncoderIsEnabledByItsChecks := by
  unfold Obligations.EncoderIsEnabledByItsChecks
  refine ⟨⟨encoder_enabled, encoder_disabled⟩, fun via a b pa pb pz t s h idle pairs ratio => ?_, fun via a b pa pb pz t s h idle pairs ratio => ?_⟩
  · have op := encoderEnableOp_noRatio (s := s.askedAt via t) (a := a) (b := b) (bad := badPairs pa pb pz) (askedAt_idle via t idle)
      (by rwa [askedAt_obj s via t (by decide)]) (by rwa [askedAt_obj s via t (by decide)])
    obtain ⟨kept, error, told, -⟩ := encoder_refused h idle op
    exact ⟨_, rfl, kept, error, told⟩
  · have op := encoderEnableOp_badPair (s := s.askedAt via t) (a := a) (b := b) (bad := badPairs pa pb pz) (askedAt_idle via t idle)
      (by rwa [askedAt_obj s via t (by decide)])
    obtain ⟨kept, error, told, stopped, part⟩ := encoder_refused h idle op
    exact ⟨_, rfl, kept, error, told, stopped, part Position.faultA fun _ => rfl, part Position.faultB fun _ => rfl,
      part Position.faultZ fun _ => rfl⟩

end Sys2Proof.Machine

/-! SUPPORT. Three states that meet the conditions of a clause and break its conclusion: a wire fault on an encoder that has stopped counting already, process data whose length follows the web position, and a refused COMMIT whose job ends in the same command. -/

namespace Sys2Proof.Machine

/-- The encoder has stopped counting (bit 6) with EXTRAP_VALID (bit 2) still set; the pair of ENC_A is checked and has no declared fault. -/
def stoppedExtrap : State :=
  (((State.reset.modClocks fun c => { c with ctl := .run }).setObj 0x220001 1).setObj 0x220006 1).setObj 0x220015 0x44

/-- Samples of a pair in disagreement for 200 timing clocks (R43). -/
def brokenSamples : List PairSample := List.replicate 200 ⟨false, false, false⟩

/-- A wire fault clears EXTRAP_VALID only as it stops the counting, and here it has stopped before (R45, R64). -/
theorem wireFault_stoppedExtrap {u : State} (run : exec (.wireFault false brokenSamples 0) stoppedExtrap = .next u) : u.bit 0x220015 2 = true := by
  rw [← Host.Outcome.next.inj run, settle_bit _ _ (by decide)]
  decide +kernel

/-- Refutes O3: a wire fault that is declared after counting has stopped leaves EXTRAP_VALID as it is. -/
theorem not_encoderEdgesMoveCountAndLatch : ¬ Obligations.EncoderEdgesMoveCountAndLatch := by
  unfold Obligations.EncoderEdgesMoveCountAndLatch
  rintro ⟨-, ⟨wireFault, -⟩, -⟩
  obtain ⟨u, run, -, -, cleared, -⟩ := wireFault false brokenSamples 0 stoppedExtrap (by decide +kernel) (by decide +kernel) (by decide +kernel)
    (by decide +kernel) (by decide +kernel)
  exact Bool.noConfusion ((wireFault_stoppedExtrap run).symm.trans cleared)

/-- SM2 is assigned a list of 19 entries that are the position unit's own objects, the last of them the high-water mark 0x2200:13; the web stands 8 beyond the mark. -/
def positionMapped : State :=
  ((((((State.reset.modClocks fun c => { c with ctl := .run }).modSlave fun sl => { sl with al := .op }).modPosition fun pos =>
    { pos with acc := 0x80000 }).setObj 0x1C1200 1).setObj 0x1C1201 0x2200).setObj 0x220000 19).setObj 0x1C3201 2

/-- Process data one byte longer than the assignment is before the clock of the command. -/
def longData : Bytes := List.replicate 34 0

/-- The mark moves in that clock, the assigned length with it, and the data are taken (R68, R568). -/
theorem processData_positionMapped {u : State} (run : exec (.processDataOutput longData 0) positionMapped = .next u) :
    u.slave.rxWait = some longData := by
  rw [← Host.Outcome.next.inj run, settle_rxWait]
  decide +kernel

/-- Refutes O46: data of a wrong length are not ignored where an assignment outside R566 makes the length follow the web position. -/
theorem not_processDataIsExchangedBySyncType : ¬ Obligations.ProcessDataIsExchangedBySyncType := by
  unfold Obligations.ProcessDataIsExchangedBySyncType
  rintro ⟨-, ignored, -⟩
  obtain ⟨u, run, -, waits, -⟩ := ignored longData 0 positionMapped (.inr (by decide +kernel))
  exact Option.some_ne_none longData ((processData_positionMapped run).symm.trans waits)

/-- DRAINING with line 0 as the last line, no port enabled, and a commit whose transfers are all done but whose lock is held. -/
def drainedLocked : State := ((State.reset.setObj 0x5F1009 0).setObj 0x5F1006 4).setObj 0x230012 1

/-- The end of the job releases the lock and completes the commit (R121, R582). -/
theorem commit_drainedLocked {u : State} (run : exec (.commit .reg 0 0) drainedLocked = .next u) : u.obj 0x230013 = 2 := by
  rw [← Host.Outcome.next.inj run, settle_obj _ (by decide)]
  decide +kernel

/-- Refutes O47: a COMMIT refused for the lock does not show result 3 where the same command ends the job, which completes the commit in progress. -/
theorem not_engineTakesCommands : ¬ Obligations.EngineTakesCommands := by
  unfold Obligations.EngineTakesCommands
  rintro ⟨-, -, -, -, -, -, -, -, -, commit⟩
  obtain ⟨u, run, -, locked, -⟩ := commit .reg 0 0 drainedLocked (by decide +kernel)
  obtain ⟨-, result⟩ := locked (by decide +kernel) (by decide +kernel)
  exact absurd ((commit_drainedLocked run).symm.trans result) (by decide)

end Sys2Proof.Machine
